-- ==== Sys2Proof/Word.lean ====
section
/-! DEFINITION. Word.lean: the byte, text and number types of the desk lines and the trunk. -/

namespace Sys2Proof

/-- One byte of a desk frame or of a trunk message (R208). -/
abbrev Byte := BitVec 8

/-- Text as the desk head and the trunk carry it: character codes, first character first (R208). -/
abbrev Text := List Byte

/-- The correlation token of a management message (R198, four bytes). -/
abbrev Token := BitVec 32

/-- A station, and the desk line of the same number: 0 to 7 (00_scope, Stations and lines). -/
abbrev StationNo := Fin 8

/-- A tag of the query table: 0 to 15 (R110). -/
abbrev Tag := Fin 16

/-- A time: day number and minute of the day (00_scope, Time). -/
structure Time where
  day : Nat
  minute : Nat
  deriving DecidableEq, Repr, Inhabited

end Sys2Proof
end

