-- ==== Sys2Proof/Config.lean ====
section
/-! DEFINITION. Config.lean: the capacities and ranges the spec fixes for every BDC-800, and the one free value: the code of the
RESPONSE result RUN_IN_PROGRESS, which R208's list of codes does not give. -/

namespace Sys2Proof.Config

/-- R49: most borrower entries. -/
def maxBorrowers : Nat := 4096
/-- R49: most minor units of a fine balance; also the largest item cap and fine threshold (4.1). -/
def maxMoney : Nat := 16777215
/-- R49: most items on loan and overdue count of an entry. -/
def maxCount8 : Nat := 255
/-- R68: most item exception entries. -/
def maxExceptions : Nat := 1024
/-- R70: most badge numbers. -/
def maxBadges : Nat := 16
/-- R19: most entries of an item list. -/
def maxItems : Nat := 12
/-- R20: most AWAITING entries of a transaction. -/
def maxAwaiting : Nat := 4
/-- R15: most outcomes in a scan history. -/
def maxHistory : Nat := 8
/-- R126: most pending loan entries. -/
def maxLoans : Nat := 512
/-- R163: records of a full journal page. -/
def pageRecords : Nat := 64
/-- 9.3: journal pages in the ring. -/
def journalPages : Nat := 128
/-- R201, R131, R171: the ceiling of a saturating 32-bit count. -/
def maxCount32 : Nat := 4294967295
/-- R185, R186: entries carried by one BORROWER_CHANGES or PENDING_LOANS block. -/
def blockEntries : Nat := 32
/-- R86: the last day number and minute of the clock. -/
def lastDay : Nat := 65535
def lastMinute : Nat := 1439
/-- 4.1: days of a calendar window. -/
def windowDays : Nat := 512
/-- R94, R97: days a due-date search looks beyond its first day. -/
def searchDays : Nat := 14
/-- R31: the message index sent with tone REFUSE for a full journal. -/
def journalFullIndex : Nat := 250
/-- R153: characters of a slip line. -/
def slipWidth : Nat := 32
/-- R157: ready count at which a slip is printed again. -/
def reprintAfter : Nat := 3
/-- R6: seconds of silence that detach a line. -/
def silenceLimit : Nat := 3
/-- R75: the category of strangers and of borrowers without an entry. -/
def strangerCategory : Nat := 15
/-- R13: the item class "other". -/
def otherClass : Nat := 63

/-- R208 lists the codes of ten results and gives none for RUN_IN_PROGRESS (R175, R182): a free value (log entry 40). -/
opaque runInProgressCode : Byte

end Sys2Proof.Config
end

