-- ==== Sys2Proof/Syntax.lean ====
section
/-! DEFINITION. Syntax.lean: the commands of the BDC-800, one constructor of `Instr` per row of
spec/opcode_table.json, and the operands they carry. A management command carries its correlation token and its
raw body; the body is parsed by the command's meaning as R209 states. -/

namespace Sys2Proof

/-- The four keys of a desk head's keypad (1.1). -/
inductive Key where
  | charge | ret | ack | cancel
  deriving DecidableEq, Repr

/-- The printer states a head reports (chapter 1 table). -/
inductive Printer where
  | ready | busy | paperOut | jam | coverOpen | offline
  deriving DecidableEq, Repr

/-- The contents of a HEAD_STATUS frame (1.1). `lockKey` is true for ON. -/
structure HeadReport where
  printer : Printer
  lockKey : Bool
  credit : Nat
  token : Option Nat
  deriving DecidableEq, Repr

/-- The fields of a REPLY in the order of its layout (R208), numbers as carried. -/
structure ReplyMsg where
  tag : Nat
  gen : Nat
  kind : Nat
  outcome : Nat
  borrower : Text
  item : Text
  category : Nat
  presence : Byte
  manual : Nat
  day : Nat
  minute : Nat
  balance : Nat
  onLoan : Nat
  overdue : Nat
  cls : Nat
  reason : Nat
  hold : Nat
  deriving DecidableEq, Repr

/-- The verdict of a RECEIPT; `other` is a byte that is neither ACCEPT nor REJECT. -/
inductive Verdict where
  | accept | reject | other
  deriving DecidableEq, Repr

/-- A RECEIPT (R190). -/
structure ReceiptMsg where
  run : Nat
  slot : Nat
  block : Nat
  verdict : Verdict
  deriving DecidableEq, Repr

/-- The commands: what arrives at a desk line or on the trunk, and the events of the part's own timers and ports. -/
inductive Instr where
  | scan (n : StationNo) (symbol : Text)
  | key (n : StationNo) (k : Key)
  | headStatus (n : StationNo) (r : HeadReport)
  | attach (n : StationNo)
  | deskFrameDiscarded (n : StationNo) (bytes : List Byte)
  | silenceTimeout (n : StationNo)
  | transactionTimerExpiry (n : StationNo)
  | reply (m : ReplyMsg)
  | queryPatienceExpiry (tag : Tag)
  | lingerEnd (tag : Tag)
  | probeTimerExpiry
  | probeAnswer (gen : Nat)
  | trunkLinkDown
  | trunkLinkUp
  | trunkMessageDiscarded (bytes : List Byte)
  | secondTick
  | minuteArrival
  | slipHoldExpiry (n : StationNo)
  | sendCompletion
  | receipt (m : ReceiptMsg)
  | receiptPatienceExpiry
  | windowEnd
  | powerOn (retain : Bool) (straps : Byte)
  | restartTakesEffect (straps : Byte)
  | unknownCommand (tok : Token) (code : Byte) (body : List Byte)
  | borrowerPut (tok : Token) (body : List Byte)
  | borrowerDelete (tok : Token) (body : List Byte)
  | borrowerRead (tok : Token) (body : List Byte)
  | itemPut (tok : Token) (body : List Byte)
  | itemDelete (tok : Token) (body : List Byte)
  | badgeSet (tok : Token) (body : List Byte)
  | shadowClear (tok : Token) (body : List Byte)
  | ruleLoad (tok : Token) (body : List Byte)
  | matrixLoad (tok : Token) (body : List Byte)
  | categoryLoad (tok : Token) (body : List Byte)
  | bankSettingsLoad (tok : Token) (body : List Byte)
  | calendarLoad (tok : Token) (body : List Byte)
  | closedDatesLoad (tok : Token) (body : List Byte)
  | openDatesLoad (tok : Token) (body : List Byte)
  | bankSwap (tok : Token) (body : List Byte)
  | clockSet (tok : Token) (body : List Byte)
  | stationLock (tok : Token) (body : List Byte)
  | stationUnlock (tok : Token) (body : List Byte)
  | stationClear (tok : Token) (body : List Byte)
  | deskConfig (tok : Token) (body : List Byte)
  | alertConfig (tok : Token) (body : List Byte)
  | alertPoll (tok : Token) (body : List Byte)
  | alertClear (tok : Token) (body : List Byte)
  | serviceConfig (tok : Token) (body : List Byte)
  | uploadProgram (tok : Token) (body : List Byte)
  | uploadConfig (tok : Token) (body : List Byte)
  | uploadTrigger (tok : Token) (body : List Byte)
  | uploadStop (tok : Token) (body : List Byte)
  | journalConfig (tok : Token) (body : List Byte)
  | journalClear (tok : Token) (body : List Byte)
  | alarmConfig (tok : Token) (body : List Byte)
  | latch (tok : Token) (body : List Byte)
  | snapshotRead (tok : Token) (body : List Byte)
  | flagsReadClear (tok : Token) (body : List Byte)
  | statusRead (tok : Token) (body : List Byte)
  | restart (tok : Token) (body : List Byte)
  deriving DecidableEq, Repr

end Sys2Proof
end

