-- ==== Sys2Proof/Machine/State.lean ====
section
/-! DEFINITION. State.lean: every piece of state the spec gives the BDC-800, as plain data, and the state after
reset. INVENTORY.md lists each field with the rule that names it and its reset value. -/

namespace Sys2Proof.Machine

/-! ### Names of the manual -/

/-- R2: the tones of a DISPLAY frame. -/
inductive Tone where
  | none | accept | refuse | duplicate | busy | held | locked | badScan | backlog
  deriving DecidableEq, Repr

/-- 1.2: the link states of a desk line. -/
inductive Link where
  | detached | check | active
  deriving DecidableEq, Repr

/-- R15: an outcome in the scan history. -/
inductive Quality where
  | good | bad
  deriving DecidableEq, Repr

/-- 2.1: the transaction states. -/
inductive TxState where
  | idle | checking | opened | held | closing | returns
  deriving DecidableEq, Repr

/-- 2.1: the states HELD returns to. -/
inductive Interrupted where
  | checking | opened
  deriving DecidableEq, Repr

/-- 2.1: the kinds of transaction. -/
inductive TxKind where
  | charge | discharge
  deriving DecidableEq, Repr

/-- 2.1: what the transaction holds in the slip queue. -/
inductive Holding where
  | reserved | slipless
  deriving DecidableEq, Repr

/-- The block reasons found at a borrower check (R58). -/
inductive BlockReason where
  | manual | expired | fines | overdue | limit
  deriving DecidableEq, Repr

/-- R30, R208: the reason codes of REFUSAL, OVERRIDE and CONFLICT records. `server` carries the server's code. -/
inductive Reason where
  | unknownBorrower | stranger | block (r : BlockReason) | listFull | reference | withdrawn | holdOther
  | rulesInvalid | server (code : Nat) | journalFull
  deriving DecidableEq, Repr

/-- R163: the decided-by values of a record; `noOne` is NONE. -/
inductive DecidedBy where
  | online | localPart | fallback | noOne
  deriving DecidableEq, Repr

/-- 2.1: the states of an item entry. -/
inductive ItemState where
  | awaiting | granted | refused | returned | void
  deriving DecidableEq, Repr

/-- 2.1: what an AWAITING entry waits for. -/
inductive WaitFor where
  | reply | override
  deriving DecidableEq, Repr

/-- 2.1: hold routing of a discharged item: four digits, or HOLD without digits. -/
inductive Routing where
  | digits (last4 : Nat) | hold
  deriving DecidableEq, Repr

/-- The contents of an ON_LOAN reply (R112). -/
structure OnLoan where
  borrower : Nat
  day : Nat
  minute : Nat
  cls : Nat
  hold : Bool
  deriving DecidableEq, Repr

/-- An outcome that reaches an AWAITING entry: a reply, a lapse, or the decision taken at once because the service
is OFFLINE or the query table is full (R20, R28, R34). -/
inductive ItemOutcome where
  | grant (cls : Option Nat)
  | refuse (code : Nat)
  | onLoan (o : OnLoan)
  | notOnLoan
  | lapse
  | offline
  | tableFull
  deriving DecidableEq, Repr

/-- R106: the result flags of an item or a record. -/
structure ResultFlags where
  classClamped : Bool := false
  beyondCalendar : Bool := false
  calendarGap : Bool := false
  expiryCapped : Bool := false
  fineCapped : Bool := false
  nSaturated : Bool := false
  balanceSaturated : Bool := false
  finePending : Bool := false
  maskedReason : Bool := false
  untracked : Bool := false
  slipless : Bool := false
  offlineDecided : Bool := false
  deriving DecidableEq, Repr

/-- R108: the device sticky flags. -/
structure StickyFlags where
  classClamped : Bool := false
  beyondCalendar : Bool := false
  calendarGap : Bool := false
  fineCapped : Bool := false
  nSaturated : Bool := false
  balanceSaturated : Bool := false
  pendingOverflow : Bool := false
  clockClamped : Bool := false
  journalOverflowed : Bool := false
  deriving DecidableEq, Repr

/-! ### Desk line -/

/-- The state of one desk line (chapter 1 table). `silence` is none while the silence timer is stopped. -/
structure Line where
  link : Link
  silence : Option Nat
  history : List Quality
  threshold : Nat
  printer : Printer
  lockKey : Bool
  credit : Nat
  deriving DecidableEq, Repr

/-! ### Station context -/

/-- One entry of the item list (2.1). `chargeSeq` is the sequence number of the CHARGE record (R128) and `hourly`
says that the granting rule was in HOURS (R153): the model's own fields (log entry 14). -/
structure Item where
  number : Nat
  cls : Nat
  state : ItemState
  waiting : Option WaitFor
  query : Option (Tag × Nat)
  parked : Option ItemOutcome
  due : Option Time
  fine : Option Nat
  routing : Option Routing
  decidedBy : Option DecidedBy
  flags : ResultFlags
  chargeSeq : Option Nat
  hourly : Bool
  deriving DecidableEq, Repr

/-- 2.1: the next action held while CLOSING. -/
inductive NextAction where
  | none
  | borrower (number : Nat)
  | item (number cls : Nat) (clamped : Bool)
  | ret
  deriving DecidableEq, Repr

/-- R42: the transaction timer with its remaining seconds. -/
inductive TxTimer where
  | stopped | running (left : Nat) | gated (left : Nat)
  deriving DecidableEq, Repr

/-- 2.1: the untracked view. -/
structure View where
  category : Nat
  onLoan : Nat
  deriving DecidableEq, Repr

/-- The station context (2.1). `lookup` is the tag and generation of the borrower check's WAITING query. -/
structure Ctx where
  tx : TxState
  interrupted : Option Interrupted
  kind : Option TxKind
  borrower : Option Nat
  tracked : Bool
  view : Option View
  outstanding : List BlockReason
  maskedReason : Bool
  items : List Item
  holding : Option Holding
  firstSeq : Option Nat
  next : NextAction
  lookup : Option (Tag × Nat)
  timer : TxTimer
  period : Nat
  lockCommand : Bool
  lockAlarm : Bool
  lockKeySrc : Bool
  deriving DecidableEq, Repr

/-! ### Alert resolver -/

/-- The eight alert levels (7.1). -/
inductive Level where
  | l0 | l1 | l2 | l3 | l4 | l5 | l6 | l7
  deriving DecidableEq, Repr

/-- A set of alert levels (R208: bit n stands for Ln). -/
structure LevelSet where
  m0 : Bool
  m1 : Bool
  m2 : Bool
  m3 : Bool
  m4 : Bool
  m5 : Bool
  m6 : Bool
  m7 : Bool
  deriving DecidableEq, Repr

/-- R134: who requested L5. -/
inductive Origin where
  | borrower | item
  deriving DecidableEq, Repr

/-- R136: the priority modes. -/
inductive PriorityMode where
  | fixed | rotating
  deriving DecidableEq, Repr

/-- R144: the fields of an ALERT_CONFIG, each of which may be absent. -/
structure AlertFields where
  mask : Option LevelSet
  holdSet : Option LevelSet
  autoAck : Option LevelSet
  mode : Option PriorityMode
  bottom : Option Level
  deriving DecidableEq, Repr

/-- The alert resolver of a station (chapter 7 table). `lowest` names the priority order (R136); `hold` is the hold
condition as last reported to the station (R139); `index` holds 0 for a level in neither set. -/
structure Resolver where
  pending : LevelSet
  inService : LevelSet
  index : Vector Nat 8
  origin : Option Origin
  lowest : Level
  shown : Option Level × Nat
  hold : Bool
  mask : LevelSet
  holdSet : LevelSet
  autoAck : LevelSet
  mode : PriorityMode
  bottom : Level
  staged : Option AlertFields
  deriving DecidableEq, Repr

/-! ### Slip queue -/

/-- One slip slot (R150) with what it holds in its state. -/
inductive Slot where
  | free
  | reserved
  | queued (text : List Text)
  | printing (text : List Text) (token sent : Nat) (reprint : Bool) (ready : Nat)
  | interrupted (text : List Text) (token : Nat)
  deriving DecidableEq, Repr

/-- The slip queue of a station (chapter 8 table). `order` lists the occupied slots, oldest handing first. `reported` is
the model's own: a HEAD_STATUS has been taken since the reset (R162, log entry 43). -/
structure SlipQueue where
  slots : Vector Slot 4
  order : List (Fin 4)
  token : Nat
  lastPrinted : Option Nat
  reported : Bool
  faultTimer : Option Nat
  holdTime : Nat
  deriving DecidableEq, Repr

/-- R201: the nine tallies of a station. -/
structure Tallies where
  charges : Nat
  refusals : Nat
  discharges : Nat
  overrides : Nat
  voids : Nat
  fines : Nat
  badScans : Nat
  printed : Nat
  lost : Nat
  deriving DecidableEq, Repr

/-- One station: its line, transaction context, resolver, slip queue and tallies. -/
structure Station where
  line : Line
  ctx : Ctx
  alerts : Resolver
  slips : SlipQueue
  tallies : Tallies
  deriving DecidableEq, Repr

/-! ### Tables -/

/-- R50: the origin of a borrower entry. -/
inductive BOrigin where
  | loaded | learned | provisional
  deriving DecidableEq, Repr

/-- A borrower entry (3.1). -/
structure Borrower where
  number : Nat
  origin : BOrigin
  category : Nat
  manual : Option Nat
  expiry : Option Nat
  balance : Nat
  onLoan : Nat
  overdue : Nat
  changed : Bool
  inFlight : Bool
  deriving DecidableEq, Repr

/-- The kinds of item exception (3.5); HOLD carries its borrower. -/
inductive ExceptionKind where
  | hold (borrower : Nat) | reference | missing | withdrawn
  deriving DecidableEq, Repr

/-- An item exception entry (3.5). -/
structure ItemException where
  item : Nat
  kind : ExceptionKind
  deriving DecidableEq, Repr

/-! ### Rule banks and clock -/

/-- 4.1: the period units. -/
inductive PeriodUnit where
  | days | hours
  deriving DecidableEq, Repr

/-- 4.1: the count modes. -/
inductive CountMode where
  | allDays | openDays
  deriving DecidableEq, Repr

/-- A rule record (4.1). -/
structure Rule where
  unit : PeriodUnit
  period : Nat
  rate : Nat
  grace : Nat
  cap : Nat
  count : CountMode
  deriving DecidableEq, Repr

/-- A category record (4.1). -/
structure Category where
  itemsLimit : Nat
  overdueLimit : Nat
  fineThreshold : Nat
  multiplier : Nat
  deriving DecidableEq, Repr

/-- 4.1: the rounding modes. -/
inductive Rounding where
  | truncate | nearestEven
  deriving DecidableEq, Repr

/-- The bank settings (4.1). -/
structure Settings where
  unit : Nat
  mode : Rounding
  deriving DecidableEq, Repr

/-- A Gregorian date. -/
structure Date where
  year : Nat
  month : Nat
  day : Nat
  deriving DecidableEq, Repr

/-- The calendar header (4.1). `weekly` is the weekly closed set, bit n for weekday n; `hours` the seven pairs of
open and close minute, Monday first. -/
structure Header where
  base : Nat
  date : Date
  weekday : Nat
  weekly : Byte
  hours : Vector (Nat × Nat) 7
  deriving DecidableEq, Repr

/-- A rule bank (4.1, R72). A part whose completeness mark is clear holds no value: none. -/
structure Bank where
  rules : Vector (Option Rule) 32
  matrix : Vector (Option (List Nat)) 64
  categories : Vector (Option Category) 16
  settings : Option Settings
  header : Option Header
  closedDates : List Nat
  openDates : List Nat
  deriving DecidableEq, Repr

/-- R72: the active selector. -/
inductive BankName where
  | a | b
  deriving DecidableEq, Repr

/-- The clock (R86 to R88). `isSet` is SET; `held` is true while the clock is held. -/
structure Clock where
  day : Nat
  minute : Nat
  second : Nat
  isSet : Bool
  held : Bool
  deriving DecidableEq, Repr

/-! ### Service link -/

/-- R110: the kinds of query. -/
inductive QueryKind where
  | borrowerLookup | chargeRequest | dischargeRequest
  deriving DecidableEq, Repr

/-- R115, R116: the lapse decisions. `finePending` keeps the clock reading at the lapse. -/
inductive LapseDecision where
  | grant | finePending (at_ : Time) | admitted | refused | void
  deriving DecidableEq, Repr

/-- What a WAITING or LAPSED query stands for (6.1). `position` is the entry's place in the item list, from 1. -/
structure Question where
  station : StationNo
  kind : QueryKind
  target : Nat
  borrower : Option Nat
  position : Option Nat
  deriving DecidableEq, Repr

/-- R110: the state of a query table entry, with its countdown. -/
inductive QueryState where
  | free
  | waiting (q : Question) (left : Nat)
  | lapsed (q : Question) (left : Nat) (decision : LapseDecision)
  deriving DecidableEq, Repr

/-- A query table entry; its tag is its index (6.1). -/
structure QueryEntry where
  gen : Nat
  state : QueryState
  deriving DecidableEq, Repr

/-- 6.3: the service states. -/
inductive ServiceState where
  | online | degraded | offline
  deriving DecidableEq, Repr

/-- R57: the stranger policies. -/
inductive Policy where
  | admits | refuse
  deriving DecidableEq, Repr

/-- R131: the service statistics. -/
structure ServiceStats where
  sent : Nat
  matched : Nat
  timeouts : Nat
  tooLate : Nat
  stale : Nat
  conflicts : Nat
  fallbacks : Nat
  probes : Nat
  deriving DecidableEq, Repr

/-- The service link apart from its query table (chapter 6 table). -/
structure Service where
  count : Nat
  state : ServiceState
  linkUp : Bool
  probeGen : Nat
  probeOut : Bool
  probeTimer : Option Nat
  patience : Nat
  trip : Nat
  interval : Nat
  policy : Policy
  stats : ServiceStats
  deriving DecidableEq, Repr

/-- A pending loan entry (6.4). -/
structure PendingLoan where
  item : Nat
  borrower : Nat
  due : Time
  ruleIndex : Nat
  chargeSeq : Nat
  deriving DecidableEq, Repr

/-! ### Journal -/

/-- R163: the kinds of record. -/
inductive RecordKind where
  | charge | void | discharge | refusal | override | conflict | borrowerNew | stationEvent | deviceEvent
  deriving DecidableEq, Repr

/-- R164, R208: the detail codes. -/
inductive Detail where
  | localFallback | untrackedLoan | serverRefused | voidedGrant | fineDiffers | fineUnknown | unknownAdmitted
  | itemFound | slipLost | locked | unlocked | bankSwapped | clockSet | journalCleared
  deriving DecidableEq, Repr

/-- A journal record (R163). `station` is none for DEVICE. -/
structure Record where
  seq : Nat
  kind : RecordKind
  station : Option StationNo
  day : Nat
  minute : Nat
  decidedBy : DecidedBy
  flags : ResultFlags
  borrower : Option Nat
  item : Option Nat
  due : Option Time
  fine : Option Nat
  reason : Option Reason
  ruleIndex : Option Nat
  bankGen : Option Nat
  badge : Option Nat
  detail : Option Detail
  slipToken : Option Nat
  deriving DecidableEq, Repr

/-- R166: the page states. -/
inductive PageState where
  | free | filling | sealed | sent
  deriving DecidableEq, Repr

/-- A journal page. -/
structure Page where
  state : PageState
  records : List Record
  deriving DecidableEq, Repr

/-- The journal (chapter 9 table). -/
structure Journal where
  pages : Vector Page 128
  counter : Nat
  overflow : Nat
  lowMark : Nat
  deriving DecidableEq, Repr

/-! ### Upload controller -/

/-- R178: the section kinds. -/
inductive SectionKind where
  | journal | borrowerChanges | pendingLoans | tallies | empty
  deriving DecidableEq, Repr

/-- R178: the upload program. -/
structure Program where
  slots : Vector SectionKind 16
  start : Nat
  stop : Nat
  deriving DecidableEq, Repr

/-- R180: the upload modes. -/
inductive UploadMode where
  | nightly | continuous
  deriving DecidableEq, Repr

/-- R180: the upload configuration. -/
structure UploadSettings where
  mode : UploadMode
  windowStart : Nat
  windowLength : Nat
  patience : Nat
  attempts : Nat
  deriving DecidableEq, Repr

/-- R180: the fields of an UPLOAD_CONFIG, each of which may be absent. -/
structure UploadFields where
  mode : Option UploadMode
  windowStart : Option Nat
  windowLength : Option Nat
  patience : Option Nat
  attempts : Option Nat
  deriving DecidableEq, Repr

/-- R195: the run states. -/
inductive RunState where
  | idle | sending | awaitReceipt | paused
  deriving DecidableEq, Repr

/-- R184 to R187: what a section has fixed or copied and not yet sent. -/
inductive Sect where
  | journal (bound : Option (Fin 128))
  | borrowers (rest : List Nat)
  | loans (rest : List PendingLoan)
  | tallies
  | empty
  deriving DecidableEq, Repr

/-- The records a block carries. A journal block names the page it carries, or none. -/
inductive Contents where
  | journal (page : Option (Fin 128)) (records : List Record)
  | borrowers (entries : List Borrower)
  | loans (entries : List PendingLoan)
  | tallies (values : List Tallies)
  | empty
  deriving DecidableEq, Repr

/-- An upload block (R188). -/
structure Block where
  run : Nat
  slot : Nat
  kind : SectionKind
  number : Nat
  final : Bool
  firstSeq : Option Nat
  contents : Contents
  deriving DecidableEq, Repr

/-- The run counts (chapter 10 table). -/
structure RunCounts where
  passes : Nat
  sent : Nat
  accepted : Nat
  rejects : Nat
  timeouts : Nat
  mismatches : Nat
  deriving DecidableEq, Repr

/-- The upload controller (chapter 10 table). -/
structure Upload where
  program : Program
  config : UploadSettings
  defProgram : Option Program
  defConfig : Option UploadFields
  run : RunState
  runNumber : Nat
  trigger : Bool
  stop : Bool
  slot : Nat
  blockNo : Nat
  sect : Option Sect
  hand : Option Block
  attempts : Nat
  wait : Option Nat
  window : Option Nat
  counts : RunCounts
  deriving DecidableEq, Repr

/-! ### Management unit -/

/-- R203: a device alarm with its lockout enable. -/
structure Alarm where
  active : Bool
  enable : Bool
  deriving DecidableEq, Repr

/-- R203: the four device alarms. -/
structure Alarms where
  rulesInvalid : Alarm
  clockUnset : Alarm
  journalLow : Alarm
  journalFull : Alarm
  deriving DecidableEq, Repr

/-- R205: the reset kinds. -/
inductive ResetKind where
  | powerOnRetained | powerOnCleared | restart
  deriving DecidableEq, Repr

/-- R176: the JOURNAL_STATE snapshot. -/
structure JournalSnap where
  free : Nat
  sealed : Nat
  sent : Nat
  filling : Nat
  oldest : Nat
  next : Nat
  overflow : Nat
  deriving DecidableEq, Repr

/-- The management unit (chapter 11 table). A snapshot group is none while released. -/
structure Mgmt where
  snapTallies : Option (List Tallies)
  snapService : Option ServiceStats
  snapJournal : Option JournalSnap
  sticky : StickyFlags
  alarms : Alarms
  alarmCond : Bool
  startUp : Option ResetKind
  lastReset : ResetKind
  restarting : Bool
  held : List Instr
  cabinet : Nat
  deriving DecidableEq, Repr

/-! ### What the part sends -/

/-- The frames the part sends to a head (1.1). The station state of a DISPLAY is none for CHECK (R2). -/
inductive DeskOut where
  | display (station : Option TxState) (level : Option Level) (index : Nat) (tone : Tone)
  | slipLine (token line : Nat) (text : Text) (last : Bool)
  deriving DecidableEq, Repr

/-- R208: the result codes of a RESPONSE. -/
inductive Result where
  | done | clamped | deferred | busy | held | badField | notFound | tableFull | bankIncomplete | unknownCommand
  | runInProgress
  deriving DecidableEq, Repr

/-- R195: the outcomes of a run. -/
inductive RunOutcome where
  | complete | abortedTimeout | abortedStop | abortedOffline
  deriving DecidableEq, Repr

/-- R204: the notices and their further contents. -/
inductive Notice where
  | serviceState (state : ServiceState) (count : Nat)
  | journalAlarm (full : Bool) (active : Bool) (free : Nat)
  | lockState (n : StationNo) (locked command alarm key : Bool)
  | uploadEnd (outcome : RunOutcome) (run : Nat) (counts : RunCounts)
  | startUp (kind : ResetKind) (cabinet : Nat) (alarms : Alarms) (service : ServiceState) (free counter run generation : Nat)
  deriving DecidableEq, Repr

/-- The messages the part sends on the trunk (R208). -/
inductive TrunkOut where
  | response (tok : Token) (code : Byte) (result : Result) (body : List Byte)
  | notice (day minute : Nat) (n : Notice)
  | query (tag gen : Nat) (q : Question) (cls : Nat)
  | probe (gen : Nat)
  | block (b : Block) (check : BitVec 32)
  deriving DecidableEq, Repr

/-- One thing sent. -/
inductive Out where
  | desk (n : StationNo) (f : DeskOut)
  | trunk (m : TrunkOut)
  deriving DecidableEq, Repr

/-! ### The machine -/

/-- The reasons a command could stop the machine: the spec gives none, so there is no constructor. -/
inductive Fault where
  deriving DecidableEq, Repr

/-- The refusals. -/
inductive Refusal where
  /-- Raised by exec for a command that has no meaning yet. Safe: the machine stops where the part goes on. -/
  | notModelled (mnemonic : String)
  deriving DecidableEq, Repr

/-- The BDC-800. `pending` and `sent` are the model's own fields: the queue of waiting commands, and what the part
sent at the last command taken, in order (log entries 2 and 3). -/
structure State where
  pending : List Instr
  sent : List Out
  stations : Vector Station 8
  borrowers : List Borrower
  recency : List Nat
  exceptions : List ItemException
  badges : List Nat
  bankA : Bank
  bankB : Bank
  active : BankName
  generation : Nat
  clock : Clock
  service : Service
  queries : Vector QueryEntry 16
  loans : List PendingLoan
  journal : Journal
  upload : Upload
  mgmt : Mgmt
  deriving DecidableEq, Repr

/-! ### Reset values -/

/-- The empty set of levels. -/
def LevelSet.empty : LevelSet := ⟨false, false, false, false, false, false, false, false⟩

/-- R18: a line after a reset, with its threshold. -/
def Line.reset (threshold : Nat) : Line :=
  { link := .detached, silence := none, history := [], threshold := threshold, printer := .offline,
    lockKey := false, credit := 0 }

/-- R48: the context of an IDLE station that has just been reset. -/
def Ctx.reset (period : Nat) (command alarm : Bool) : Ctx :=
  { tx := .idle, interrupted := none, kind := none, borrower := none, tracked := true, view := none,
    outstanding := [], maskedReason := false, items := [], holding := none, firstSeq := none, next := .none,
    lookup := none, timer := .stopped, period := period, lockCommand := command, lockAlarm := alarm,
    lockKeySrc := false }

/-- R149: the default hold set L0 to L5. -/
def LevelSet.defaultHold : LevelSet := ⟨true, true, true, true, true, true, false, false⟩
/-- R149: the default auto-ack set L7. -/
def LevelSet.defaultAutoAck : LevelSet := ⟨false, false, false, false, false, false, false, true⟩
/-- The set of L0 alone. -/
def LevelSet.onlyL0 : LevelSet := ⟨true, false, false, false, false, false, false, false⟩

/-- R149: the resolver after power-on with RETAIN not valid and the resolution that follows: L0 in service, shown,
and holding (it is in the default hold set). -/
def Resolver.reset : Resolver :=
  { pending := .empty, inService := .onlyL0, index := Vector.replicate 8 0, origin := none, lowest := .l7,
    shown := (some .l0, 0), hold := true, mask := .empty, holdSet := .defaultHold, autoAck := .defaultAutoAck,
    mode := .fixed, bottom := .l7, staged := none }

/-- R162: the slip queue after a reset, with its hold time. -/
def SlipQueue.reset (holdTime : Nat) : SlipQueue :=
  { slots := Vector.replicate 4 .free, order := [], token := 1, lastPrinted := none, reported := false,
    faultTimer := some 0, holdTime := holdTime }

/-- R201: all nine tallies 0. -/
def Tallies.zero : Tallies := ⟨0, 0, 0, 0, 0, 0, 0, 0, 0⟩

/-- A station after power-on with RETAIN not valid: LOCKED by ALARM, since CLOCK_UNSET is active with its enable on
(R48, R88). -/
def Station.reset : Station :=
  { line := .reset 3, ctx := .reset 90 false true, alerts := .reset, slips := .reset 600, tallies := .zero }

/-- R79, R89: an empty bank, all marks clear. -/
def Bank.empty : Bank :=
  { rules := Vector.replicate 32 none, matrix := Vector.replicate 64 none,
    categories := Vector.replicate 16 none, settings := none, header := none, closedDates := [], openDates := [] }

/-- R131, R132: the statistics after a reset. -/
def ServiceStats.zero : ServiceStats := ⟨0, 0, 0, 0, 0, 0, 0, 0⟩

/-- R132: the service link after a reset, with its settings. -/
def Service.reset (patience trip interval : Nat) (policy : Policy) : Service :=
  { count := 0, state := .offline, linkUp := false, probeGen := 0, probeOut := false, probeTimer := none,
    patience := patience, trip := trip, interval := interval, policy := policy, stats := .zero }

/-- R132: the query table after a reset. -/
def queriesReset : Vector QueryEntry 16 := Vector.replicate 16 ⟨0, .free⟩

/-- R177: the pages of an empty journal: page 0 FILLING with count 0, the others FREE. -/
def pagesReset : Vector Page 128 := (Vector.replicate 128 ⟨.free, []⟩).set 0 ⟨.filling, []⟩

/-- R196: the default upload program. -/
def Program.reset : Program :=
  { slots := #v[.journal, .borrowerChanges, .pendingLoans, .tallies, .empty, .empty, .empty, .empty,
      .empty, .empty, .empty, .empty, .empty, .empty, .empty, .empty], start := 0, stop := 3 }

/-- R196: the run counts after a reset. -/
def RunCounts.zero : RunCounts := ⟨0, 0, 0, 0, 0, 0⟩

/-- R196: the upload controller after a reset, with what it keeps. -/
def Upload.reset (program : Program) (config : UploadSettings) (runNumber : Nat) : Upload :=
  { program := program, config := config, defProgram := none, defConfig := none, run := .idle,
    runNumber := runNumber, trigger := false, stop := false, slot := 0, blockNo := 0, sect := none, hand := none,
    attempts := 0, wait := none, window := none, counts := .zero }

/-- R200, R203, R205: the management unit after power-on with RETAIN not valid. No restart is in progress and no message
is held (log entry 48). -/
def Mgmt.reset (cabinet : Nat) : Mgmt :=
  { snapTallies := none, snapService := none, snapJournal := none, sticky := {},
    alarms := { rulesInvalid := ⟨true, false⟩, clockUnset := ⟨true, true⟩, journalLow := ⟨false, false⟩,
                journalFull := ⟨false, true⟩ },
    alarmCond := true, startUp := some .powerOnCleared, lastReset := .powerOnCleared, restarting := false,
    held := [], cabinet := cabinet }

/-- The machine right after power-on with RETAIN not valid (R206), cabinet straps all 0 (log entry 1). -/
def State.reset : State :=
  { pending := [], sent := [], stations := Vector.replicate 8 .reset, borrowers := [], recency := [],
    exceptions := [], badges := [], bankA := .empty, bankB := .empty, active := .a, generation := 0,
    clock := { day := 0, minute := 0, second := 0, isSet := false, held := false },
    service := .reset 4 3 30 .admits, queries := queriesReset, loans := [],
    journal := { pages := pagesReset, counter := 0, overflow := 0, lowMark := 8 },
    upload := .reset .reset { mode := .nightly, windowStart := 120, windowLength := 240, patience := 5, attempts := 4 } 0,
    mgmt := .reset 0 }

end Sys2Proof.Machine
end

