-- ==== Sys2Proof/Machine/Flags.lean ====
section
/-! DEFINITION. Flags.lean: result flags and device sticky flags as sets (R106, R108), and their encodings
(R208). -/

namespace Sys2Proof.Machine

/-- R106: a flag joins the set at the first event that raises it. -/
def ResultFlags.union (a b : ResultFlags) : ResultFlags :=
  { classClamped := a.classClamped || b.classClamped
    beyondCalendar := a.beyondCalendar || b.beyondCalendar
    calendarGap := a.calendarGap || b.calendarGap
    expiryCapped := a.expiryCapped || b.expiryCapped
    fineCapped := a.fineCapped || b.fineCapped
    nSaturated := a.nSaturated || b.nSaturated
    balanceSaturated := a.balanceSaturated || b.balanceSaturated
    finePending := a.finePending || b.finePending
    maskedReason := a.maskedReason || b.maskedReason
    untracked := a.untracked || b.untracked
    slipless := a.slipless || b.slipless
    offlineDecided := a.offlineDecided || b.offlineDecided }

/-- R108: a flag already set stays set. -/
def StickyFlags.union (a b : StickyFlags) : StickyFlags :=
  { classClamped := a.classClamped || b.classClamped
    beyondCalendar := a.beyondCalendar || b.beyondCalendar
    calendarGap := a.calendarGap || b.calendarGap
    fineCapped := a.fineCapped || b.fineCapped
    nSaturated := a.nSaturated || b.nSaturated
    balanceSaturated := a.balanceSaturated || b.balanceSaturated
    pendingOverflow := a.pendingOverflow || b.pendingOverflow
    clockClamped := a.clockClamped || b.clockClamped
    journalOverflowed := a.journalOverflowed || b.journalOverflowed }

/-- R106: the sticky flags set with result flags. -/
def ResultFlags.sticky (f : ResultFlags) : StickyFlags :=
  { classClamped := f.classClamped
    beyondCalendar := f.beyondCalendar
    calendarGap := f.calendarGap
    fineCapped := f.fineCapped
    nSaturated := f.nSaturated
    balanceSaturated := f.balanceSaturated }

/-- The number with bit n set where the n-th flag is. -/
def bitsOf (bs : List Bool) : Nat := bs.foldr (fun b n => 2 * n + b.toNat) 0

/-- R208: bit 0 stands for the first flag of the table of R106. -/
def ResultFlags.bits (f : ResultFlags) : Nat :=
  bitsOf [f.classClamped, f.beyondCalendar, f.calendarGap, f.expiryCapped, f.fineCapped, f.nSaturated,
    f.balanceSaturated, f.finePending, f.maskedReason, f.untracked, f.slipless, f.offlineDecided]

/-- R208: bit n stands for the flag at position n of the table of R108. -/
def StickyFlags.bits (f : StickyFlags) : Nat :=
  bitsOf [f.classClamped, f.beyondCalendar, f.calendarGap, f.fineCapped, f.nSaturated, f.balanceSaturated,
    f.pendingOverflow, f.clockClamped, f.journalOverflowed]

end Sys2Proof.Machine
end

