-- ==== Sys2Proof/Machine/Operands.lean ====
section
/-! DEFINITION. Operands.lean: numbers and text as carried (R208), scanned identifiers and check digits (R11 to
R13), and the parser of management command bodies (R199, R209). -/

namespace Sys2Proof.Machine

/-! ### Numbers as bytes -/

/-- R208: a number in `w` bytes, most significant byte first. -/
def be (w n : Nat) : List Byte :=
  (List.range w).reverse.map fun i => BitVec.ofNat 8 (n / 256 ^ i)

/-- R208: the number that bytes carry, most significant byte first. -/
def beNat (bs : List Byte) : Nat := bs.foldl (fun a b => a * 256 + b.toNat) 0

/-- The code of a character. -/
def ch (c : Char) : Byte := BitVec.ofNat 8 c.toNat

/-- Text from characters. -/
def txt (cs : List Char) : Text := cs.map ch

/-- The character of a decimal digit. -/
def digitChar (d : Nat) : Byte := BitVec.ofNat 8 (48 + d)

/-- `n` in `w` decimal digits, with leading zeros. -/
def digits (w n : Nat) : Text :=
  (List.range w).reverse.map fun i => digitChar (n / 10 ^ i % 10)

/-- How many decimal digits `n` has; `fuel` bounds the count. -/
def decimalWidth : Nat → Nat → Nat
  | 0, _ => 1
  | fuel + 1, n => if n < 10 then 1 else 1 + decimalWidth fuel (n / 10)

/-- `n` as a whole number without leading zeros (R153). -/
def decimal (n : Nat) : Text := digits (decimalWidth 20 n) n

/-! ### Identifiers -/

/-- The value of a digit character. -/
def digitOf (b : Byte) : Option Nat :=
  if 48 ≤ b.toNat ∧ b.toNat ≤ 57 then some (b.toNat - 48) else none

/-- The digits of a text that holds digits only. -/
def digitsOf : Text → Option (List Nat)
  | [] => some []
  | b :: bs =>
    match digitOf b, digitsOf bs with
    | some d, some ds => some (d :: ds)
    | _, _ => none

/-- The number that digits spell, most significant digit first. -/
def numberOf (ds : List Nat) : Nat := ds.foldl (fun a d => a * 10 + d) 0

/-- R12: the weights 3, 7, 1, repeating. -/
def weightAt (i : Nat) : Nat :=
  match i % 3 with
  | 0 => 3
  | 1 => 7
  | _ => 1

/-- R12: the sum of the weighted digits, the first of `ds` standing at position `i` from 0. -/
def weightedSum : Nat → List Nat → Nat
  | _, [] => 0
  | i, d :: ds => weightAt i * d + weightedSum (i + 1) ds

/-- R12: the check digit of the digits that precede it. -/
def checkDigit (ds : List Nat) : Nat := (10 - weightedSum 0 ds % 10) % 10

/-- The forms of 1.4. -/
inductive Form where
  | borrower | item | badge
  deriving DecidableEq, Repr

/-- 1.4: length with the check digit. -/
def Form.length : Form → Nat
  | .borrower => 11
  | .item => 13
  | .badge => 9

/-- 1.4: the first digit. -/
def Form.first : Form → Nat
  | .borrower => 2
  | .item => 3
  | .badge => 9

/-- R11: the form that a string of digits has by its length and first digit. -/
def formOf (ds : List Nat) : Option Form :=
  [Form.borrower, .item, .badge].find? fun f => ds.length == f.length && ds.head? == some f.first

/-- R11: the outcomes of classification. -/
inductive ScanOutcome where
  | borrower (number : Nat)
  | item (number cls : Nat) (clamped : Bool)
  | badge (number : Nat)
  | badCheck
  | badForm
  deriving DecidableEq, Repr

/-- R13: the two-digit item class of a label, before the clamp. -/
def labelClass (ds : List Nat) : Nat := ds.getD 1 0 * 10 + ds.getD 2 0

/-- R13, R90, R91: a class above 63 is taken as 63. -/
def clampClass (c : Nat) : Nat := min c Config.otherClass

/-- R11 to R13: the classification of a scanned symbol. -/
def classify (symbol : Text) : ScanOutcome :=
  match digitsOf symbol with
  | none => .badForm
  | some ds =>
    match formOf ds with
    | none => .badForm
    | some f =>
      if checkDigit ds.dropLast = ds.getLastD 0 then
        match f with
        | .borrower => .borrower (numberOf ds.dropLast)
        | .item => .item (numberOf ds.dropLast) (clampClass (labelClass ds)) (decide (Config.otherClass < labelClass ds))
        | .badge => .badge (numberOf ds.dropLast)
      else .badCheck

/-- R12: the number of a management identifier of form `f`, given with its check digit. -/
def identifier (f : Form) (t : Text) : Option Nat :=
  match digitsOf t with
  | none => none
  | some ds =>
    if formOf ds = some f ∧ checkDigit ds.dropLast = ds.getLastD 0 then some (numberOf ds.dropLast) else none

/-- R112, R208: a number of `w` digits beginning with `first`, carried without its check digit. -/
def plainNumber (w first : Nat) (t : Text) : Option Nat :=
  match digitsOf t with
  | none => none
  | some ds => if ds.length = w ∧ ds.head? = some first then some (numberOf ds) else none

/-! ### Desk frames -/

/-- R1: a text that a SCAN can carry. -/
def validSymbol (symbol : Text) : Bool := decide (1 ≤ symbol.length) && decide (symbol.length ≤ 20)

/-- R1: a report that a HEAD_STATUS can carry. -/
def validReport (r : HeadReport) : Bool :=
  decide (r.credit ≤ 8) &&
    match r.token with
    | some k => decide (1 ≤ k) && decide (k ≤ 65535)
    | none => true

/-! ### Command bodies -/

/-- A parser of a command body: it holds the byte offset reached and the bytes left, and ends in the offset of the
first refused field (R199). -/
abbrev Body := StateT (Nat × List Byte) (Except Nat)

/-- The offset reached. -/
def Body.here : Body Nat := fun s => .ok (s.1, s)

/-- Refuse the field at an offset. -/
def Body.refuse {α : Type} (off : Nat) : Body α := fun _ => .error off

/-- R209: a field of `w` bytes with the values `ok` takes; a body too short for it is refused at its offset. -/
def Body.field {α : Type} (w : Nat) (ok : List Byte → Option α) : Body α := fun s =>
  if s.2.length < w then .error s.1
  else match ok (s.2.take w) with
    | some a => .ok (a, (s.1 + w, s.2.drop w))
    | none => .error s.1

/-- A number of `w` bytes within `lo` to `hi`. -/
def Body.nat (w lo hi : Nat) : Body Nat :=
  Body.field w fun bs => if lo ≤ beNat bs ∧ beNat bs ≤ hi then some (beNat bs) else none

/-- A number of `w` bytes, any value (a quantity that is clamped, R199). -/
def Body.quantity (w : Nat) : Body Nat := Body.field w fun bs => some (beNat bs)

/-- R208: an enumerated field, by the position of its value. -/
def Body.enum {α : Type} (values : List α) : Body α := Body.field 1 fun bs => values[beNat bs]?

/-- An identifier with its check digit. -/
def Body.identifier (f : Form) : Body Nat := Body.field f.length (Machine.identifier f)

/-- R209: a field of `w` bytes that may be absent, preceded by its presence byte. The bytes of an absent field are not
read (log entry 47). -/
def Body.optional {α : Type} (w : Nat) (p : Body α) : Body (Option α) := do
  let present ← Body.nat 1 0 1
  if present = 1 then
    let a ← p
    return some a
  else
    let _ ← Body.quantity w
    return none

/-- `k` fields in a row. -/
def Body.many {α : Type} (p : Body α) : Nat → Body (List α)
  | 0 => return []
  | k + 1 => do
    let a ← p
    let as ← Body.many p k
    return a :: as

/-- R209: a list, sent as a count of one byte followed by its members; the count lies within `lo` to `hi`. -/
def Body.list {α : Type} (lo hi : Nat) (p : Body α) : Body (List α) := do
  let k ← Body.nat 1 lo hi
  Body.many p k

/-- R198: a station field naming one station. -/
def Body.station : Body StationNo :=
  Body.field 1 fun bs => if h : beNat bs < 8 then some ⟨beNat bs, h⟩ else none

/-- R198, R208: a station field naming one station, or all eight with 255. -/
def Body.stations : Body (List StationNo) :=
  Body.field 1 fun bs =>
    if h : beNat bs < 8 then some [⟨beNat bs, h⟩] else if beNat bs = 255 then some (List.finRange 8) else none

/-- R209: parse a whole body; bytes beyond its fields are refused at the first of them. -/
def parseBody {α : Type} (p : Body α) (body : List Byte) : Except Nat α :=
  match p (0, body) with
  | .error off => .error off
  | .ok (a, (off, rest)) => if rest.isEmpty then .ok a else .error off

/-- R199: a clamped quantity. -/
def clampTo (lo hi v : Nat) : Nat := max lo (min hi v)

/-- 00_scope: "saturating at N". -/
def satAdd (limit a b : Nat) : Nat := min limit (a + b)

/-- A count of 32 bits, saturating (R131, R171, R201). -/
def sat32 (a b : Nat) : Nat := satAdd Config.maxCount32 a b

end Sys2Proof.Machine
end

