-- ==== Sys2Proof/Machine/Levels.lean ====
section
/-! DEFINITION. Levels.lean: alert levels, sets of levels, the priority order (R136) and the operations on the sets
of one alert resolver (R134 to R138), without what they send. -/

namespace Sys2Proof.Machine

/-- The number of a level. -/
def Level.idx : Level → Fin 8
  | .l0 => 0 | .l1 => 1 | .l2 => 2 | .l3 => 3 | .l4 => 4 | .l5 => 5 | .l6 => 6 | .l7 => 7

/-- The level of a number, taken mod 8. -/
def Level.ofIdx (k : Nat) : Level :=
  match k % 8 with
  | 0 => .l0 | 1 => .l1 | 2 => .l2 | 3 => .l3 | 4 => .l4 | 5 => .l5 | 6 => .l6 | _ => .l7

/-- L0 to L7. -/
def Level.all : List Level := [.l0, .l1, .l2, .l3, .l4, .l5, .l6, .l7]

/-- The block levels L1 to L5. -/
def Level.blocks : List Level := [.l1, .l2, .l3, .l4, .l5]

/-- The level of a block reason (R58). -/
def BlockReason.level : BlockReason → Level
  | .manual => .l1 | .expired => .l2 | .fines => .l3 | .overdue => .l4 | .limit => .l5

/-- The block reason of a level, for L1 to L5. -/
def Level.reason? : Level → Option BlockReason
  | .l1 => some .manual | .l2 => some .expired | .l3 => some .fines | .l4 => some .overdue | .l5 => some .limit
  | _ => none

/-- Membership in a set of levels. -/
def LevelSet.mem (s : LevelSet) : Level → Bool
  | .l0 => s.m0 | .l1 => s.m1 | .l2 => s.m2 | .l3 => s.m3 | .l4 => s.m4 | .l5 => s.m5 | .l6 => s.m6 | .l7 => s.m7

/-- The set with a level's membership replaced. -/
def LevelSet.put (s : LevelSet) (v : Bool) : Level → LevelSet
  | .l0 => { s with m0 := v } | .l1 => { s with m1 := v } | .l2 => { s with m2 := v } | .l3 => { s with m3 := v }
  | .l4 => { s with m4 := v } | .l5 => { s with m5 := v } | .l6 => { s with m6 := v } | .l7 => { s with m7 := v }

/-- The set with a level joined. -/
def LevelSet.insert (s : LevelSet) (l : Level) : LevelSet := s.put true l

/-- The set with a level removed. -/
def LevelSet.erase (s : LevelSet) (l : Level) : LevelSet := s.put false l

/-- R208: bit n stands for Ln. -/
def LevelSet.bits (s : LevelSet) : Nat :=
  (Level.all.zipIdx.map fun p => if s.mem p.1 then 2 ^ p.2 else 0).sum

/-- R208: the set a byte stands for. -/
def LevelSet.ofBits (k : Nat) : LevelSet :=
  ⟨k.testBit 0, k.testBit 1, k.testBit 2, k.testBit 3, k.testBit 4, k.testBit 5, k.testBit 6, k.testBit 7⟩

/-- R136: the priority order with lowest level `low`, highest first. -/
def orderFrom (low : Level) : List Level :=
  (List.range 8).map fun k => Level.ofIdx (low.idx + 1 + k)

/-- R138: the displayed level, the highest-ranked level in service. -/
def Resolver.displayed (r : Resolver) : Option Level :=
  (orderFrom r.lowest).find? r.inService.mem

/-- The message index of a level. -/
def Resolver.indexOf (r : Resolver) (l : Level) : Nat := r.index[l.idx]

/-- R138: the displayed level and its message index, as a DISPLAY shows them. -/
def Resolver.showing (r : Resolver) : Option Level × Nat :=
  match r.displayed with
  | some l => (some l, r.indexOf l)
  | none => (none, 0)

/-- R137: the level that resolution takes: pending, not masked, and above every level in service. -/
def Resolver.candidate (r : Resolver) : Option Level :=
  match (orderFrom r.lowest).find? fun l => r.inService.mem l || (r.pending.mem l && !r.mask.mem l) with
  | some l => if r.inService.mem l then none else some l
  | none => none

/-- R139: the hold condition that the in-service set gives. -/
def Resolver.holds (r : Resolver) : Bool :=
  Level.all.any fun l => r.inService.mem l && r.holdSet.mem l

/-- The index and the L5 origin of a level that stands in neither set are dropped (chapter 7 table). -/
def Resolver.tidy (r : Resolver) (l : Level) : Resolver :=
  if r.pending.mem l || r.inService.mem l then r
  else { r with index := r.index.set l.idx 0, origin := if l = .l5 then none else r.origin }

/-- R136: in ROTATING mode a level that leaves service becomes the lowest. -/
def Resolver.rotate (r : Resolver) (l : Level) : Resolver :=
  match r.mode with
  | .rotating => { r with lowest := l }
  | .fixed => r

/-- A level leaves service, rotating the order (R136). -/
def Resolver.leave (r : Resolver) (l : Level) : Resolver :=
  if r.inService.mem l then ({ r with inService := r.inService.erase l }.rotate l).tidy l else r

/-- A level leaves the pending set; no rotation (R136). -/
def Resolver.unpend (r : Resolver) (l : Level) : Resolver :=
  { r with pending := r.pending.erase l }.tidy l

/-- R141: a level is removed by the sweep from either set, without rotation. -/
def Resolver.sweep (r : Resolver) (l : Level) : Resolver :=
  { r with pending := r.pending.erase l, inService := r.inService.erase l }.tidy l

/-- R134: a request of a level with its message index and, for L5, its origin. -/
def Resolver.request (r : Resolver) (l : Level) (index : Nat) (origin : Option Origin) : Resolver :=
  if r.inService.mem l then r
  else if r.pending.mem l then { r with index := r.index.set l.idx index }
  else { r with pending := r.pending.insert l, index := r.index.set l.idx index,
                origin := if l = .l5 then origin else r.origin }

/-- R134: a withdrawal of a level, from whichever set it stands in. -/
def Resolver.withdraw (r : Resolver) (l : Level) : Resolver := (r.unpend l).leave l

/-- R137: the candidate moves from the pending set into service. -/
def Resolver.serve (r : Resolver) (l : Level) : Resolver :=
  { r with pending := r.pending.erase l, inService := r.inService.insert l }

/-- R148, R149: both sets emptied; L0 rejoins the pending set while the station fault condition holds (R135). -/
def Resolver.emptied (r : Resolver) (fault : Bool) : Resolver :=
  { r with pending := if fault then .onlyL0 else .empty, inService := .empty, index := Vector.replicate 8 0,
           origin := none }

/-- R145: the settings that a configuration gives. -/
def Resolver.configure (r : Resolver) (c : AlertFields) : Resolver :=
  let bottom := c.bottom.getD r.bottom
  { r with
    mask := c.mask.getD r.mask
    holdSet := c.holdSet.getD r.holdSet
    autoAck := c.autoAck.getD r.autoAck
    mode := c.mode.getD r.mode
    bottom := bottom
    lowest :=
      match c.mode with
      | some .fixed => .l7
      | some .rotating => bottom
      | none =>
        match r.mode, c.bottom with
        | .rotating, some b => b
        | _, _ => r.lowest
    staged := none }

end Sys2Proof.Machine
end

