-- ==== Sys2Proof/Machine/Ops.lean ====
section
/-! DEFINITION. Ops.lean: the named operations over State that every family shares: stations and their parts,
what is sent, sticky flags, tallies, and the keyed tables. -/

namespace Sys2Proof.Machine

/-! ### Stations -/

/-- Station n. -/
def State.st (s : State) (n : StationNo) : Station := s.stations[n]

/-- Station n replaced. -/
def State.upd (s : State) (n : StationNo) (f : Station → Station) : State :=
  { s with stations := s.stations.set n (f (s.st n)) }

/-- The line of station n replaced. -/
def State.updLine (s : State) (n : StationNo) (f : Line → Line) : State :=
  s.upd n fun t => { t with line := f t.line }

/-- The context of station n replaced. -/
def State.updCtx (s : State) (n : StationNo) (f : Ctx → Ctx) : State :=
  s.upd n fun t => { t with ctx := f t.ctx }

/-- The resolver of station n replaced. -/
def State.updAlerts (s : State) (n : StationNo) (f : Resolver → Resolver) : State :=
  s.upd n fun t => { t with alerts := f t.alerts }

/-- The slip queue of station n replaced. -/
def State.updSlips (s : State) (n : StationNo) (f : SlipQueue → SlipQueue) : State :=
  s.upd n fun t => { t with slips := f t.slips }

/-- The tallies of station n replaced. -/
def State.updTallies (s : State) (n : StationNo) (f : Tallies → Tallies) : State :=
  s.upd n fun t => { t with tallies := f t.tallies }

/-- One item entry of station n replaced; `i` counts from 0. -/
def State.updItem (s : State) (n : StationNo) (i : Nat) (f : Item → Item) : State :=
  s.updCtx n fun c => { c with items := c.items.modify i f }

/-! ### Printer and line conditions -/

/-- R10: the four printer faults. -/
def printerFault : Printer → Bool
  | .ready | .busy => false
  | .paperOut | .jam | .coverOpen | .offline => true

/-- R8: the station fault condition. -/
def Line.fault (l : Line) : Bool := l.link != .active || printerFault l.printer

/-- R44: a station is LOCKED while any source is asserted. -/
def Ctx.locked (c : Ctx) : Bool := c.lockCommand || c.lockAlarm || c.lockKeySrc

/-- R19: the flags a station adds to every record it writes. -/
def Ctx.stationFlags (c : Ctx) : ResultFlags :=
  { maskedReason := c.maskedReason
    untracked := decide (c.kind = some .charge) && !c.tracked
    slipless := decide (c.holding = some .slipless) }

/-! ### Sending -/

/-- One thing more is sent. -/
def State.emit (s : State) (o : Out) : State := { s with sent := s.sent ++ [o] }

/-- R2: a frame for a DETACHED line is discarded when produced. -/
def State.sendDesk (s : State) (n : StationNo) (f : DeskOut) : State :=
  if (s.st n).line.link = .detached then s else s.emit (.desk n f)

/-- R2: the station state field of a DISPLAY; none is CHECK. -/
def Station.shownState (t : Station) : Option TxState :=
  if t.line.link = .check then none else some t.ctx.tx

/-- R2: a DISPLAY frame that reflects the current values, with the message index and the tone of its event. -/
def State.display (s : State) (n : StationNo) (tone : Tone) (index : Nat) : State :=
  let t := s.st n
  s.sendDesk n (.display t.shownState t.alerts.displayed index tone)

/-- A tone whose event names no message index (R2). -/
def State.tone (s : State) (n : StationNo) (t : Tone) : State := s.display n t 0

/-- R198, R204: a response or a notice is sent when the trunk link is UP and is discarded otherwise. -/
def State.sendTrunk (s : State) (m : TrunkOut) : State :=
  if s.service.linkUp then s.emit (.trunk m) else s

/-- R204: a notice, with the clock's day and minute at its production. -/
def State.notice (s : State) (n : Notice) : State := s.sendTrunk (.notice s.clock.day s.clock.minute n)

/-! ### Sticky flags and tallies -/

/-- R108: sticky flags are raised. -/
def State.stick (s : State) (f : StickyFlags) : State :=
  { s with mgmt := { s.mgmt with sticky := s.mgmt.sticky.union f } }

/-- R201: refusals tally +1. -/
def State.tallyRefusal (s : State) (n : StationNo) : State :=
  s.updTallies n fun t => { t with refusals := sat32 t.refusals 1 }

/-! ### Banks -/

/-- R72: the active bank. -/
def State.activeBank (s : State) : Bank :=
  match s.active with
  | .a => s.bankA
  | .b => s.bankB

/-- R72: the shadow bank. -/
def State.shadowBank (s : State) : Bank :=
  match s.active with
  | .a => s.bankB
  | .b => s.bankA

/-- R72: every load writes the shadow bank. -/
def State.setShadow (s : State) (b : Bank) : State :=
  match s.active with
  | .a => { s with bankB := b }
  | .b => { s with bankA := b }

/-- The number of loaded pieces of one part. -/
def loadedCount {α : Type} (parts : List (Option α)) : Nat := (parts.filter (·.isSome)).length

/-- R72: a bank is complete while all 114 marks are set. -/
def Bank.complete (b : Bank) : Bool :=
  b.rules.toList.all (·.isSome) && b.matrix.toList.all (·.isSome) && b.categories.toList.all (·.isSome) &&
    b.settings.isSome && b.header.isSome

/-- The category record of the active bank, when it may be read: none while RULES_INVALID is active (R58). -/
def State.category? (s : State) (c : Nat) : Option Category :=
  if s.mgmt.alarms.rulesInvalid.active then none else (s.activeBank.categories[c]?).join

/-! ### Borrower table -/

/-- The entry that stands for a borrower number. -/
def State.borrower? (s : State) (b : Nat) : Option Borrower := s.borrowers.find? fun e => e.number == b

/-- A keyed list in rising order of number with one entry put in its place. -/
def putBorrower (e : Borrower) : List Borrower → List Borrower
  | [] => [e]
  | x :: xs =>
    if e.number < x.number then e :: x :: xs
    else if e.number = x.number then e :: xs
    else x :: putBorrower e xs

/-- The entry for `e.number` created or replaced. -/
def State.setBorrower (s : State) (e : Borrower) : State := { s with borrowers := putBorrower e s.borrowers }

/-- The entry for a number removed, with its place in the recency list (R51). -/
def State.dropBorrower (s : State) (b : Nat) : State :=
  { s with borrowers := s.borrowers.filter (fun e => e.number != b), recency := s.recency.filter (· != b) }

/-- R51: a LEARNED entry moves to, or joins, the head of the recency list. -/
def State.touch (s : State) (b : Nat) : State := { s with recency := b :: s.recency.filter (· != b) }

/-- R128: the pending count of a borrower. -/
def State.pendingCount (s : State) (b : Nat) : Nat := (s.loans.filter fun l => l.borrower == b).length

/-- R51: a station has a charge transaction open for a borrower. -/
def Ctx.chargesFor (c : Ctx) (b : Nat) : Bool :=
  decide (c.kind = some .charge) && decide (c.tx ≠ .idle) && decide (c.borrower = some b)

/-- R51: an entry that may be evicted. -/
def State.evictable (s : State) (b : Nat) : Bool :=
  match s.borrower? b with
  | some e => !e.changed && !(s.stations.toList.any fun t => t.ctx.chargesFor b)
  | none => false

/-- R51: the least recent LEARNED entry that is a candidate for eviction. -/
def State.evictee (s : State) : Option Nat := s.recency.reverse.find? s.evictable

/-- R57: the table has room, or can make it. -/
def State.hasRoom (s : State) : Bool :=
  decide (s.borrowers.length < Config.maxBorrowers) || s.evictee.isSome

/-- R51, R52: room for one entry, evicting if the table is full; none when no entry can be evicted. -/
def State.makeRoom (s : State) : Option State :=
  if s.borrowers.length < Config.maxBorrowers then some s
  else match s.evictee with
    | some b => some (s.dropBorrower b)
    | none => none

/-- R59: the context of a station once an entry stands for `b`: an UNTRACKED borrower becomes TRACKED. -/
def Ctx.track (c : Ctx) (b : Nat) : Ctx :=
  if c.chargesFor b && !c.tracked then { c with tracked := true, view := none } else c

/-- R59: the context of a station once the entry `e` is removed: a TRACKED borrower continues UNTRACKED. -/
def Ctx.untrack (c : Ctx) (e : Borrower) : Ctx :=
  if c.chargesFor e.number && c.tracked then { c with tracked := false, view := some ⟨e.category, e.onLoan⟩ } else c

/-- A change of every station's context. -/
def State.mapCtx (s : State) (f : Ctx → Ctx) : State :=
  { s with stations := s.stations.map fun t => { t with ctx := f t.ctx } }

/-- R49, R51, R59: an entry is created, evicting if the table is full; a LEARNED entry joins the head of the recency
list, and a station that carries the borrower UNTRACKED becomes TRACKED. None when no entry can be created (R52). -/
def State.createBorrower (s : State) (e : Borrower) : Option State :=
  match s.makeRoom with
  | none => none
  | some s' =>
    let s' := s'.setBorrower e
    let s' := if e.origin = .learned then s'.touch e.number else s'
    some (s'.mapCtx fun c => c.track e.number)

/-- R60, R62: the entry of a borrower after a posting. -/
def Borrower.post (e : Borrower) (f : Borrower → Borrower) : Borrower :=
  { f e with changed := true, inFlight := false }

/-- A posting to the entry of a borrower, if one stands. -/
def State.postBorrower (s : State) (b : Nat) (f : Borrower → Borrower) : State :=
  match s.borrower? b with
  | some e => s.setBorrower (e.post f)
  | none => s

/-- R60: a granted charge posts +1, held at 255, to the entry standing for the borrower, or to the view. -/
def State.postLoan (s : State) (n : StationNo) (f : Nat → Nat) : State :=
  let c := (s.st n).ctx
  match c.borrower with
  | none => s
  | some b =>
    match s.borrower? b with
    | some e => s.setBorrower (e.post fun e => { e with onLoan := f e.onLoan })
    | none => s.updCtx n fun c => { c with view := c.view.map fun v => { v with onLoan := f v.onLoan } }

/-! ### Item exception table, badge list, pending loans -/

/-- R69: the entry that stands for an item. -/
def State.exception? (s : State) (item : Nat) : Option ExceptionKind :=
  (s.exceptions.find? fun e => e.item == item).map (·.kind)

/-- A keyed list in rising order of item number with one entry put in its place. -/
def putException (e : ItemException) : List ItemException → List ItemException
  | [] => [e]
  | x :: xs =>
    if e.item < x.item then e :: x :: xs
    else if e.item = x.item then e :: xs
    else x :: putException e xs

/-- The entry for an item removed. -/
def State.dropException (s : State) (item : Nat) : State :=
  { s with exceptions := s.exceptions.filter fun e => e.item != item }

/-- A set of numbers as a rising list without repeats, with one more. -/
def putNumber (k : Nat) : List Nat → List Nat
  | [] => [k]
  | x :: xs => if k < x then k :: x :: xs else if k = x then x :: xs else x :: putNumber k xs

/-- A set of numbers from the numbers a command carries: rising, without repeats. -/
def numberSet (ks : List Nat) : List Nat := ks.foldr putNumber []

/-- R128: the pending loan entry of an item. -/
def State.loan? (s : State) (item : Nat) : Option PendingLoan := s.loans.find? fun l => l.item == item

/-- The pending loan entry of an item removed. -/
def State.dropLoan (s : State) (item : Nat) : State :=
  { s with loans := s.loans.filter fun l => l.item != item }

/-- R128: the entry of a charge record's sequence number removed. -/
def State.dropLoanOf (s : State) (seq : Nat) : State :=
  { s with loans := s.loans.filter fun l => l.chargeSeq != seq }

end Sys2Proof.Machine
end

