-- ==== Sys2Proof/Machine/Layout.lean ====
section
/-! DEFINITION. Layout.lean: the byte layouts of what the part sends (R208, R209) and the block check (R189). -/

namespace Sys2Proof.Machine

/-! ### Fields -/

/-- A byte of a number. -/
def byte (n : Nat) : Byte := BitVec.ofNat 8 n

/-- R209: a yes-or-no value. -/
def yesNo (b : Bool) : List Byte := [byte b.toNat]

/-- R208: a two-valued enumeration whose first value holds when `b` does (ON/OFF, active/inactive, SET/UNSET,
held/running, UP/DOWN: log entry 18). -/
def firstOf (b : Bool) : List Byte := [byte (!b).toNat]

/-- R208: an absent optional field is sent as zeros. -/
def orZeros (w : Nat) : Option (List Byte) → List Byte
  | some bs => bs
  | none => List.replicate w 0

/-- R209: a field that may be absent, preceded by its presence byte. -/
def optionalField (w : Nat) : Option (List Byte) → List Byte
  | some bs => 1 :: bs
  | none => 0 :: List.replicate w 0

/-- R209: a list, sent as a count of one byte followed by its members. -/
def listField (members : List (List Byte)) : List Byte := byte members.length :: members.flatten

/-- R208: the reason codes. -/
def Reason.code : Reason → Nat
  | .unknownBorrower => 0 | .stranger => 1
  | .block .manual => 2 | .block .expired => 3 | .block .fines => 4 | .block .overdue => 5 | .block .limit => 6
  | .listFull => 7 | .reference => 8 | .withdrawn => 9 | .holdOther => 10 | .rulesInvalid => 11 | .server _ => 12
  | .journalFull => 13

/-- R163: the server's reason code beside the reason SERVER. -/
def Reason.serverCode : Reason → Nat
  | .server c => c
  | _ => 0

/-- R208: the detail codes; 0 is none. -/
def detailCode : Option Detail → Nat
  | none => 0
  | some d => d.ctorIdx + 1

/-- R208: station, 255 for DEVICE. -/
def stationByte : Option StationNo → Byte
  | some n => byte n.val
  | none => 255

/-- R208: a displayed level, 255 for none. -/
def levelByte : Option Level → Byte
  | some l => byte l.idx.val
  | none => 255

/-! ### Journal records -/

/-- R208: the presence of a record's optional fields. -/
def Record.presence (r : Record) : Nat :=
  bitsOf [r.borrower.isSome, r.item.isSome, r.due.isSome, r.fine.isSome, r.reason.isSome, r.ruleIndex.isSome,
    r.bankGen.isSome, r.badge.isSome, r.detail.isSome, r.slipToken.isSome]

/-- R208: the 60 bytes of a journal record. -/
def Record.bytes (r : Record) : List Byte :=
  be 4 r.seq ++ [byte r.kind.ctorIdx, stationByte r.station] ++ be 2 r.day ++ be 2 r.minute ++
    [byte r.decidedBy.ctorIdx] ++ be 2 r.presence ++ be 2 r.flags.bits ++
    orZeros 10 (r.borrower.map (digits 10)) ++ orZeros 12 (r.item.map (digits 12)) ++
    be 2 ((r.due.map (·.day)).getD 0) ++ be 2 ((r.due.map (·.minute)).getD 0) ++ be 3 (r.fine.getD 0) ++
    [byte ((r.reason.map (·.code)).getD 0), byte ((r.reason.map (·.serverCode)).getD 0), byte (r.ruleIndex.getD 0),
      byte (r.bankGen.getD 0)] ++
    orZeros 8 (r.badge.map (digits 8)) ++ [byte (detailCode r.detail)] ++ be 2 (r.slipToken.getD 0) ++ [0]

/-! ### Block records -/

/-- R208: the 22 bytes of a BORROWER_CHANGES record. -/
def Borrower.changeBytes (e : Borrower) : List Byte :=
  digits 10 e.number ++ [byte e.origin.ctorIdx, byte e.category,
    byte (bitsOf [e.manual.isSome, e.expiry.isSome]), byte (e.manual.getD 0)] ++ be 2 (e.expiry.getD 0) ++
    be 3 e.balance ++ [byte e.onLoan, byte e.overdue, 0]

/-- R208: the 31 bytes of a PENDING_LOANS record. -/
def PendingLoan.bytes (l : PendingLoan) : List Byte :=
  digits 12 l.item ++ digits 10 l.borrower ++ be 2 l.due.day ++ be 2 l.due.minute ++ [byte l.ruleIndex] ++
    be 4 l.chargeSeq

/-- R201: the nine tallies in order. -/
def Tallies.values (t : Tallies) : List Nat :=
  [t.charges, t.refusals, t.discharges, t.overrides, t.voids, t.fines, t.badScans, t.printed, t.lost]

/-- The nine tallies, 4 bytes each. -/
def Tallies.bytes (t : Tallies) : List Byte := (t.values.map (be 4)).flatten

/-- The records of a block, each as its bytes. -/
def Contents.records : Contents → List (List Byte)
  | .journal _ rs => rs.map (·.bytes)
  | .borrowers es => es.map (·.changeBytes)
  | .loans ls => ls.map (·.bytes)
  | .tallies ts => ts.zipIdx.map fun p => byte p.2 :: p.1.bytes
  | .empty => []

/-- R188: the record count of a block. -/
def Contents.count : Contents → Nat
  | .journal _ rs => rs.length
  | .borrowers es => es.length
  | .loans ls => ls.length
  | .tallies ts => ts.length
  | .empty => 0

/-- R208: a block up to its check field, after the common trunk header. -/
def Block.bytes (b : Block) : List Byte :=
  be 2 b.run ++ [byte b.slot, byte b.kind.ctorIdx, byte b.number, byte b.contents.count,
    byte (bitsOf [b.final, b.firstSeq.isSome])] ++ be 4 (b.firstSeq.getD 0) ++ b.contents.records.flatten

/-! ### Block check -/

/-- R189: one shift of the register. -/
def crcShift (r : BitVec 32) : BitVec 32 :=
  if r.getLsbD 0 then (r >>> 1) ^^^ 0xEDB88320#32 else r >>> 1

/-- R189: one byte combined into the register. -/
def crcByte (r : BitVec 32) (b : Byte) : BitVec 32 :=
  (List.range 8).foldl (fun r _ => crcShift r) (r ^^^ b.setWidth 32)

/-- R189: the check over bytes in order of transmission. -/
def crc32 (bs : List Byte) : BitVec 32 := ~~~ (bs.foldl crcByte 0xFFFFFFFF#32)

/-- R189: the block check, over the block's bytes after the common trunk header (log entry 20). -/
def Block.check (b : Block) : BitVec 32 := crc32 b.bytes

/-! ### Trunk messages -/

/-- R202, R204, R205: the four alarms with their enables. -/
def Alarms.bytes (a : Alarms) : List Byte :=
  ([a.rulesInvalid, a.clockUnset, a.journalLow, a.journalFull].map fun x => firstOf x.active ++ firstOf x.enable).flatten

/-- The run counts, four bytes each (log entry 25). -/
def RunCounts.bytes (c : RunCounts) : List Byte :=
  ([c.passes, c.sent, c.accepted, c.rejects, c.timeouts, c.mismatches].map (be 4)).flatten

/-- R208: the lock sources asserted, as a set of COMMAND, ALARM and KEY. -/
def lockBits (command alarm key : Bool) : Byte := byte (bitsOf [command, alarm, key])

/-- The kind code of a notice, by its place in the table of R204. -/
def Notice.kindCode : Notice → Nat
  | .serviceState .. => 0
  | .journalAlarm .. => 1
  | .lockState .. => 2
  | .uploadEnd .. => 3
  | .startUp .. => 4

/-- R204, R205: the further contents of a notice (log entry 32); a LOCKED state is a yes-or-no value (log entry 18). -/
def Notice.contents : Notice → List Byte
  | .serviceState st count => [byte st.ctorIdx, byte count]
  | .journalAlarm full active free => [byte (if full then 3 else 2)] ++ firstOf active ++ [byte free]
  | .lockState n locked c a k => [byte n.val] ++ yesNo locked ++ [lockBits c a k]
  | .uploadEnd o run counts => [byte o.ctorIdx] ++ be 2 run ++ counts.bytes
  | .startUp kind cab alarms sv free counter run gen =>
    [byte kind.ctorIdx, byte cab] ++ alarms.bytes ++ [byte sv.ctorIdx, byte free] ++ be 4 counter ++ be 2 run ++ [byte gen]

/-- R208: the code of a result; RUN_IN_PROGRESS has none in the manual (log entry 40). -/
def Result.code : Result → Byte
  | .runInProgress => Config.runInProgressCode
  | r => byte r.ctorIdx

/-- R208: a message after the common trunk header. -/
def TrunkOut.body : TrunkOut → List Byte
  | .response tok code result body => be 4 tok.toNat ++ [code, result.code] ++ body
  | .notice day minute n => [byte n.kindCode] ++ be 2 day ++ be 2 minute ++ n.contents
  | .query tag gen q cls =>
    [byte tag, byte gen, byte q.kind.ctorIdx, byte q.station.val] ++
      (match q.kind with
        | .borrowerLookup => digits 10 q.target ++ List.replicate 12 0
        | .chargeRequest => orZeros 10 (q.borrower.map (digits 10)) ++ digits 12 q.target
        | .dischargeRequest => List.replicate 10 0 ++ digits 12 q.target) ++ [byte cls]
  | .probe gen => [byte gen]
  | .block b check => b.bytes ++ be 4 check.toNat

/-- R208: the class of a message. -/
def TrunkOut.class : TrunkOut → Nat
  | .response .. => 1
  | .notice .. => 2
  | .query .. => 3
  | .probe .. => 5
  | .block .. => 7

/-- R197, R208: a message with its common trunk header, from a cabinet. -/
def TrunkOut.bytes (cabinet : Nat) (m : TrunkOut) : List Byte :=
  [byte m.class, byte cabinet] ++ be 2 m.body.length ++ m.body

/-! ### Desk frames -/

/-- R208: the check byte of a desk frame. -/
def xorAll (bs : List Byte) : Byte := bs.foldl (· ^^^ ·) 0

/-- R208: a desk frame of a kind with a body. -/
def deskFrame (kind : Nat) (body : List Byte) : List Byte :=
  let inner := byte kind :: byte body.length :: body
  0x7E :: inner ++ [xorAll inner]

/-- R208: the frames the part sends to a head. -/
def DeskOut.bytes : DeskOut → List Byte
  | .display st level index tone =>
    deskFrame 8 [byte ((st.map (·.ctorIdx)).getD 6), levelByte level, byte index, byte tone.ctorIdx]
  | .slipLine token line text last => deskFrame 9 (be 2 token ++ [byte line] ++ yesNo last ++ text)

end Sys2Proof.Machine
end

