-- ==== Sys2Proof/Decode.lean ====
section
/-! DEFINITION. Decode.lean: the bytes of what arrives, as commands: desk frames (R1, R208) and trunk messages (R197,
R198, R208), each with the bytes of a command beside it; and the reading of a table word, of which the table has none. -/

namespace Sys2Proof

/-- The command that a word spells by the bits of spec/opcode_table.json: the table gives no row any bits. -/
def decodeTableWord (_nbits _w : Nat) : Option Instr := none

namespace Machine

/-! ### Desk frames -/

/-- R208: a well-framed desk frame: its kind and its body. The exclusive-or of the kind, length, body and check bytes is
0 exactly when the check byte is right. -/
def framed : List Byte → Option (Byte × List Byte)
  | start :: kind :: len :: rest =>
    if start = 0x7E ∧ rest.length = len.toNat + 1 ∧ xorAll (kind :: len :: rest) = 0 then some (kind, rest.dropLast)
    else none
  | _ => none

/-- The keys, in the order of 1.1. -/
def keys : List Key := [.charge, .ret, .ack, .cancel]

/-- The printer states, in the order of the table of chapter 1. -/
def printers : List Printer := [.ready, .busy, .paperOut, .jam, .coverOpen, .offline]

/-- The lock key positions, true for ON (log entry 18). -/
def lockKeys : List Bool := [true, false]

/-- R208: a token field of two bytes, 0 for none. -/
def tokenField (k : Nat) : Option Nat := if k = 0 then none else some k

/-- R1: a frame decoded on line n; none where the frame is discarded. -/
def decodeDesk (n : StationNo) (bytes : List Byte) : Option Instr :=
  match framed bytes with
  | none => none
  | some (kind, body) =>
    if kind = 1 then (if validSymbol body then some (.scan n body) else none)
    else if kind = 2 then
      match body with
      | [k] => (keys[k.toNat]?).map (.key n)
      | _ => none
    else if kind = 3 then
      match body with
      | [p, l, c, t, u] =>
        match printers[p.toNat]?, lockKeys[l.toNat]? with
        | some p, some l =>
          if c.toNat ≤ 8 then some (.headStatus n ⟨p, l, c.toNat, tokenField (beNat [t, u])⟩) else none
        | _, _ => none
      | _ => none
    else if kind = 4 then
      match body with
      | [] => some (.attach n)
      | _ => none
    else none

/-- R208: the frame that a head sends for a command of its line. -/
def deskBytes : Instr → Option (List Byte)
  | .scan _ symbol => some (deskFrame 1 symbol)
  | .key _ k => some (deskFrame 2 [byte k.ctorIdx])
  | .headStatus _ r =>
    some (deskFrame 3 ([byte r.printer.ctorIdx] ++ firstOf r.lockKey ++ [byte r.credit] ++ be 2 (r.token.getD 0)))
  | .attach _ => some (deskFrame 4 [])
  | _ => none

/-- The line that a desk frame arrives on. -/
def lineOf : Instr → Option StationNo
  | .scan n _ | .key n _ | .headStatus n _ | .attach n => some n
  | _ => none

/-! ### Trunk messages -/

/-- `w` bytes from an offset. -/
def slice (bytes : List Byte) (off w : Nat) : List Byte := (bytes.drop off).take w

/-- The number in `w` bytes from an offset. -/
def fieldAt (bytes : List Byte) (off w : Nat) : Nat := beNat (slice bytes off w)

/-- 11.6: the command codes with their commands. -/
def commandTable : List (Byte × (Token → List Byte → Instr)) :=
  [(0x10, .borrowerPut), (0x11, .borrowerDelete), (0x12, .borrowerRead), (0x14, .itemPut),
   (0x15, .itemDelete), (0x18, .badgeSet), (0x20, .shadowClear), (0x21, .ruleLoad), (0x22, .matrixLoad),
   (0x23, .categoryLoad), (0x24, .bankSettingsLoad), (0x25, .calendarLoad), (0x26, .closedDatesLoad),
   (0x27, .openDatesLoad), (0x28, .bankSwap), (0x29, .clockSet), (0x30, .stationLock),
   (0x31, .stationUnlock), (0x32, .stationClear), (0x33, .deskConfig), (0x38, .alertConfig),
   (0x39, .alertPoll), (0x3A, .alertClear), (0x40, .serviceConfig), (0x48, .uploadProgram),
   (0x49, .uploadConfig), (0x4A, .uploadTrigger), (0x4B, .uploadStop), (0x50, .journalConfig),
   (0x51, .journalClear), (0x58, .alarmConfig), (0x60, .latch), (0x61, .snapshotRead),
   (0x62, .flagsReadClear), (0x63, .statusRead), (0x6F, .restart)]

/-- 11.6: the command codes. -/
def commandCodes : List Byte := commandTable.map (·.1)

/-- R198: a management message's command; every code not in the list is an unknown command. -/
def managementCommand (tok : Token) (code : Byte) (body : List Byte) : Instr :=
  match commandTable.find? fun p => p.1 == code with
  | some p => p.2 tok body
  | none => .unknownCommand tok code body

/-- R208: the fields of a REPLY, 44 bytes. -/
def decodeReply (b : List Byte) : ReplyMsg :=
  { tag := fieldAt b 0 1, gen := fieldAt b 1 1, kind := fieldAt b 2 1, outcome := fieldAt b 3 1,
    borrower := slice b 4 10, item := slice b 14 12, category := fieldAt b 26 1, presence := b.getD 27 0,
    manual := fieldAt b 28 1, day := fieldAt b 29 2, minute := fieldAt b 31 2, balance := fieldAt b 33 4,
    onLoan := fieldAt b 37 2, overdue := fieldAt b 39 2, cls := fieldAt b 41 1, reason := fieldAt b 42 1,
    hold := fieldAt b 43 1 }

/-- R208: the 44 bytes of a REPLY. -/
def replyBytes (m : ReplyMsg) : List Byte :=
  be 1 m.tag ++ be 1 m.gen ++ be 1 m.kind ++ be 1 m.outcome ++ m.borrower ++ m.item ++ be 1 m.category ++
    [m.presence] ++ be 1 m.manual ++ be 2 m.day ++ be 2 m.minute ++ be 4 m.balance ++ be 2 m.onLoan ++
    be 2 m.overdue ++ be 1 m.cls ++ be 1 m.reason ++ be 1 m.hold

/-- R208: the verdict byte of a RECEIPT. -/
def verdictOf (k : Nat) : Verdict :=
  match k with
  | 0 => .accept
  | 1 => .reject
  | _ => .other

/-- A reply of a kind that no query has: it matches no entry (R121). -/
def unmatchedReply : ReplyMsg :=
  { tag := 255, gen := 0, kind := 255, outcome := 255, borrower := [], item := [], category := 0, presence := 0,
    manual := 0, day := 0, minute := 0, balance := 0, onLoan := 0, overdue := 0, cls := 0, reason := 0, hold := 0 }

/-- R197, R198, R208: a message body by its class; none where the message is discarded. A REPLY, PROBE_ANSWER or RECEIPT
of another length than its layout's is handed on as one that matches nothing: a reply of no kind, an answer of a
generation above 255, a receipt without a verdict (log entry 23). -/
def decodeClass (cls : Nat) (b : List Byte) : Option Instr :=
  if cls = 0 then
    if 5 ≤ b.length then some (managementCommand (BitVec.ofNat 32 (fieldAt b 0 4)) (b.getD 4 0) (b.drop 5)) else none
  else if cls = 4 then some (.reply (if b.length = 44 then decodeReply b else unmatchedReply))
  else if cls = 6 then some (.probeAnswer (if b.length = 1 then fieldAt b 0 1 else 256))
  else if cls = 8 then
    some (.receipt (if b.length = 5 then ⟨fieldAt b 0 2, fieldAt b 2 1, fieldAt b 3 1, verdictOf (fieldAt b 4 1)⟩
      else ⟨0, 0, 0, .other⟩))
  else none

/-- R197: a message that arrives on the trunk of a cabinet; none where it is discarded. -/
def decodeTrunk (cabinet : Nat) (bytes : List Byte) : Option Instr :=
  if 4 ≤ bytes.length ∧ fieldAt bytes 1 1 = cabinet ∧ fieldAt bytes 2 2 = (bytes.drop 4).length then
    decodeClass (fieldAt bytes 0 1) (bytes.drop 4)
  else none

/-- R208: a message with its common header. -/
def trunkMessage (cls cabinet : Nat) (body : List Byte) : List Byte :=
  [byte cls, byte cabinet] ++ be 2 body.length ++ body

/-- The token, the code and the body of a management message. -/
def commandOf : Instr → Option (Token × Byte × List Byte)
  | .unknownCommand tok code body => some (tok, code, body)
  | .borrowerPut tok body => some (tok, 0x10, body)
  | .borrowerDelete tok body => some (tok, 0x11, body)
  | .borrowerRead tok body => some (tok, 0x12, body)
  | .itemPut tok body => some (tok, 0x14, body)
  | .itemDelete tok body => some (tok, 0x15, body)
  | .badgeSet tok body => some (tok, 0x18, body)
  | .shadowClear tok body => some (tok, 0x20, body)
  | .ruleLoad tok body => some (tok, 0x21, body)
  | .matrixLoad tok body => some (tok, 0x22, body)
  | .categoryLoad tok body => some (tok, 0x23, body)
  | .bankSettingsLoad tok body => some (tok, 0x24, body)
  | .calendarLoad tok body => some (tok, 0x25, body)
  | .closedDatesLoad tok body => some (tok, 0x26, body)
  | .openDatesLoad tok body => some (tok, 0x27, body)
  | .bankSwap tok body => some (tok, 0x28, body)
  | .clockSet tok body => some (tok, 0x29, body)
  | .stationLock tok body => some (tok, 0x30, body)
  | .stationUnlock tok body => some (tok, 0x31, body)
  | .stationClear tok body => some (tok, 0x32, body)
  | .deskConfig tok body => some (tok, 0x33, body)
  | .alertConfig tok body => some (tok, 0x38, body)
  | .alertPoll tok body => some (tok, 0x39, body)
  | .alertClear tok body => some (tok, 0x3A, body)
  | .serviceConfig tok body => some (tok, 0x40, body)
  | .uploadProgram tok body => some (tok, 0x48, body)
  | .uploadConfig tok body => some (tok, 0x49, body)
  | .uploadTrigger tok body => some (tok, 0x4A, body)
  | .uploadStop tok body => some (tok, 0x4B, body)
  | .journalConfig tok body => some (tok, 0x50, body)
  | .journalClear tok body => some (tok, 0x51, body)
  | .alarmConfig tok body => some (tok, 0x58, body)
  | .latch tok body => some (tok, 0x60, body)
  | .snapshotRead tok body => some (tok, 0x61, body)
  | .flagsReadClear tok body => some (tok, 0x62, body)
  | .statusRead tok body => some (tok, 0x63, body)
  | .restart tok body => some (tok, 0x6F, body)
  | _ => none

/-- R208: the message body that carries a command, with its class. -/
def classBytes : Instr → Option (Nat × List Byte)
  | .reply m => some (4, replyBytes m)
  | .probeAnswer gen => some (6, be 1 gen)
  | .receipt m =>
    some (8, be 2 m.run ++ be 1 m.slot ++ be 1 m.block ++ [match m.verdict with
      | .accept => 0
      | .reject => 1
      | .other => 2])
  | i => (commandOf i).map fun c => (0, be 4 c.1.toNat ++ [c.2.1] ++ c.2.2)

/-- R197, R208: the trunk message that carries a command to a cabinet. -/
def trunkBytes (cabinet : Nat) (i : Instr) : Option (List Byte) :=
  (classBytes i).map fun m => trunkMessage m.1 cabinet m.2

end Machine

end Sys2Proof
end

