-- ==== Sys2Proof/Machine/Journal.lean ====
section
/-! DEFINITION. Journal.lean: the ring of pages, the writing of records and what it sets off: the journal alarms
(R172, R173), the ALARM lock condition (R203) and the stations' LOCKED state (R44). -/

namespace Sys2Proof.Machine

/-! ### Pages -/

/-- The FILLING page, if there is one. -/
def Journal.filling? (j : Journal) : Option (Fin 128) :=
  (List.finRange 128).find? fun i => decide (j.pages[i].state = .filling)

/-- The number of pages in a state. -/
def Journal.countOf (j : Journal) (p : PageState) : Nat := (j.pages.toList.filter fun g => decide (g.state = p)).length

/-- R166: the free page count. -/
def Journal.free (j : Journal) : Nat := j.countOf .free

/-- One page replaced. -/
def Journal.setPage (j : Journal) (i : Fin 128) (p : Page) : Journal := { j with pages := j.pages.set i p }

/-- R167: the FREE page that follows `i` in ring order becomes FILLING; nothing when the page that follows is not
FREE. -/
def Journal.openAfter (j : Journal) (i : Fin 128) : Journal :=
  if j.pages[i + 1].state = .free then j.setPage (i + 1) ⟨.filling, []⟩ else j

/-- R165, R167: a record offered is taken while a page is FILLING: it receives the counter's value, and a page that
reaches 64 records is SEALED. None when no page is FILLING. -/
def Journal.take (j : Journal) (r : Record) : Option (Nat × Journal) :=
  match j.filling? with
  | none => none
  | some i =>
    let records := j.pages[i].records ++ [{ r with seq := j.counter }]
    let j' := { j with counter := (j.counter + 1) % 2 ^ 32 }
    if Config.pageRecords ≤ records.length then
      some (j.counter, (j'.setPage i ⟨.sealed, records⟩).openAfter i)
    else some (j.counter, j'.setPage i ⟨.filling, records⟩)

/-- R168: the early seal of the FILLING page when it holds a record. -/
def Journal.sealEarly (j : Journal) : Journal :=
  match j.filling? with
  | none => j
  | some i =>
    if j.pages[i].records.isEmpty then j
    else (j.setPage i ⟨.sealed, j.pages[i].records⟩).openAfter i

/-- How long ago a page's first record was numbered, counted with the wrap of R165: the held pages run in sequence
order (9.3), so the oldest page has the largest age. -/
def Journal.age (j : Journal) (i : Fin 128) : Nat :=
  match j.pages[i].records with
  | [] => 0
  | r :: _ => (j.counter + 2 ^ 32 - r.seq) % 2 ^ 32

/-- The SEALED pages. -/
def Journal.sealedPages (j : Journal) : List (Fin 128) :=
  (List.finRange 128).filter fun i => decide (j.pages[i].state = .sealed)

/-- R169: the oldest SEALED page. -/
def Journal.oldestSealed (j : Journal) : Option (Fin 128) :=
  j.sealedPages.foldl (fun best i => match best with
    | none => some i
    | some b => if j.age b < j.age i then some i else some b) none

/-- R168: the newest SEALED page. -/
def Journal.newestSealed (j : Journal) : Option (Fin 128) :=
  j.sealedPages.foldl (fun best i => match best with
    | none => some i
    | some b => if j.age i < j.age b then some i else some b) none

/-- R169, R166: a page moves between SEALED and SENT, its records kept. -/
def Journal.mark (j : Journal) (i : Fin 128) (p : PageState) : Journal := j.setPage i ⟨p, j.pages[i].records⟩

/-- R170, steps 1 and 3: a page is freed; it becomes FILLING when no page was FILLING. -/
def Journal.freePage (j : Journal) (i : Fin 128) : Journal :=
  match j.filling? with
  | some _ => j.setPage i ⟨.free, []⟩
  | none => j.setPage i ⟨.filling, []⟩

/-- R177: SENT pages return to SEALED at a reset. -/
def Journal.unsend (j : Journal) : Journal :=
  { j with pages := j.pages.map fun p => if p.state = .sent then ⟨.sealed, p.records⟩ else p }

/-- The records held. -/
def Journal.recordCount (j : Journal) : Nat := (j.pages.toList.map fun p => p.records.length).sum

/-- R176: the number of the oldest record held: the records run without gap up to the counter (R165). -/
def Journal.oldestSeq (j : Journal) : Nat := (j.counter + 2 ^ 32 - j.recordCount) % 2 ^ 32

/-! ### Alarms -/

/-- R203: the ALARM lock condition that the alarms give. -/
def Alarms.holds (a : Alarms) : Bool :=
  (a.rulesInvalid.active && a.rulesInvalid.enable) || (a.clockUnset.active && a.clockUnset.enable) ||
    (a.journalLow.active && a.journalLow.enable) || (a.journalFull.active && a.journalFull.enable)

/-- The alarms replaced. -/
def State.setAlarms (s : State) (f : Alarms → Alarms) : State :=
  { s with mgmt := { s.mgmt with alarms := f s.mgmt.alarms } }

/-- R173: JOURNAL_FULL is active while no page is FILLING. -/
def Journal.isFull (j : Journal) : Bool := j.filling?.isNone

/-- R172: JOURNAL_LOW is active while the mark is above 0 and the free page count at or below it. -/
def Journal.isLow (j : Journal) : Bool := decide (0 < j.lowMark) && decide (j.free ≤ j.lowMark)

/-- R173: JOURNAL_FULL evaluated, with its notice when it changes. -/
def State.evalFull (s : State) : State :=
  if s.journal.isFull = s.mgmt.alarms.journalFull.active then s
  else
    (s.setAlarms fun a => { a with journalFull := { a.journalFull with active := s.journal.isFull } }).notice
      (.journalAlarm true s.journal.isFull s.journal.free)

/-- R172: JOURNAL_LOW evaluated, with its notice when it changes. -/
def State.evalLow (s : State) : State :=
  if s.journal.isLow = s.mgmt.alarms.journalLow.active then s
  else
    (s.setAlarms fun a => { a with journalLow := { a.journalLow with active := s.journal.isLow } }).notice
      (.journalAlarm false s.journal.isLow s.journal.free)

/-- Both journal alarms evaluated, JOURNAL_FULL first as R175 lists them (log entry 35). -/
def State.evalJournal (s : State) : State := s.evalFull.evalLow

/-! ### Writing a record -/

/-- A record of a kind with no optional field, made at the clock's reading (R163). -/
def State.record (s : State) (kind : RecordKind) (station : Option StationNo) : Record :=
  { seq := 0, kind := kind, station := station, day := s.clock.day, minute := s.clock.minute, decidedBy := .noOne,
    flags := {}, borrower := none, item := none, due := none, fine := none, reason := none, ruleIndex := none,
    bankGen := none, badge := none, detail := none, slipToken := none }

/-- R167, R171: a record is offered to the journal. Taken, it answers its number; else the overflow count rises and
JOURNAL_OVERFLOWED is set. The journal alarms follow. The ALARM lock condition is left to `settleLocks`. -/
def State.offer (s : State) (r : Record) : Option Nat × State :=
  match s.journal.take r with
  | some (k, j) => (some k, { s with journal := j }.evalJournal)
  | none =>
    (none, { s with journal := { s.journal with overflow := sat32 s.journal.overflow 1 } }.stick
      { journalOverflowed := true })

/-! ### Lock sources -/

/-- R44: a lock source of station n changes. When LOCKED changes with it, a STATION_EVENT record is offered, a
LOCK_STATE notice sent and a DISPLAY with tone NONE. -/
def State.changeSource (s : State) (n : StationNo) (f : Ctx → Ctx) : State :=
  let before := (s.st n).ctx.locked
  let s := s.updCtx n f
  let c := (s.st n).ctx
  if c.locked = before then s
  else
    let r := { s.record .stationEvent (some n) with
      flags := c.stationFlags, detail := some (if c.locked then Detail.locked else .unlocked) }
    let s := (s.offer r).2
    let s := s.notice (.lockState n c.locked c.lockCommand c.lockAlarm c.lockKeySrc)
    s.tone n .none

/-- R203: an assertion or a release of the ALARM source reported to all eight station controllers in turn, in the station
order that R204 gives their LOCK_STATE notices. -/
def State.reportAlarm (s : State) (on : Bool) : State :=
  (List.finRange 8).foldl (fun s n => s.changeSource n fun c => { c with lockAlarm := on }) s

/-- R203: the ALARM lock condition evaluated; a change is reported to all stations, and evaluated again, since the
records written may have changed a journal alarm. Two rounds reach a result that stands (log entry 8). -/
def State.settleLocks : Nat → State → State
  | 0, s => s
  | k + 1, s =>
    if s.mgmt.alarms.holds = s.mgmt.alarmCond then s
    else State.settleLocks k
      (State.reportAlarm { s with mgmt := { s.mgmt with alarmCond := s.mgmt.alarms.holds } } s.mgmt.alarms.holds)

/-- The ALARM lock condition brought up to date (R203). -/
def State.settle (s : State) : State := s.settleLocks 4

/-- A record is written, with all that its taking sets off. -/
def State.write (s : State) (r : Record) : Option Nat × State :=
  ((s.offer r).1, (s.offer r).2.settle)

/-- R165: the records that set a station's first sequence number. -/
def Record.opens (r : Record) : Bool :=
  match r.kind with
  | .stationEvent => decide (r.detail = some .itemFound)
  | .conflict | .deviceEvent => false
  | _ => true

/-- R19, R165: a record that station n writes: it carries the station's flags, and sets the first sequence number
of an open transaction while that is absent. -/
def State.writeStation (s : State) (n : StationNo) (r : Record) : Option Nat × State :=
  let r := { r with flags := r.flags.union (s.st n).ctx.stationFlags }
  match s.write r with
  | (some k, s) =>
    (some k, if r.opens then
      s.updCtx n fun c => if c.tx ≠ .idle ∧ c.firstSeq = none then { c with firstSeq := some k } else c
    else s)
  | (none, s) => (none, s)

/-- R44: a lock source changes; when LOCKED changed with it, the ALARM condition follows what the record set off. -/
def State.lockChange (s : State) (n : StationNo) (f : Ctx → Ctx) : State :=
  let s' := s.changeSource n f
  if (s'.st n).ctx.locked = (s.st n).ctx.locked then s' else s'.settle

/-- R80, R87, R175: a DEVICE_EVENT record with station DEVICE. The ALARM condition is settled by the caller. -/
def State.deviceEvent (s : State) (d : Detail) (gen : Option Nat) : State :=
  (s.offer { s.record .deviceEvent none with detail := some d, bankGen := gen }).2

end Sys2Proof.Machine
end

