-- ==== Sys2Proof/Machine/Upload.lean ====
section
/-! DEFINITION. Upload.lean: the upload controller (chapter 10): passes, sections, blocks, receipts, pausing and the
end of a run, and the meanings of its commands that are no management messages. -/

namespace Sys2Proof.Machine

/-- The upload controller replaced. -/
def State.updUpload (s : State) (f : Upload → Upload) : State := { s with upload := f s.upload }

/-- The run counts replaced. -/
def State.countUpload (s : State) (f : RunCounts → RunCounts) : State :=
  s.updUpload fun u => { u with counts := f u.counts }

/-- R180: the configuration with the fields present applied. -/
def UploadSettings.apply (c : UploadSettings) (f : UploadFields) : UploadSettings :=
  { mode := f.mode.getD c.mode, windowStart := f.windowStart.getD c.windowStart,
    windowLength := f.windowLength.getD c.windowLength, patience := f.patience.getD c.patience,
    attempts := f.attempts.getD c.attempts }

/-- R181: the deferred program, then the deferred configuration, applied. -/
def Upload.applyDeferred (u : Upload) : Upload :=
  { u with program := u.defProgram.getD u.program
           config := match u.defConfig with
             | some f => u.config.apply f
             | none => u.config
           defProgram := none
           defConfig := none }

/-- R195: the end of a run. -/
def State.endRun (s : State) (o : RunOutcome) : State :=
  let s := s.updUpload fun u => { u with
    run := .idle, trigger := false, stop := false, window := none, hand := none, sect := none, wait := none }
  (s.notice (.uploadEnd o s.upload.runNumber s.upload.counts)).updUpload Upload.applyDeferred

/-! ### Sections -/

/-- The section kind of the current slot. -/
def Upload.kind (u : Upload) : SectionKind := (u.program.slots[u.slot]?).getD .empty

/-- R185: the borrower numbers whose entries carry the changed mark, in ascending order. -/
def State.changedNumbers (s : State) : List Nat := (s.borrowers.filter (·.changed)).map (·.number)

/-- R168, R184: the journal seals early; the alarms and the ALARM condition follow. -/
def State.sealEarly (s : State) : State := { s with journal := s.journal.sealEarly }.evalJournal.settle

/-- R183 to R187: the start work of the section of the current slot. -/
def State.beginSection (s : State) : State :=
  let s := s.updUpload fun u => { u with blockNo := 0, hand := none }
  match s.upload.kind with
  | .journal =>
    let bound := s.journal.sealEarly.newestSealed
    s.sealEarly.updUpload fun u => { u with sect := some (.journal bound) }
  | .borrowerChanges => s.updUpload fun u => { u with sect := some (.borrowers s.changedNumbers) }
  | .pendingLoans => s.updUpload fun u => { u with sect := some (.loans s.loans) }
  | .tallies => s.updUpload fun u => { u with sect := some .tallies }
  | .empty => s.updUpload fun u => { u with sect := some .empty }

/-- R185: up to `k` entries from the front of the list that still stand with their changed mark; the numbers passed
over are dropped. DESIGN CHOICE (log entry 53): after `k` entries the look ends, so that numbers behind them stay on the
list, and the block is not final, even where none of their entries still stands with its changed mark. -/
def State.takeChanged (s : State) : Nat → List Nat → List Borrower × List Nat
  | _, [] => ([], [])
  | 0, b :: bs => ([], b :: bs)
  | k + 1, b :: bs =>
    match s.borrower? b with
    | some e =>
      if e.changed then
        let r := s.takeChanged k bs
        (e :: r.1, r.2)
      else s.takeChanged (k + 1) bs
    | none => s.takeChanged (k + 1) bs

/-- R185: the in-flight marks of the entries carried are set. -/
def State.markInFlight (s : State) (es : List Borrower) : State :=
  { s with borrowers := s.borrowers.map fun e =>
      if es.any (fun x => x.number == e.number) then { e with inFlight := true } else e }

/-- A block of the current pass position (R188). -/
def Upload.block (u : Upload) (final : Bool) (firstSeq : Option Nat) (c : Contents) : Block :=
  { run := u.runNumber, slot := u.slot, kind := u.kind, number := u.blockNo, final := final, firstSeq := firstSeq,
    contents := c }

/-- R184 to R187: the next block of the section is composed. -/
def State.compose (s : State) : Block × State :=
  let u := s.upload
  match u.sect with
  | some (.journal bound) =>
    match bound, s.journal.oldestSealed with
    | some p, some i =>
      let rs := s.journal.pages[i].records
      (u.block (decide (i = p)) (some ((rs.head?.map (·.seq)).getD s.journal.counter)) (.journal (some i) rs), s)
    | _, _ => (u.block true (some s.journal.counter) (.journal none []), s)
  | some (.borrowers rest) =>
    let r := s.takeChanged Config.blockEntries rest
    (u.block r.2.isEmpty none (.borrowers r.1),
      (s.markInFlight r.1).updUpload fun u => { u with sect := some (.borrowers r.2) })
  | some (.loans rest) =>
    let left := rest.drop Config.blockEntries
    (u.block left.isEmpty none (.loans (rest.take Config.blockEntries)),
      s.updUpload fun u => { u with sect := some (.loans left) })
  | some .tallies => (u.block true none (.tallies (s.stations.toList.map (·.tallies))), s)
  | some .empty | none => (u.block true none .empty, s)

/-- R169: the page of a journal block moves between SEALED and SENT. -/
def State.markPage (s : State) (b : Block) (p : PageState) : State :=
  match b.contents with
  | .journal (some i) _ => { s with journal := s.journal.mark i p }
  | _ => s

/-- R188: the sending of a block begins: the run is SENDING, the blocks-sent count rises. -/
def State.sendBlock (s : State) (b : Block) (attempts : Nat) : State :=
  let s := (s.markPage b .sent).updUpload fun u => { u with
    run := .sending, hand := some b, attempts := attempts, wait := none, counts := { u.counts with sent := u.counts.sent + 1 } }
  s.emit (.trunk (.block b b.check))

/-- The next block is composed and its first sending begins. -/
def State.nextBlock (s : State) : State :=
  let r := s.compose
  r.2.sendBlock r.1 1

/-- R183: the section of the current slot begins and its first block is sent. -/
def State.runSection (s : State) : State := s.beginSection.nextBlock

/-- R178: the first slot of a pass. -/
def Program.first (p : Program) : Nat := if p.stop < p.start then p.stop else p.start

/-- R183: a pass begins with a new run number at its first slot. -/
def State.newPass (s : State) : State :=
  s.updUpload fun u => { u with
    runNumber := (u.runNumber + 1) % 65536, slot := u.program.first, blockNo := 0, sect := none, hand := none }

/-- R182: a run starts. -/
def State.startRun (s : State) : State :=
  let s := (s.updUpload fun u => { u with
    counts := .zero, trigger := true, stop := false,
    window := match u.config.mode with
      | .nightly => some u.config.windowLength
      | .continuous => none }).newPass
  if s.service.state = .online then (s.updUpload fun u => { u with run := .sending }).runSection
  else s.updUpload fun u => { u with run := .paused }

/-- R183: the final block of slot STOP has been accepted. -/
def State.endPass (s : State) : State :=
  let s := s.updUpload fun u => { u with
    counts := { u.counts with passes := u.counts.passes + 1 }
    trigger := match u.config.mode with
      | .nightly => false
      | .continuous => u.trigger }
  if s.upload.trigger then s.newPass.runSection
  else if s.upload.config.mode = .continuous ∧ s.upload.stop then s.endRun .abortedStop
  else s.endRun .complete

/-! ### Receipts -/

/-- R187: the tallies reduced by what a block carried, floor 0. -/
def Tallies.reduce (t c : Tallies) : Tallies :=
  { charges := t.charges - c.charges, refusals := t.refusals - c.refusals, discharges := t.discharges - c.discharges,
    overrides := t.overrides - c.overrides, voids := t.voids - c.voids, fines := t.fines - c.fines,
    badScans := t.badScans - c.badScans, printed := t.printed - c.printed, lost := t.lost - c.lost }

/-- R62, R185: the marks of the entries a block carried that still stand in flight are cleared. -/
def State.clearMarks (s : State) (es : List Borrower) : State :=
  { s with borrowers := s.borrowers.map fun e =>
      if e.inFlight && es.any (fun x => x.number == e.number) then { e with changed := false, inFlight := false } else e }

/-- R129, R170: the pending loan entries of the dropped records leave the list. -/
def State.dropLoansOf (s : State) (rs : List Record) : State :=
  { s with loans := s.loans.filter fun l => !(rs.any fun r => r.seq == l.chargeSeq) }

/-- R184 to R187: the effects of an ACCEPT. -/
def State.acceptEffects (s : State) (c : Contents) : State :=
  match c with
  | .journal (some i) _ =>
    let rs := s.journal.pages[i].records
    ({ s with journal := s.journal.freePage i }.dropLoansOf rs).evalJournal.settle
  | .journal none _ => s
  | .borrowers es => s.clearMarks es
  | .loans _ => s
  | .tallies ts =>
    { s with stations := s.stations.zipWith (fun t c => { t with tallies := t.tallies.reduce c })
                    (Vector.ofFn fun n : Fin 8 => ts.getD n .zero) }
  | .empty => s

/-- R190, R183, R194: a matched ACCEPT. -/
def State.acceptBlock (s : State) (b : Block) : State :=
  let s := s.updUpload fun u => { u with
    wait := none, hand := none, counts := { u.counts with accepted := u.counts.accepted + 1 } }
  let s := s.acceptEffects b.contents
  if b.final then
    if s.upload.slot = s.upload.program.stop then s.endPass
    else if s.upload.stop then s.endRun .abortedStop
    else (s.updUpload fun u => { u with slot := u.slot + 1 }).runSection
  else if s.upload.stop then s.endRun .abortedStop
  else (s.updUpload fun u => { u with blockNo := u.blockNo + 1 }).nextBlock

/-- R191: the block is resent, or given up when its attempts are used. -/
def State.retryBlock (s : State) (b : Block) : State :=
  if s.upload.attempts < s.upload.config.attempts then s.sendBlock b (s.upload.attempts + 1)
  else (s.markPage b .sealed).endRun (if s.upload.stop then .abortedStop else .abortedTimeout)

/-- R190: a receipt that does not match. -/
def State.mismatch (s : State) : State := s.countUpload fun c => { c with mismatches := c.mismatches + 1 }

/-- R190: the block that a receipt matches. -/
def Upload.matched (u : Upload) (m : ReceiptMsg) : Option Block :=
  match u.hand with
  | some b =>
    if u.run = .awaitReceipt ∧ m.run = b.run ∧ m.slot = b.slot ∧ m.block = b.number then some b else none
  | none => none

/-- R190, R191: a receipt, whatever the trunk link is by the time it is taken: one that meets a pause by the link going
DOWN is a mismatch (R192). A verdict that is neither ACCEPT nor REJECT matches nothing (log entry 22). -/
def State.takeReceipt (s : State) (m : ReceiptMsg) : State :=
  match s.upload.matched m, m.verdict with
  | some b, .accept => s.acceptBlock b
  | some b, .reject => (s.countUpload fun c => { c with rejects := c.rejects + 1 }).retryBlock b
  | _, _ => s.mismatch

/-- R191: the patience countdown has run out. -/
def State.receiptExpired (s : State) : State :=
  match s.upload.run, s.upload.wait, s.upload.hand with
  | .awaitReceipt, some 0, some b => (s.countUpload fun c => { c with timeouts := c.timeouts + 1 }).retryBlock b
  | _, _, _ => s

/-- R188: the trunk port reports the block transmitted. -/
def State.sendCompleted (s : State) : State :=
  if s.upload.run = .sending then
    s.updUpload fun u => { u with run := .awaitReceipt, wait := some u.config.patience }
  else s

/-! ### Pausing -/

/-- R192: the block in hand is abandoned: a journal page returns to SEALED and is composed again at the resume; any
other block keeps its contents. -/
def State.abandon (s : State) : State :=
  match s.upload.hand with
  | some b =>
    match b.contents with
    | .journal (some _) _ => (s.markPage b .sealed).updUpload fun u => { u with hand := none, wait := none }
    | _ => s.updUpload fun u => { u with wait := none }
  | none => s

/-- R192 to R194: the run pauses; a stopped run, or a run past its window, ends instead. A run that is both ends
ABORTED_STOP (log entry 46). -/
def State.pauseRun (s : State) : State :=
  if s.upload.run = .sending ∨ s.upload.run = .awaitReceipt then
    let s := s.abandon
    if s.upload.stop then s.endRun .abortedStop
    else if s.upload.window = some 0 then s.endRun .abortedOffline
    else s.updUpload fun u => { u with run := .paused }
  else s

/-- R192: the run resumes. -/
def State.resumeRun (s : State) : State :=
  if s.upload.run = .paused then
    let s := s.updUpload fun u => { u with run := .sending }
    match s.upload.sect, s.upload.hand with
    | none, _ => s.runSection
    | some _, some b => s.sendBlock b 1
    | some _, none => s.nextBlock
  else s

/-- R192: a change of the service state handed to the upload controller. -/
def State.serviceToUpload (s : State) : State :=
  if s.service.state = .online then s.resumeRun else s.pauseRun

/-- R182, R193: a minute arrival reported to the upload controller. -/
def State.minuteToUpload (s : State) : State :=
  if s.upload.run = .idle then
    if s.upload.config.mode = .nightly ∧ s.clock.minute = s.upload.config.windowStart then s.startRun else s
  else s.updUpload fun u => { u with window := u.window.map (· - 1) }

/-- R193: the window timer has reached 0. -/
def State.windowEnded (s : State) : State :=
  if s.upload.run = .paused ∧ s.upload.window = some 0 then s.endRun .abortedOffline else s

/-- R194: UPLOAD_STOP in a run. -/
def State.stopRun (s : State) : State :=
  let s := s.updUpload fun u => { u with trigger := false, stop := true }
  if s.upload.run = .paused then s.endRun .abortedStop else s

end Sys2Proof.Machine
end

