-- ==== Sys2Proof/Machine/Service.lean ====
section
/-! DEFINITION. Service.lean: the service link (chapter 6) apart from what its events do at a station: the query
table, the service states, the probes and the statistics. -/

namespace Sys2Proof.Machine

/-- The service link replaced. -/
def State.updService (s : State) (f : Service → Service) : State := { s with service := f s.service }

/-- The service statistics replaced. -/
def State.countService (s : State) (f : ServiceStats → ServiceStats) : State :=
  s.updService fun v => { v with stats := f v.stats }

/-! ### Service states -/

/-- R123: the probe context at the entry of a service state. Entering OFFLINE with the link UP starts the probe timer;
leaving OFFLINE stops it and clears the outstanding mark. -/
def Service.enter (v : Service) (st : ServiceState) : Service :=
  match st with
  | .offline => { v with state := st, probeTimer := if v.linkUp then some v.interval else v.probeTimer }
  | .online | .degraded => { v with state := st, probeTimer := none, probeOut := false }

/-- R123: a change of the service state, with its notice, handed to the upload controller. -/
def State.setServiceState (s : State) (st : ServiceState) : State :=
  if s.service.state = st then s
  else
    let s := s.updService fun v => v.enter st
    (s.notice (.serviceState st s.service.count)).serviceToUpload

/-- R113, R117, R122, R125: a matched reply: counted, the consecutive-timeout count 0, the service ONLINE. -/
def State.matchedReply (s : State) : State :=
  State.setServiceState ((s.countService fun c => { c with matched := sat32 c.matched 1 }).updService
    fun v => { v with count := 0 }) .online

/-- R121: a stale reply. -/
def State.staleReply (s : State) : State := s.countService fun c => { c with stale := sat32 c.stale 1 }

/-- R122: the service state after a patience expiry that has been counted. -/
def State.reviewTimeout (s : State) : State :=
  if s.service.state = .offline then s
  else if s.service.trip ≤ s.service.count then s.setServiceState .offline
  else s.setServiceState .degraded

/-- R114, steps 1 and 2: a patience expiry is counted and the service state is re-evaluated. -/
def State.countTimeout (s : State) : State :=
  State.reviewTimeout ((s.updService fun v => { v with count := satAdd 255 v.count 1 }).countService fun c =>
    { c with timeouts := sat32 c.timeouts 1, fallbacks := sat32 c.fallbacks 1 })

/-- R122, R130: the trip compared with the count at a SERVICE_CONFIG. -/
def State.reviewTrip (s : State) : State :=
  if s.service.state = .degraded ∧ s.service.trip ≤ s.service.count then s.setServiceState .offline else s

/-! ### Query table -/

/-- One query table entry replaced. -/
def State.setQuery (s : State) (t : Tag) (e : QueryEntry) : State := { s with queries := s.queries.set t e }

/-- A query table entry made FREE; its generation stays (R113, R117, R120). -/
def State.freeQuery (s : State) (t : Tag) : State := s.setQuery t { s.queries[t] with state := .free }

/-- R110: the FREE entry with the lowest tag. -/
def State.freeTag (s : State) : Option Tag := (List.finRange 16).find? fun t => decide (s.queries[t].state = .free)

/-- R110, R111: a station asks for a query. The answer is the tag and generation, or none for a full table. The query
is sent whatever the trunk link state. -/
def State.ask (s : State) (q : Question) (cls : Nat) : Option (Tag × Nat) × State :=
  match s.freeTag with
  | none => (none, s.countService fun c => { c with fallbacks := sat32 c.fallbacks 1 })
  | some t =>
    let g := (s.queries[t].gen + 1) % 256
    (some (t, g),
      ((s.setQuery t ⟨g, .waiting q s.service.patience⟩).countService fun c =>
        { c with sent := sat32 c.sent 1 }).emit (.trunk (.query t.val g q cls)))

/-- A WAITING entry becomes LAPSED with its decision; the countdown is set to Q (R114, R116). -/
def State.lapse (s : State) (t : Tag) (d : LapseDecision) : State :=
  match s.queries[t].state with
  | .waiting q _ => s.setQuery t { s.queries[t] with state := .lapsed q s.service.patience d }
  | _ => s

/-- R116: an abandoned query lapses with the decision VOID, if its entry still stands for it. -/
def State.voidQuery (s : State) (k : Option (Tag × Nat)) : State :=
  match k with
  | some (t, g) => if s.queries[t].gen = g then s.lapse t .void else s
  | none => s

/-! ### Probes and the trunk link -/

/-- R125: a probe is sent with a new generation, and the probe timer restarts at the full interval. -/
def State.sendProbe (s : State) : State :=
  let s := s.updService fun v => { v with
    probeGen := (v.probeGen + 1) % 256, probeOut := true, probeTimer := some v.interval }
  (s.countService fun c => { c with probes := sat32 c.probes 1 }).emit (.trunk (.probe s.service.probeGen))

/-- R124: the trunk link goes DOWN. -/
def State.linkWentDown (s : State) : State :=
  if s.service.linkUp then
    (State.setServiceState (s.updService fun v => { v with linkUp := false }) .offline).updService fun v =>
      { v with probeTimer := none, probeOut := false }
  else s

/-- R205: the pending start-up notice is sent and becomes absent. -/
def State.sendStartUp (s : State) : State :=
  match s.mgmt.startUp with
  | some k =>
    let s := s.notice (.startUp k s.mgmt.cabinet s.mgmt.alarms s.service.state s.journal.free s.journal.counter
      s.upload.runNumber s.generation)
    { s with mgmt := { s.mgmt with startUp := none } }
  | none => s

/-- R124, R205: the trunk link comes UP: an OFFLINE service sends a probe, then a pending start-up notice goes out. -/
def State.linkCameUp (s : State) : State :=
  if s.service.linkUp then s
  else
    let s := s.updService fun v => { v with linkUp := true }
    let s := if s.service.state = .offline then s.sendProbe else s
    s.sendStartUp

/-- R125: the probe timer has run out. -/
def State.probeExpired (s : State) : State :=
  if s.service.probeTimer = some 0 ∧ s.service.state = .offline ∧ s.service.linkUp = true then s.sendProbe else s

/-- R122: the effect of a matched reply, which cannot be taken while the trunk link is DOWN: it has none then (log entry
6). -/
def State.whileLinkUp (s s' : State) : State := if s.service.linkUp then s' else s

/-- R125: a PROBE_ANSWER; a match takes the service ONLINE, which clears the outstanding mark. -/
def State.probeAnswered (s : State) (gen : Nat) : State :=
  if s.service.probeOut = true ∧ gen = s.service.probeGen then
    s.whileLinkUp (s.updService fun v => { v with probeOut := false }).matchedReply
  else s.staleReply

end Sys2Proof.Machine
end

