-- ==== Sys2Proof/Machine/Calendar.lean ====
section
/-! DEFINITION. Calendar.lean: day classification, opening hours and date conversion (R83 to R85). -/

namespace Sys2Proof.Machine

/-- R85: leap years. -/
def isLeap (y : Nat) : Bool := y % 4 == 0 && (y % 100 != 0 || y % 400 == 0)

/-- R85: the length of a month. -/
def monthLength (y m : Nat) : Nat :=
  if m = 2 then (if isLeap y then 29 else 28) else if m = 4 ∨ m = 6 ∨ m = 9 ∨ m = 11 then 30 else 31

/-- R85: one day forward. -/
def Date.succ (d : Date) : Date :=
  if d.day < monthLength d.year d.month then { d with day := d.day + 1 }
  else if d.month < 12 then { d with month := d.month + 1, day := 1 }
  else { year := d.year + 1, month := 1, day := 1 }

/-- R85: one day backward. -/
def Date.pred (d : Date) : Date :=
  if 1 < d.day then { d with day := d.day - 1 }
  else if 1 < d.month then { d with month := d.month - 1, day := monthLength d.year (d.month - 1) }
  else { year := d.year - 1, month := 12, day := 31 }

/-- `k` days forward. -/
def Date.forward : Nat → Date → Date
  | 0, d => d
  | k + 1, d => Date.forward k d.succ

/-- `k` days backward. -/
def Date.backward : Nat → Date → Date
  | 0, d => d
  | k + 1, d => Date.backward k d.pred

/-- R85: the date of a day number, counted from the base date. -/
def Header.dateOf (h : Header) (d : Nat) : Date :=
  if h.base ≤ d then Date.forward (d - h.base) h.date else Date.backward (h.base - d) h.date

/-- R77: a base date with its year within 2000 to 2199. -/
def Date.valid (d : Date) : Bool :=
  decide (2000 ≤ d.year) && decide (d.year ≤ 2199) && decide (1 ≤ d.month) && decide (d.month ≤ 12) &&
    decide (1 ≤ d.day) && decide (d.day ≤ monthLength d.year d.month)

/-- The days of a year. -/
def yearLength (y : Nat) : Nat := if isLeap y then 366 else 365

/-- R77: the days from 2000-01-01 to a date. -/
def Date.since2000 (d : Date) : Nat :=
  ((List.range (d.year - 2000)).map fun k => yearLength (2000 + k)).sum +
    ((List.range (d.month - 1)).map fun k => monthLength d.year (k + 1)).sum + (d.day - 1)

/-- R77: the weekday of a date, 2000-01-01 being a Saturday, weekday 5. -/
def Date.weekday (d : Date) : Nat := (5 + d.since2000) % 7

/-- The calendar that a computation reads: header and both date lists (4.1). -/
structure Calendar where
  header : Header
  closedDates : List Nat
  openDates : List Nat
  deriving DecidableEq, Repr

/-- The calendar of a bank whose header is loaded. -/
def Bank.calendar? (b : Bank) : Option Calendar := b.header.map fun h => ⟨h, b.closedDates, b.openDates⟩

/-- R83: the weekday of a day number, before the base as well as after it. -/
def Header.weekdayOf (h : Header) (d : Nat) : Fin 7 :=
  Fin.ofNat 7 (((h.weekday : Int) + d - h.base) % 7).toNat

/-- 4.1: the window of the calendar. -/
def Header.inWindow (h : Header) (d : Nat) : Bool := decide (h.base ≤ d) && decide (d < h.base + Config.windowDays)

/-- A day's class: OPEN or CLOSED, and whether the classification raised BEYOND_CALENDAR. -/
structure DayClass where
  isOpen : Bool
  beyond : Bool
  deriving DecidableEq, Repr

/-- R83: the classification of a day number; the first test that applies decides. -/
def Calendar.classify (c : Calendar) (d : Nat) : DayClass :=
  if !c.header.inWindow d then ⟨true, true⟩
  else if c.closedDates.contains d then ⟨false, false⟩
  else if c.openDates.contains d then ⟨true, false⟩
  else if c.header.weekly.getLsbD (c.header.weekdayOf d).val then ⟨false, false⟩
  else ⟨true, false⟩

/-- R84: the open minute of a day. -/
def Calendar.openMinute (c : Calendar) (d : Nat) : Nat := (c.header.hours[c.header.weekdayOf d]).1

/-- R84: the close minute of a day. -/
def Calendar.closeMinute (c : Calendar) (d : Nat) : Nat := (c.header.hours[c.header.weekdayOf d]).2

/-- The first OPEN day among `k` days from `d` on, and whether a classification raised BEYOND_CALENDAR. -/
def Calendar.firstOpen (c : Calendar) : Nat → Nat → Option Nat × Bool
  | 0, _ => (none, false)
  | k + 1, d =>
    if (c.classify d).isOpen then (some d, (c.classify d).beyond)
    else
      let r := c.firstOpen k (d + 1)
      (r.1, (c.classify d).beyond || r.2)

/-- The last OPEN day among `k` days from `d` on, classified from the last back, and BEYOND_CALENDAR. -/
def Calendar.lastOpen (c : Calendar) (d : Nat) : Nat → Option Nat × Bool
  | 0 => (none, false)
  | k + 1 =>
    if (c.classify (d + k)).isOpen then (some (d + k), (c.classify (d + k)).beyond)
    else
      let r := c.lastOpen d k
      (r.1, (c.classify (d + k)).beyond || r.2)

/-- The number of OPEN days among `k` days from `d` on, and BEYOND_CALENDAR. -/
def Calendar.countOpen (c : Calendar) : Nat → Nat → Nat × Bool
  | 0, _ => (0, false)
  | k + 1, d =>
    let r := c.countOpen k (d + 1)
    ((c.classify d).isOpen.toNat + r.1, (c.classify d).beyond || r.2)

/-- R85: a date as YYYY-MM-DD. -/
def Date.text (d : Date) : Text := digits 4 d.year ++ txt ['-'] ++ digits 2 d.month ++ txt ['-'] ++ digits 2 d.day

/-- R85: a day number as a date, or as DAY and the number in five digits without a calendar. -/
def dayText (h : Option Header) (d : Nat) : Text :=
  match h with
  | some h => (h.dateOf d).text
  | none => txt ['D', 'A', 'Y', ' '] ++ digits 5 d

/-- R85: a minute of the day as HH:MM. -/
def minuteText (m : Nat) : Text := digits 2 (m / 60) ++ txt [':'] ++ digits 2 (m % 60)

end Sys2Proof.Machine
end

