-- ==== Sys2Proof/Machine/Slips.lean ====
section
/-! DEFINITION. Slips.lean: the slip queue (chapter 8): reservations, composition, printing, printer faults and
discards. -/

namespace Sys2Proof.Machine

/-! ### Slots -/

/-- The lowest-numbered slot for which a test holds. -/
def SlipQueue.find (q : SlipQueue) (p : Slot → Bool) : Option (Fin 4) := (List.finRange 4).find? fun i => p q.slots[i]

/-- One slot replaced. -/
def SlipQueue.setSlot (q : SlipQueue) (i : Fin 4) (x : Slot) : SlipQueue := { q with slots := q.slots.set i x }

/-- The lowest-numbered FREE slot (R151). -/
def SlipQueue.freeSlot (q : SlipQueue) : Option (Fin 4) := q.find fun x => decide (x = .free)

/-- The RESERVED slot. -/
def SlipQueue.reservedSlot (q : SlipQueue) : Option (Fin 4) := q.find fun x => decide (x = .reserved)

/-- A slot that is PRINTING or INTERRUPTED. -/
def Slot.busy : Slot → Bool
  | .printing .. | .interrupted .. => true
  | _ => false

/-- R151: a reservation; unchanged when no slot is FREE. -/
def SlipQueue.reserve (q : SlipQueue) : SlipQueue :=
  match q.freeSlot with
  | some i => q.setSlot i .reserved
  | none => q

/-- R151: a release of the reservation. -/
def SlipQueue.release (q : SlipQueue) : SlipQueue :=
  match q.reservedSlot with
  | some i => q.setSlot i .free
  | none => q

/-- R152: the RESERVED slot becomes QUEUED with its text, at the newest handing position. -/
def SlipQueue.hand (q : SlipQueue) (text : List Text) : SlipQueue :=
  match q.reservedSlot with
  | some i => { q.setSlot i (.queued text) with order := q.order ++ [i] }
  | none => q

/-- R150: a slot becomes FREE and drops what it held. -/
def SlipQueue.drop (q : SlipQueue) (i : Fin 4) : SlipQueue :=
  { q.setSlot i .free with order := q.order.filter (· != i) }

/-! ### Composition (R153) -/

/-- Fields parted by one space. -/
def spaced (fields : List Text) : Text := (fields.intersperse [ch ' ']).flatten

/-- A mark printed when its condition holds. -/
def mark (c : Char) (on : Bool) : Text := if on then [ch c] else []

/-- R153: the marks of an entry, in the order of the table. -/
def Item.marks (i : Item) : Text :=
  mark '*' (decide (i.decidedBy = some .localPart) || decide (i.decidedBy = some .fallback) || i.flags.offlineDecided) ++
    mark 'E' i.flags.expiryCapped ++ mark 'G' i.flags.calendarGap ++ mark 'C' i.flags.fineCapped ++
    mark 'S' i.flags.balanceSaturated

/-- The marks as a last field, when there are any. -/
def Item.markField (i : Item) : List Text := if i.marks.isEmpty then [] else [i.marks]

/-- A charge item line. -/
def Item.chargeLine (h : Option Header) (i : Item) : Text :=
  let due := i.due.getD ⟨0, 0⟩
  spaced ([digits 12 i.number, dayText h due.day] ++ (if i.hourly then [minuteText due.minute] else []) ++ i.markField)

/-- The fine of a discharge item line. -/
def Item.fineText (i : Item) : Text :=
  match i.fine with
  | some f => decimal f
  | none => if i.flags.finePending then txt ['P', 'E', 'N', 'D', 'I', 'N', 'G'] else [ch '-']

/-- The hold routing of a discharge item line. -/
def Item.routingField (i : Item) : List Text :=
  match i.routing with
  | some (.digits k) => [ch 'H' :: digits 4 k]
  | some .hold => [txt ['H', 'O', 'L', 'D']]
  | none => []

/-- A discharge item line. -/
def Item.dischargeLine (i : Item) : Text := spaced ([digits 12 i.number, i.fineText] ++ i.routingField ++ i.markField)

/-- The entries of a transaction in one state. -/
def Ctx.inState (c : Ctx) (st : ItemState) : List Item := c.items.filter fun i => decide (i.state = st)

/-- R153: the lines of a slip, handed at a time. -/
def Ctx.slipText (c : Ctx) (n : StationNo) (cabinet : Nat) (h : Option Header) (at_ : Time) : List Text :=
  let heading := spaced [txt ['C', 'A', 'B'], digits 3 cabinet, txt ['S', 'T'], digits 1 n.val, dayText h at_.day,
    minuteText at_.minute]
  let sequence := spaced [txt ['S', 'E', 'Q'], digits 10 (c.firstSeq.getD 0)]
  let body :=
    match c.borrower with
    | some b =>
      [spaced [txt ['B', 'O', 'R', 'R', 'O', 'W', 'E', 'R'], List.replicate 6 (ch '*') ++ digits 4 b]] ++
        (c.inState .granted).map (Item.chargeLine h) ++
        [spaced [txt ['I', 'T', 'E', 'M', 'S'], decimal (c.inState .granted).length]]
    | none =>
      [txt ['R', 'E', 'T', 'U', 'R', 'N', 'S']] ++ (c.inState .returned).map Item.dischargeLine ++
        [spaced [txt ['F', 'I', 'N', 'E', 'S'], decimal ((c.inState .returned).map fun i => i.fine.getD 0).sum]]
  ([heading, sequence] ++ body).map fun l => l.take Config.slipWidth

/-- R85, R153: the calendar for printed dates: none while RULES_INVALID is active. -/
def State.printHeader (s : State) : Option Header :=
  if s.mgmt.alarms.rulesInvalid.active then none else s.activeBank.header

/-! ### Printing -/

/-- R154: the printer takes lines. -/
def Line.printerTakes (l : Line) : Bool := !printerFault l.printer

/-- R154: the token after `k`. -/
def tokenAfter (k : Nat) : Nat := if 65535 ≤ k then 1 else k + 1

/-- R154: the token that a slip starting now takes. -/
def SlipQueue.nextToken (q : SlipQueue) : Nat := if q.lastPrinted = some q.token then tokenAfter q.token else q.token

/-- R154: printing of the head slip starts when its conditions hold. -/
def SlipQueue.start (q : SlipQueue) (l : Line) : SlipQueue :=
  match q.order with
  | [] => q
  | i :: _ =>
    match q.slots[i] with
    | .queued text =>
      if (q.find Slot.busy).isNone ∧ l.printerTakes = true ∧ 0 < l.credit then
        { q.setSlot i (.printing text q.nextToken 0 false 0) with token := tokenAfter q.nextToken }
      else q
    | _ => q

/-- R157: the lines that a PRINTING slot streams. -/
def streamed (text : List Text) (reprint : Bool) : List Text :=
  if reprint then txt ['R', 'E', 'P', 'R', 'I', 'N', 'T'] :: text else text

/-- R155: the PRINTING slot sends its next lines, at most `k` of them, while the credit view is above 0. -/
def State.stream (n : StationNo) : Nat → State → State
  | 0, s => s
  | k + 1, s =>
    let t := s.st n
    match t.slips.find Slot.busy with
    | none => s
    | some i =>
      match t.slips.slots[i] with
      | .printing text tok sent rep _ =>
        match (streamed text rep)[sent]? with
        | none => s
        | some line =>
          if t.line.printerTakes = true ∧ 0 < t.line.credit then
            let s := s.sendDesk n (.slipLine tok sent line (decide (sent + 1 = (streamed text rep).length)))
            let s := s.updSlips n fun q => q.setSlot i (.printing text tok (sent + 1) rep 0)
            State.stream n k (s.updLine n fun l => { l with credit := l.credit - 1 })
          else s
      | _ => s

/-- R154, R155: what an event that can change the printing conditions lets the queue do. -/
def State.feed (s : State) (n : StationNo) : State :=
  let s := s.updSlips n fun q => q.start (s.st n).line
  State.stream n (s.st n).line.credit s

/-! ### Reports of the head -/

/-- R158: the PRINTING slot is interrupted at the begin of a printer fault. -/
def Slot.interrupt : Slot → Slot
  | .printing text tok _ _ _ => .interrupted text tok
  | x => x

/-- R158: an INTERRUPTED slot is streamed again at READY. -/
def Slot.resume : Slot → Slot
  | .interrupted text tok => .printing text tok 0 true 0
  | x => x

/-- R158: the queue reads a change of the printer state. -/
def SlipQueue.printerChange (q : SlipQueue) (old new : Printer) : SlipQueue :=
  if printerFault new then
    if printerFault old then q else { q with slots := q.slots.map Slot.interrupt, faultTimer := some 0 }
  else
    let q := { q with faultTimer := if printerFault old then none else q.faultTimer }
    if new = .ready then { q with slots := q.slots.map Slot.resume } else q

/-- R10, R158: the printer state that the line holds becomes `p`; a state equal to the held one changes nothing. -/
def State.setPrinter (s : State) (n : StationNo) (p : Printer) : State :=
  let old := (s.st n).line.printer
  if old = p then s
  else
    State.feed ((s.updLine n fun l => { l with printer := p }).updSlips n fun q => q.printerChange old p) n

/-- The slip token of a slot. -/
def Slot.token? : Slot → Option Nat
  | .printing _ tok .. => some tok
  | .interrupted _ tok => some tok
  | _ => none

/-- R156: the token of the last slip fully printed. -/
def State.takeToken (s : State) (n : StationNo) (tok : Option Nat) : State :=
  let s := s.updSlips n fun q => { q with lastPrinted := tok }
  match tok with
  | none => s
  | some k =>
    match (s.st n).slips.find fun x => decide (x.token? = some k) with
    | none => s
    | some i =>
      State.feed ((s.updSlips n fun q => q.drop i).updTallies n fun t => { t with printed := sat32 t.printed 1 }) n

/-- R157: the completion check of one slot. -/
def Slot.check (x : Slot) (p : Printer) (tok : Option Nat) : Slot :=
  match x with
  | .printing text k sent rep ready =>
    if sent < (streamed text rep).length then x
    else
      match p with
      | .ready =>
        if tok = some k then x
        else if Config.reprintAfter ≤ ready + 1 then .printing text k 0 true 0
        else .printing text k sent rep (ready + 1)
      | .busy => .printing text k sent rep 0
      | _ => x
  | _ => x

/-- R157: the completion check, made at each HEAD_STATUS after the token has been taken. -/
def State.checkSlip (s : State) (n : StationNo) (tok : Option Nat) : State :=
  let p := (s.st n).line.printer
  State.feed (s.updSlips n fun q => { q with slots := q.slots.map fun x => x.check p tok }) n

/-! ### Discards -/

/-- R159: the slots that a hold expiry discards. -/
def Slot.discardable : Slot → Bool
  | .queued _ | .interrupted .. => true
  | _ => false

/-- R159: one slip is discarded, with its record and its tally. -/
def State.discardSlip (s : State) (n : StationNo) (i : Fin 4) : State :=
  let tok := (s.st n).slips.slots[i].token?
  let r := { s.record .stationEvent (some n) with detail := some .slipLost, slipToken := tok }
  ((s.write r).2.updTallies n fun t => { t with lost := sat32 t.lost 1 }).updSlips n fun q => q.drop i

/-- R159: the discard of a hold expiry: every QUEUED and INTERRUPTED slot, oldest handing first; the fault timer
restarts while the fault holds. -/
def State.discardSlips (s : State) (n : StationNo) : State :=
  let q := (s.st n).slips
  let s := (q.order.filter fun i => q.slots[i].discardable).foldl (fun s i => s.discardSlip n i) s
  State.feed (s.updSlips n fun q => { q with
    faultTimer := if printerFault (s.st n).line.printer then some 0 else none }) n

/-- R159, R160: the discard when the fault timer has reached the hold time. -/
def State.holdExpired (s : State) (n : StationNo) : State :=
  match (s.st n).slips.faultTimer with
  | some t => if (s.st n).slips.holdTime ≤ t then s.discardSlips n else s
  | none => s

end Sys2Proof.Machine
end

