-- ==== Sys2Proof/Machine/Alerts.lean ====
section
/-! DEFINITION. Alerts.lean: the alert resolver's handling of one event: resolution (R137), what it shows (R138) and
its report of the hold condition (R139). A change of the sets is made first; `settleAlerts` then completes the event. -/

namespace Sys2Proof.Machine

/-- R138: the resolver composes a DISPLAY of its displayed level and index, which become the last shown. -/
def State.showAlerts (s : State) (n : StationNo) (tone : Tone) : State :=
  (s.display n tone (s.st n).alerts.showing.2).updAlerts n fun r => { r with shown := r.showing }

/-- R137: resolution, at most `k` levels: the level taken enters service and is shown; an auto-ack level leaves at
once and resolution looks again. -/
def State.resolve (n : StationNo) : Nat → State → State
  | 0, s => s
  | k + 1, s =>
    match (s.st n).alerts.candidate with
    | none => s
    | some l =>
      let s := (s.updAlerts n fun r => r.serve l).showAlerts n .none
      if (s.st n).alerts.autoAck.mem l then State.resolve n k (s.updAlerts n fun r => r.leave l) else s

/-- R24, R42: the hold condition begins: the timer is gated, and CHECKING or OPEN is interrupted. -/
def Ctx.beginHold (c : Ctx) : Ctx :=
  let c := { c with timer := match c.timer with
    | .running k => .gated k
    | t => t }
  match c.tx with
  | .checking => { c with tx := .held, interrupted := some .checking }
  | .opened => { c with tx := .held, interrupted := some .opened }
  | _ => c

/-- R24, R42: the hold condition ends: the timer runs on, and HELD returns to the interrupted state. -/
def Ctx.endHold (c : Ctx) : Ctx :=
  let c := { c with timer := match c.timer with
    | .gated k => .running k
    | t => t }
  match c.tx, c.interrupted with
  | .held, some .opened => { c with tx := .opened, interrupted := none }
  | .held, _ => { c with tx := .checking, interrupted := none }
  | _, _ => c

/-- R139: the hold condition is evaluated, and a change is reported to the station (R24). -/
def State.reportHold (s : State) (n : StationNo) : State :=
  let t := s.st n
  let now := t.alerts.holds
  if now = t.alerts.hold then s
  else
    let s := s.updAlerts n fun r => { r with hold := now }
    let s := s.updCtx n fun c => if now then c.beginHold else c.endHold
    if (s.st n).ctx.tx = t.ctx.tx then s else s.tone n .none

/-- R138: the further DISPLAY at the end of an event, when the displayed level or index changed or the event calls for
a tone. -/
def State.finishShow (s : State) (n : StationNo) (tone : Tone) : State :=
  if tone = .none ∧ (s.st n).alerts.shown = (s.st n).alerts.showing then s else s.showAlerts n tone

/-- An event of the resolver that cannot end a hold over parked outcomes: resolution, the hold report, the display. -/
def State.settleAlerts (s : State) (n : StationNo) : State :=
  ((State.resolve n 8 s).reportHold n).finishShow n .none

/-- R134: a request. -/
def State.requestLevel (s : State) (n : StationNo) (l : Level) (index : Nat) (origin : Option Origin) : State :=
  (s.updAlerts n fun r => r.request l index origin).settleAlerts n

/-- R134: a withdrawal by the station; nothing when the level stands in neither set. -/
def State.withdrawLevel (s : State) (n : StationNo) (l : Level) : State :=
  let r := (s.st n).alerts
  if r.pending.mem l || r.inService.mem l then (s.updAlerts n fun r => r.withdraw l).settleAlerts n else s

/-- R145: a staged configuration is applied at a station that is IDLE. -/
def State.applyStaged (s : State) (n : StationNo) : State :=
  match (s.st n).alerts.staged, (s.st n).ctx.tx with
  | some c, .idle => (s.updAlerts n fun r => r.configure c).settleAlerts n
  | _, _ => s

end Sys2Proof.Machine
end

