-- ==== Sys2Proof/Machine/Arithmetic.lean ====
section
/-! DEFINITION. Arithmetic.lean: the circulation arithmetic unit: due dates (R90 to R99) and fines (R100 to
R105). -/

namespace Sys2Proof.Machine

/-- The flags that one classification or search may raise. -/
def beyondFlag (b : Bool) : ResultFlags := { beyondCalendar := b }

/-- R95, R97, R99: CALENDAR_GAP. -/
def gapFlag : ResultFlags := { calendarGap := true }

/-- A due time with the result flags raised so far. -/
structure DueResult where
  due : Time
  flags : ResultFlags
  deriving DecidableEq, Repr

/-- R94, R95: a day loan of `p` days charged on day `day`. -/
def dueOfDays (c : Calendar) (day p : Nat) : DueResult :=
  match c.firstOpen (Config.searchDays + 1) (day + p) with
  | (some d, b) => ⟨⟨d, c.closeMinute d⟩, beyondFlag b⟩
  | (none, b) => ⟨⟨day + p + Config.searchDays, Config.lastMinute⟩, (beyondFlag b).union gapFlag⟩

/-- R96, R97: an hour loan of `p` hours charged at a time. -/
def dueOfHours (c : Calendar) (at_ : Time) (p : Nat) : DueResult :=
  let k := c.classify at_.day
  let close := c.closeMinute at_.day
  if k.isOpen ∧ at_.minute < close ∧ at_.minute + 60 * p ≤ close then
    ⟨⟨at_.day, at_.minute + 60 * p⟩, beyondFlag k.beyond⟩
  else
    let remaining := if k.isOpen ∧ at_.minute < close then 60 * p - (close - at_.minute) else 60 * p
    match c.firstOpen Config.searchDays (at_.day + 1) with
    | (some d, b) => ⟨⟨d, min (c.openMinute d + remaining) (c.closeMinute d)⟩, beyondFlag (k.beyond || b)⟩
    | (none, b) =>
      ⟨⟨at_.day + Config.searchDays, Config.lastMinute⟩, (beyondFlag (k.beyond || b)).union gapFlag⟩

/-- R99: a due day above 65535 is held at (65535, 1439). -/
def holdDue (r : DueResult) : DueResult :=
  if Config.lastDay < r.due.day then ⟨⟨Config.lastDay, Config.lastMinute⟩, r.flags.union gapFlag⟩ else r

/-- R98: the expiry cap, for a charge on day `day` with expiry `e`. -/
def capDue (c : Calendar) (day : Nat) (e : Option Nat) (r : DueResult) : DueResult :=
  match e with
  | none => r
  | some e =>
    if r.due.day ≤ e then r
    else
      match c.lastOpen day (e + 1 - day) with
      | (some d, b) => ⟨⟨d, c.closeMinute d⟩, (r.flags.union (beyondFlag b)).union { expiryCapped := true }⟩
      | (none, b) =>
        let k := c.classify day
        ⟨⟨day, if k.isOpen then c.closeMinute day else Config.lastMinute⟩,
          (r.flags.union (beyondFlag (b || k.beyond))).union { expiryCapped := true }⟩

/-- R90 to R99: the due-date computation. -/
def computeDue (c : Calendar) (r : Rule) (at_ : Time) (expiry : Option Nat) : DueResult :=
  capDue c at_.day expiry <| holdDue <|
    match r.unit with
    | .days => dueOfDays c at_.day r.period
    | .hours => dueOfHours c at_ r.period

/-- A fine with its late mark and flags (R91). -/
structure FineResult where
  fine : Nat
  late : Bool
  flags : ResultFlags
  deriving DecidableEq, Repr

/-- R100: units late of a day loan. -/
def lateDays (c : Calendar) (mode : CountMode) (due ret : Time) : Nat × ResultFlags :=
  match mode with
  | .allDays => (ret.day - due.day, {})
  | .openDays =>
    let r := c.countOpen (ret.day - due.day) (due.day + 1)
    (r.1, beyondFlag r.2)

/-- R101: minutes late, a signed whole number. -/
def minutesLate (due ret : Time) : Int :=
  ((ret.day : Int) - due.day) * 1440 + ((ret.minute : Int) - due.minute)

/-- R101: units late of an hour loan, held at 65535. -/
def lateHours (due ret : Time) : Nat × ResultFlags :=
  let n := ((minutesLate due ret).toNat + 59) / 60
  if 65535 < n then (65535, { nSaturated := true }) else (n, {})

/-- R100, R101: units late. -/
def unitsLate (c : Calendar) (r : Rule) (due ret : Time) : Nat × ResultFlags :=
  match r.unit with
  | .days => lateDays c r.count due ret
  | .hours => lateHours due ret

/-- R104: a scaled fine rounded to the bank's unit. -/
def roundFine (u : Nat) (mode : Rounding) (scaled : Nat) : Nat :=
  let q := scaled / u
  let r := scaled % u
  match mode with
  | .truncate => q * u
  | .nearestEven => if 2 * r < u then q * u else if u < 2 * r then (q + 1) * u else if q % 2 = 0 then q * u else (q + 1) * u

/-- R103: the scaled fine. -/
def scaledFine (n rate multiplier : Nat) : Nat := n * rate * multiplier / 256

/-- R100 to R105: the fine computation. -/
def computeFine (c : Calendar) (r : Rule) (k : Category) (st : Settings) (due ret : Time) : FineResult :=
  let n := unitsLate c r due ret
  if n.1 ≤ r.grace then ⟨0, decide (1 ≤ n.1), n.2⟩
  else
    let f := roundFine st.unit st.mode (scaledFine n.1 r.rate k.multiplier)
    if r.cap < f then ⟨r.cap, decide (1 ≤ n.1), n.2.union { fineCapped := true }⟩
    else ⟨f, decide (1 ≤ n.1), n.2⟩

end Sys2Proof.Machine
end

