-- ==== Sys2Proof/Machine/Decisions.lean ====
section
/-! DEFINITION. Decisions.lean: what a station decides of one item: charge checks, grants, refusals and discharges
(R26 to R34). Item entries are named by their index in the item list, from 0. -/

namespace Sys2Proof.Machine

/-! ### Entries -/

/-- The item entry at an index. -/
def State.entry (s : State) (n : StationNo) (i : Nat) : Option Item := (s.st n).ctx.items[i]?

/-- The entry is AWAITING and waits for REPLY. -/
def Item.waitsReply (x : Item) : Bool := decide (x.state = .awaiting) && decide (x.waiting = some .reply)

/-- The entry is AWAITING and waits for OVERRIDE. -/
def Item.waitsOverride (x : Item) : Bool := decide (x.state = .awaiting) && decide (x.waiting = some .override)

/-- R20: the number of AWAITING entries. -/
def Ctx.awaiting (c : Ctx) : Nat := (c.inState .awaiting).length

/-- R19: a new entry, AWAITING. -/
def Item.new (number cls : Nat) (clamped : Bool) : Item :=
  { number := number, cls := cls, state := .awaiting, waiting := none, query := none, parked := none, due := none,
    fine := none, routing := none, decidedBy := none, flags := { classClamped := clamped }, chargeSeq := none,
    hourly := false }

/-- An entry that waits for nothing any more. -/
def Item.settled (x : Item) : Item := { x with waiting := none, query := none, parked := none }

/-- R19: an entry becomes REFUSED. -/
def Item.refused (x : Item) (d : Option DecidedBy) : Item := { x.settled with state := .refused, decidedBy := d }

/-- R42: the transaction timer at full period, gated while the hold condition holds. -/
def Ctx.startTimer (c : Ctx) (hold : Bool) : Ctx := { c with timer := if hold then .gated c.period else .running c.period }

/-- R42: the timer of station n starts or restarts. -/
def State.startTimer (s : State) (n : StationNo) : State := s.updCtx n fun c => c.startTimer (s.st n).alerts.hold

/-- R19: an entry joins the end of the list, and the timer restarts (R42). -/
def State.addEntry (s : State) (n : StationNo) (x : Item) : State :=
  (s.updCtx n fun c => { c with items := c.items ++ [x] }).startTimer n

/-! ### The borrower of the transaction -/

/-- R90: the category of the borrower's entry, or of the untracked view. -/
def State.txCategory (s : State) (n : StationNo) : Nat :=
  let c := (s.st n).ctx
  match c.borrower.bind s.borrower? with
  | some e => e.category
  | none => (c.view.map (·.category)).getD Config.strangerCategory

/-- R27: the borrower's items on loan. -/
def State.txOnLoan (s : State) (n : StationNo) : Nat :=
  let c := (s.st n).ctx
  match c.borrower.bind s.borrower? with
  | some e => e.onLoan
  | none => (c.view.map (·.onLoan)).getD 0

/-- R90: the expiry of the borrower's entry; the untracked view carries none. -/
def State.txExpiry (s : State) (n : StationNo) : Option Nat :=
  ((s.st n).ctx.borrower.bind s.borrower?).bind (·.expiry)

/-- R91: the category used for a borrower's fine. -/
def State.fineCategory (s : State) (b : Option Nat) : Nat :=
  match b.bind s.borrower? with
  | some e => e.category
  | none => Config.strangerCategory

/-! ### The active bank -/

/-- The rule index that the active matrix names. -/
def State.ruleIndex? (s : State) (cls cat : Nat) : Option Nat :=
  ((s.activeBank.matrix[cls]?).join).bind fun row => row[cat]?

/-- The active rule record at an index. -/
def State.rule? (s : State) (i : Nat) : Option Rule := (s.activeBank.rules[i]?).join

/-- R91: a fine from the active bank; none where a part of the bank holds no value (log entry 34). -/
def State.fineFrom (s : State) (index cat : Nat) (due ret : Time) : Option FineResult :=
  match s.activeBank.calendar?, s.rule? index, (s.activeBank.categories[cat]?).join, s.activeBank.settings with
  | some c, some r, some k, some st => some (computeFine c r k st due ret)
  | _, _, _, _ => none

/-- R92: a fine can be computed. -/
def State.canFine (s : State) : Bool := !s.mgmt.alarms.rulesInvalid.active && s.clock.isSet

/-- The clock's day and minute (R86). -/
def State.now (s : State) : Time := ⟨s.clock.day, s.clock.minute⟩

/-! ### Refusals -/

/-- R31: what a full journal makes of a decision: refusals tally +1, tone REFUSE with index 250. -/
def State.journalFull (s : State) (n : StationNo) : State :=
  (s.tallyRefusal n).display n .refuse Config.journalFullIndex

/-- R31, R107: an item whose decision's record could not be written becomes REFUSED, with the flags that it held before
the computation of its due date or fine; OFFLINE_DECIDED and FINE_PENDING of that decision do not join it either
(DEDUCED, log entry 26). -/
def State.refuseFull (s : State) (n : StationNo) (i : Nat) : State :=
  (s.updItem n i fun x => x.refused none).journalFull n

/-- R30: an item is refused with a REFUSAL record. Tone REFUSE carries index 0, whether or not the record could be
written (log entry 44). -/
def State.refuseItem (s : State) (n : StationNo) (i : Nat) (reason : Reason) (d : DecidedBy) : State :=
  match s.entry n i with
  | none => s
  | some x =>
    let r := { s.record .refusal (some n) with
      decidedBy := d, flags := x.flags, borrower := (s.st n).ctx.borrower, item := some x.number, reason := some reason }
    let s := (s.writeStation n r).2
    ((s.updItem n i fun x => x.refused (if d = .online then some .online else none)).tallyRefusal n).tone n .refuse

/-- R30: a refusal that carries no record (an L5 ending CLEARED). -/
def State.refuseSilently (s : State) (n : StationNo) (i : Nat) : State :=
  (s.updItem n i fun x => x.refused none).tone n .refuse

/-! ### Grants (R29) -/

/-- R29, step 5: the pending loan list at a grant. -/
def State.noteLoan (s : State) (d : DecidedBy) (untracked : Bool) (l : PendingLoan) : State :=
  if d = .online then s.dropLoan l.item
  else if untracked then s.stick { pendingOverflow := true }
  else { s.dropLoan l.item with loans := (s.dropLoan l.item).loans ++ [l] }

/-- A STATION_EVENT record with detail ITEM_FOUND (R29, R33). -/
def State.itemFound (s : State) (n : StationNo) (x : Item) : State :=
  (s.writeStation n { s.record .stationEvent (some n) with
    flags := x.flags, item := some x.number, detail := some .itemFound }).2

/-- R29, step 6: the item exception table at a grant. -/
def State.grantException (s : State) (n : StationNo) (x : Item) (b : Nat) : State :=
  match s.exception? x.number with
  | some (.hold h) => if h = b then s.dropException x.number else s
  | some .missing => ((s.dropException x.number).requestLevel n .l6 0 none).itemFound n x
  | _ => s

/-- R127: a local grant that finds the pending loan list full and holding no entry for the item. -/
def State.loanUntracked (s : State) (d : DecidedBy) (item : Nat) : Bool :=
  decide (d ≠ .online) && decide (Config.maxLoans ≤ s.loans.length) && (s.loan? item).isNone

/-- R29: a grant, once its rule and calendar are read. `atOnce` marks a full query table, `offline` a decision with
the service OFFLINE. -/
def State.grantWith (s : State) (n : StationNo) (i : Nat) (x : Item) (b : Nat) (c : Calendar) (index : Nat) (r : Rule)
    (d : DecidedBy) (offline atOnce : Bool) : State :=
  let res := computeDue c r s.now (s.txExpiry n)
  let s := s.stick res.flags.sticky
  let flags := (x.flags.union { offlineDecided := offline }).union res.flags
  let untracked := s.loanUntracked d x.number
  let rec_ := { s.record .charge (some n) with
    decidedBy := d, flags := flags, borrower := some b, item := some x.number, due := some res.due,
    ruleIndex := some index, bankGen := some s.generation,
    detail := if untracked then some Detail.untrackedLoan else if atOnce then some .localFallback else none }
  match s.writeStation n rec_ with
  | (none, s) => s.refuseFull n i
  | (some k, s) =>
    let x' := { x.settled with
      state := .granted, due := some res.due, decidedBy := some d, flags := flags, chargeSeq := some k,
      hourly := decide (r.unit = .hours) }
    let s := s.updItem n i fun _ => x'
    let s := s.postLoan n fun k => satAdd Config.maxCount8 k 1
    let s := s.noteLoan d untracked ⟨x.number, b, res.due, index, k⟩
    let s := s.grantException n x' b
    (s.updTallies n fun t => { t with charges := sat32 t.charges 1 }).tone n .accept

/-- R29: a grant of the entry at `i`. Where a part of the active bank holds no value the item is refused with reason
RULES_INVALID (log entry 34). -/
def State.grant (s : State) (n : StationNo) (i : Nat) (d : DecidedBy) (offline atOnce : Bool) : State :=
  match s.entry n i, (s.st n).ctx.borrower with
  | some x, some b =>
    match s.activeBank.calendar?, s.ruleIndex? x.cls (s.txCategory n) with
    | some c, some index =>
      match s.rule? index with
      | some r => s.grantWith n i x b c index r d offline atOnce
      | none => s.refuseItem n i .rulesInvalid .noOne
    | _, _ => s.refuseItem n i .rulesInvalid .noOne
  | _, _ => s

/-- R28, R90: a class carried in a GRANT reply replaces the entry's class; above 63 it is taken as 63 and marked. -/
def State.replaceClass (s : State) (n : StationNo) (i : Nat) (cls : Option Nat) : State :=
  match cls with
  | none => s
  | some k =>
    let clamped := decide (Config.otherClass < k)
    (s.stick { classClamped := clamped }).updItem n i fun x =>
      { x with cls := clampClass k, flags := x.flags.union { classClamped := clamped } }

/-! ### Discharges (R34) -/

/-- A discharge decision. -/
structure Discharge where
  decidedBy : DecidedBy
  borrower : Option Nat
  due : Option Time
  ruleIndex : Option Nat
  fine : Option FineResult
  flags : ResultFlags
  atOnce : Bool
  routing : Option Routing
  deriving DecidableEq, Repr

/-- R61: the posting of a discharge; whether the balance was held at its maximum. -/
def State.postDischarge (s : State) (b : Option Nat) (fine : Option FineResult) : State × Bool :=
  match b.bind s.borrower? with
  | none => (s, false)
  | some e =>
    let f := (fine.map (·.fine)).getD 0
    let late := (fine.map (·.late)).getD false
    (s.setBorrower (e.post fun e => { e with
        onLoan := e.onLoan - 1
        overdue := if late then e.overdue - 1 else e.overdue
        balance := satAdd Config.maxMoney e.balance f }),
      decide (Config.maxMoney < e.balance + f))

/-- R34: a discharge decision is applied, record first. -/
def State.discharge (s : State) (n : StationNo) (i : Nat) (d : Discharge) : State :=
  match s.entry n i with
  | none => s
  | some x =>
    let flags := x.flags.union d.flags
    let rec_ := { s.record .discharge (some n) with
      decidedBy := d.decidedBy, flags := flags, borrower := d.borrower, item := some x.number, due := d.due,
      fine := d.fine.map (·.fine), ruleIndex := d.ruleIndex, bankGen := some s.generation,
      detail := if d.atOnce then some Detail.localFallback else none }
    match s.writeStation n rec_ with
    | (none, s) => s.refuseFull n i
    | (some _, s) =>
      let f := (d.fine.map (·.fine)).getD 0
      let p := s.postDischarge d.borrower d.fine
      let s := p.1.stick { balanceSaturated := p.2 }
      let s := s.updItem n i fun x => { x.settled with
        state := .returned, fine := d.fine.map (·.fine), decidedBy := some d.decidedBy,
        flags := flags.union { balanceSaturated := p.2 },
        routing := x.routing.orElse fun _ => d.routing }
      let s := s.updTallies n fun t => { t with discharges := sat32 t.discharges 1, fines := sat32 t.fines f }
      s.tone n .accept

/-- R34, R92: a discharge decided without a due time: no fine, FINE_PENDING. -/
def Discharge.pending (d : DecidedBy) (offline atOnce : Bool) : Discharge :=
  { decidedBy := d, borrower := none, due := none, ruleIndex := none, fine := none,
    flags := { finePending := true, offlineDecided := offline }, atOnce := atOnce, routing := none }

/-- R91, R92: a discharge decided with a due time: its fine, or FINE_PENDING. DESIGN CHOICE (log entry 55): it carries no
OFFLINE_DECIDED, even where it comes from the pending loan list with the service OFFLINE. -/
def State.finedDischarge (s : State) (d : DecidedBy) (b : Nat) (due : Time) (index : Option Nat) (cat : Nat)
    (clamped : Bool) (routing : Option Routing) : Discharge :=
  let fine := if s.canFine then index.bind fun i => s.fineFrom i cat due s.now else none
  { decidedBy := d, borrower := some b, due := some due, ruleIndex := index, fine := fine,
    flags := (match fine with
      | some f => f.flags
      | none => { finePending := true }).union { classClamped := clamped },
    atOnce := false, routing := routing }

/-- R34, R128: a discharge from the pending loan list; its entry leaves the list once the record is written. -/
def State.dischargeLoan (s : State) (n : StationNo) (i : Nat) (l : PendingLoan) : State :=
  let d := s.finedDischarge .localPart l.borrower l.due (some l.ruleIndex) (s.fineCategory (some l.borrower)) false none
  let s := (s.stick d.flags.sticky).discharge n i d
  match s.entry n i with
  | some x => if x.state = .returned then s.dropLoan l.item else s
  | none => s

/-- R91, R112: the decision of an ON_LOAN reply. While RULES_INVALID is active no rule index is read and no class is
clamped (log entry 33). -/
def State.onLoanDischarge (s : State) (d : DecidedBy) (o : OnLoan) : Discharge :=
  let cat := s.fineCategory (some o.borrower)
  let routing := if o.hold then some Routing.hold else none
  let due : Time := ⟨o.day, min o.minute Config.lastMinute⟩
  if s.mgmt.alarms.rulesInvalid.active then s.finedDischarge d o.borrower due none cat false routing
  else s.finedDischarge d o.borrower due (s.ruleIndex? (clampClass o.cls) cat) cat
    (decide (Config.otherClass < o.cls)) routing

/-- R34: a discharge decided from an ON_LOAN reply; a hold flag requests L6 after the decision. -/
def State.dischargeOnLoan (s : State) (n : StationNo) (i : Nat) (o : OnLoan) : State :=
  let d := s.onLoanDischarge .online o
  let s := (s.stick d.flags.sticky).discharge n i d
  match s.entry n i with
  | some x => if x.state = .returned ∧ o.hold = true then s.requestLevel n .l6 0 none else s
  | none => s

/-- R34: a NOT_ON_LOAN reply. -/
def Discharge.notOnLoan : Discharge :=
  { decidedBy := .online, borrower := none, due := none, ruleIndex := none, fine := none, flags := {},
    atOnce := false, routing := none }

/-! ### Outcomes -/

/-- R28: an outcome applied to a charge entry. DESIGN CHOICE (log entry 55): a lapse or a parked reply sets no
OFFLINE_DECIDED, even where the service is OFFLINE by then. -/
def State.applyCharge (s : State) (n : StationNo) (i : Nat) (o : ItemOutcome) : State :=
  match o with
  | .grant cls => (s.replaceClass n i cls).grant n i .online false false
  | .refuse code => s.refuseItem n i (.server code) .online
  | .lapse => s.grant n i .fallback false false
  | .offline => s.grant n i .localPart true false
  | .tableFull => s.grant n i .fallback false true
  | .onLoan _ | .notOnLoan => s

/-- R34: an outcome applied to a discharge entry. DESIGN CHOICE (log entry 55): as in `State.applyCharge`, a lapse
or a parked reply sets no OFFLINE_DECIDED. -/
def State.applyDischarge (s : State) (n : StationNo) (i : Nat) (o : ItemOutcome) : State :=
  match o with
  | .onLoan x => s.dischargeOnLoan n i x
  | .notOnLoan => s.discharge n i .notOnLoan
  | .lapse => s.discharge n i (.pending .fallback false false)
  | .offline => s.discharge n i (.pending .localPart true false)
  | .tableFull => s.discharge n i (.pending .fallback false true)
  | .grant _ | .refuse _ => s

/-- An outcome applied to an AWAITING entry. -/
def State.applyOutcome (s : State) (n : StationNo) (i : Nat) (o : ItemOutcome) : State :=
  match (s.st n).ctx.kind with
  | some .charge => s.applyCharge n i o
  | some .discharge => s.applyDischarge n i o
  | none => s

/-- R20: an outcome reaches an AWAITING entry: parked while the hold condition holds, else applied. -/
def State.takeOutcome (s : State) (n : StationNo) (i : Nat) (o : ItemOutcome) : State :=
  if (s.st n).alerts.hold then
    s.updItem n i fun x => { x with waiting := some .reply, query := none, parked := some o }
  else s.applyOutcome n i o

/-- R20: the parked outcomes are applied in list order, while the hold condition does not hold again. -/
def State.applyParked (s : State) (n : StationNo) : State :=
  (List.range (s.st n).ctx.items.length).foldl (fun s i =>
    match s.entry n i with
    | some x =>
      match x.parked with
      | some o =>
        if (s.st n).alerts.hold then s
        else State.applyOutcome (s.updItem n i fun x => { x with parked := none }) n i o
      | none => s
    | none => s) s

/-! ### Reaching a decision -/

/-- An item entry waits for the reply to a query just sent. -/
def State.awaitReply (s : State) (n : StationNo) (i : Nat) (k : Tag × Nat) : State :=
  s.updItem n i fun x => { x with waiting := some .reply, query := some k }

/-- The question of an item entry. -/
def State.itemQuestion (s : State) (n : StationNo) (i : Nat) (kind : QueryKind) (x : Item) : Question :=
  { station := n, kind := kind, target := x.number,
    borrower := if kind = .chargeRequest then (s.st n).ctx.borrower else none, position := some (i + 1) }

/-- R28: a charge entry reaches its decision. -/
def State.decideCharge (s : State) (n : StationNo) (i : Nat) : State :=
  match s.entry n i with
  | none => s
  | some x =>
    if s.service.state = .offline then s.takeOutcome n i .offline
    else
      match s.ask (s.itemQuestion n i .chargeRequest x) x.cls with
      | (none, s) => s.takeOutcome n i .tableFull
      | (some k, s) => (s.awaitReply n i k).tone n .none

/-- R34: a discharge entry reaches its decision. A DISCHARGE_REQUEST carries no class (R111). -/
def State.decideDischarge (s : State) (n : StationNo) (i : Nat) : State :=
  match s.entry n i with
  | none => s
  | some x =>
    match s.loan? x.number with
    | some l => s.dischargeLoan n i l
    | none =>
      if s.service.state = .offline then s.takeOutcome n i .offline
      else
        match s.ask (s.itemQuestion n i .dischargeRequest x) 0 with
        | (none, s) => s.takeOutcome n i .tableFull
        | (some k, s) => s.awaitReply n i k

/-- R22, R27: a level is counted: unmasked and in the hold set. -/
def Resolver.counts (r : Resolver) (l : Level) : Bool := !r.mask.mem l && r.holdSet.mem l

/-- R27: the borrower's items on loan, and each other entry of the transaction that waits for REPLY. -/
def State.limitTotal (s : State) (n : StationNo) (i : Nat) : Nat :=
  s.txOnLoan n + (((s.st n).ctx.items.eraseIdx i).filter Item.waitsReply).length

/-- R27: the loan limit of a charge entry. -/
def State.checkLimit (s : State) (n : StationNo) (i : Nat) : State :=
  match s.category? (s.txCategory n) with
  | none => s.refuseItem n i .rulesInvalid .noOne
  | some k =>
    if s.limitTotal n i < k.itemsLimit then s.decideCharge n i
    else if (s.st n).alerts.counts .l5 then
      (s.updItem n i fun x => { x with waiting := some .override }).requestLevel n .l5 0 (some .item)
    else if (s.st n).alerts.mask.mem .l5 then
      (s.updCtx n fun c => { c with maskedReason := true }).decideCharge n i
    else s.decideCharge n i

/-- R27: a new charge entry is checked against the exception table and the loan limit. -/
def State.checkCharge (s : State) (n : StationNo) (i : Nat) : State :=
  match s.entry n i with
  | none => s
  | some x =>
    let stop (r : Reason) : State := (s.refuseItem n i r .noOne).requestLevel n .l6 0 none
    match s.exception? x.number with
    | some .reference => stop .reference
    | some .withdrawn => stop .withdrawn
    | some (.hold h) => if (s.st n).ctx.borrower = some h then s.checkLimit n i else stop .holdOther
    | some .missing | none => s.checkLimit n i

/-- R33, step 5: a new discharge entry, its exceptions, its decision, and L6 after it. -/
def State.dischargeNew (s : State) (n : StationNo) (number cls : Nat) (clamped : Bool) : State :=
  let x := Item.new number cls clamped
  let i := (s.st n).ctx.items.length
  match s.exception? number with
  | some (.hold h) =>
    ((s.addEntry n { x with routing := some (.digits (h % 10000)) }).decideDischarge n i).requestLevel n .l6 0 none
  | some .missing =>
    ((((s.addEntry n x).dropException number).itemFound n x).decideDischarge n i).requestLevel n .l6 0 none
  | _ => (s.addEntry n x).decideDischarge n i

end Sys2Proof.Machine
end

