-- ==== Sys2Proof/Machine/Check.lean ====
section
/-! DEFINITION. Check.lean: the borrower check (R22, R53 to R58): its paths, its block reasons and its two outcomes. -/

namespace Sys2Proof.Machine

/-! ### Back to IDLE -/

/-- R41, R46: the context cleared and IDLE; lock sources and timer period stay. -/
def Ctx.cleared (c : Ctx) : Ctx :=
  { c with tx := .idle, interrupted := none, kind := none, borrower := none, tracked := true, view := none,
           outstanding := [], maskedReason := false, items := [], holding := none, firstSeq := none, next := .none,
           lookup := none, timer := .stopped }

/-- R22, R23: a refused borrower: the reservation is released and the transaction returns to IDLE. -/
def State.endRefused (s : State) (n : StationNo) : State :=
  (s.updSlips n (·.release)).updCtx n Ctx.cleared

/-- R22, R23: the borrower is refused with a REFUSAL record and a count in the tally. A staged alert configuration is
left to the caller (R145). Tone REFUSE carries index 0, whether or not the record could be written (log entry 44). -/
def State.refuseBorrower (s : State) (n : StationNo) (reason : Reason) (d : DecidedBy) : State :=
  let s := (s.writeStation n { s.record .refusal (some n) with
    decidedBy := d, borrower := (s.st n).ctx.borrower, reason := some reason }).2
  ((s.tallyRefusal n).endRefused n).tone n .refuse

/-- R23: the borrower is refused without record and without tally (CLEARED). -/
def State.refuseBorrowerSilently (s : State) (n : StationNo) : State := (s.endRefused n).tone n .refuse

/-- R31: a BORROWER_NEW that could not be written refuses the borrower. -/
def State.refuseBorrowerFull (s : State) (n : StationNo) : State :=
  ((s.tallyRefusal n).endRefused n).display n .refuse Config.journalFullIndex

/-! ### Acceptance -/

/-- R22, R23: the transaction enters OPEN with tone ACCEPT, or, while HELD, its interrupted state becomes OPEN. The
timer starts at full period (R42). -/
def State.enterOpen (s : State) (n : StationNo) : State :=
  if (s.st n).ctx.tx = .held then
    (s.updCtx n fun c => { c with interrupted := some .opened }).startTimer n
  else ((s.updCtx n fun c => { c with tx := .opened }).startTimer n).tone n .accept

/-- R58: the reasons present, by the values settled on. -/
def State.reasonPresent (s : State) (e : Borrower) : BlockReason → Bool
  | .manual => e.manual.isSome
  | .expired =>
    match e.expiry with
    | some d => s.clock.isSet && decide (d < s.clock.day)
    | none => false
  | .fines =>
    match s.category? e.category with
    | some k => decide (k.fineThreshold ≠ 0) && decide (k.fineThreshold ≤ e.balance)
    | none => false
  | .overdue =>
    match s.category? e.category with
    | some k => decide (k.overdueLimit ≠ 0) && decide (k.overdueLimit ≤ e.overdue)
    | none => false
  | .limit =>
    match s.category? e.category with
    | some k => decide (k.itemsLimit ≤ e.onLoan)
    | none => false

/-- The five block reasons, in the order of their levels. -/
def BlockReason.all : List BlockReason := [.manual, .expired, .fines, .overdue, .limit]

/-- R58: the reasons present. -/
def State.reasons (s : State) (e : Borrower) : List BlockReason := BlockReason.all.filter (s.reasonPresent e)

/-- R134: the message index that the request of a reason carries. -/
def Borrower.indexFor (e : Borrower) : BlockReason → Nat
  | .manual => e.manual.getD 0
  | _ => 0

/-- R22, R134: the request of a counted reason's level. -/
def State.requestReason (s : State) (n : StationNo) (e : Borrower) (r : BlockReason) : State :=
  s.requestLevel n r.level (e.indexFor r) (if r = .limit then some .borrower else none)

/-- R22, R58: the borrower is accepted on the values `e`: masked reasons set the mark, counted reasons are requested
and become outstanding, in rising order of level (log entry 10), and without any the transaction enters OPEN. -/
def State.acceptBorrower (s : State) (n : StationNo) (e : Borrower) : State :=
  let r := (s.st n).alerts
  let present := s.reasons e
  let counted := present.filter fun x => r.counts x.level
  let masked := present.any fun x => r.mask.mem x.level
  let s := s.updCtx n fun c => { c with
    lookup := none, maskedReason := c.maskedReason || masked, outstanding := counted }
  if counted.isEmpty then s.enterOpen n else counted.foldl (fun s x => s.requestReason n e x) s

/-- R51, R58: reasons are derived from an entry; a LEARNED one moves to the head of the recency list. -/
def State.acceptEntry (s : State) (n : StationNo) (e : Borrower) : State :=
  (if e.origin = .learned then s.touch e.number else s).acceptBorrower n e

/-- R52: a borrower without an entry is carried UNTRACKED on the values `e`. -/
def State.acceptUntracked (s : State) (n : StationNo) (e : Borrower) : State :=
  (s.updCtx n fun c => { c with tracked := false, view := some ⟨e.category, e.onLoan⟩ }).acceptBorrower n e

/-! ### Strangers (R57) -/

/-- R57: the entry of a stranger. -/
def State.stranger (s : State) (b : Nat) : Borrower :=
  { number := b, origin := .provisional, category := Config.strangerCategory, manual := none, expiry := none,
    balance := 0, onLoan := min Config.maxCount8 (s.pendingCount b), overdue := 0, changed := true, inFlight := false }

/-- R57: the stranger policy decides. -/
def State.decideStranger (s : State) (n : StationNo) (b : Nat) (d : DecidedBy) : State :=
  match s.service.policy with
  | .refuse => s.refuseBorrower n .stranger d
  | .admits =>
    let e := s.stranger b
    let room := s.hasRoom
    match s.writeStation n { s.record .borrowerNew (some n) with
        decidedBy := d, borrower := some b, flags := { untracked := !room } } with
    | (none, s) => s.refuseBorrowerFull n
    | (some _, s) =>
      match (if room then s.createBorrower e else none) with
      | some s => s.acceptBorrower n e
      | none => s.acceptUntracked n e

/-! ### Paths (R53 to R55) -/

/-- R55: the check goes on as on a lapse, with decided-by FALLBACK; in OFFLINE with decided-by LOCAL (R53). -/
def State.checkWithout (s : State) (n : StationNo) (b : Nat) (d : DecidedBy) : State :=
  match s.borrower? b with
  | some e => s.acceptEntry n e
  | none => s.decideStranger n b d

/-- R53: a BORROWER_LOOKUP is asked for; a full query table lets the check go on as on a lapse. -/
def State.askLookup (s : State) (n : StationNo) (b : Nat) : State :=
  match s.ask ⟨n, .borrowerLookup, b, none, none⟩ 0 with
  | (some k, s) => s.updCtx n fun c => { c with lookup := some k }
  | (none, s) => s.checkWithout n b .fallback

/-- R53: the borrower check starts. -/
def State.startCheck (s : State) (n : StationNo) (b : Nat) : State :=
  if s.service.state = .offline then s.checkWithout n b .localPart
  else
    match s.borrower? b with
    | some e => if e.origin = .loaded then s.acceptEntry n e else s.askLookup n b
    | none => s.askLookup n b

/-- The contents of a FOUND reply, held at their maxima (R54). -/
structure Found where
  category : Nat
  manual : Option Nat
  expiry : Option Nat
  balance : Nat
  onLoan : Nat
  overdue : Nat
  deriving DecidableEq, Repr

/-- R54: the LEARNED entry that a FOUND reply gives, with the borrower's pending count added. -/
def State.learned (s : State) (b : Nat) (f : Found) : Borrower :=
  { number := b, origin := .learned, category := min Config.strangerCategory f.category, manual := f.manual,
    expiry := f.expiry, balance := min Config.maxMoney f.balance,
    onLoan := satAdd Config.maxCount8 (min Config.maxCount8 f.onLoan) (s.pendingCount b),
    overdue := min Config.maxCount8 f.overdue, changed := false, inFlight := false }

/-- R54, R56: a FOUND reply acts on the borrower table. -/
def State.takeFound (s : State) (b : Nat) (f : Found) : State :=
  match s.borrower? b with
  | some e =>
    if e.origin = .loaded then s
    else (s.setBorrower { s.learned b f with changed := e.changed, inFlight := e.inFlight }).touch b
  | none => (s.createBorrower (s.learned b f)).getD s

/-- R54: a timely FOUND reply ends the check: from the entry that then stands, or UNTRACKED from the reply. -/
def State.checkFound (s : State) (n : StationNo) (b : Nat) (f : Found) : State :=
  let e := s.learned b f
  let s := s.takeFound b f
  match s.borrower? b with
  | some e => s.acceptEntry n e
  | none => s.acceptUntracked n e

/-- R55: a timely UNKNOWN reply: a LOADED entry serves instead, and otherwise the borrower is refused. -/
def State.checkUnknown (s : State) (n : StationNo) (b : Nat) : State :=
  match s.borrower? b with
  | some e => if e.origin = .loaded then s.acceptEntry n e else s.refuseBorrower n .unknownBorrower .online
  | none => s.refuseBorrower n .unknownBorrower .online

end Sys2Proof.Machine
end

