-- ==== Sys2Proof/Machine/Station.lean ====
section
/-! DEFINITION. Station.lean: how transactions open and close (R21, R32, R39 to R47), and the resolver events that reach
them: withdrawals of L0, acknowledges, badges and ALERT_CLEAR (R140 to R148). -/

namespace Sys2Proof.Machine

/-! ### Opening in IDLE -/

/-- R21, R32: L0 is in service or the hold condition holds. -/
def Resolver.stops (r : Resolver) : Bool := r.inService.mem .l0 || r.hold

/-- R21: a borrower scan taken in IDLE. -/
def State.borrowerInIdle (s : State) (n : StationNo) (b : Nat) : State :=
  let t := s.st n
  if t.ctx.locked then s.tone n .locked
  else if t.slips.freeSlot.isNone then s.tone n .backlog
  else if t.alerts.stops then s.tone n .held
  else
    let s := s.updSlips n (·.reserve)
    let s := s.updCtx n fun c => { c with
      tx := .checking, kind := some .charge, borrower := some b, tracked := true, view := none, outstanding := [],
      maskedReason := false, holding := some .reserved }
    State.applyStaged ((s.tone n .none).startCheck n b) n

/-- R32: a discharge run opens, RESERVED or SLIPLESS, with the tone of its opening. -/
def State.openRun (s : State) (n : StationNo) (tone : Tone) : State :=
  let holding := if (s.st n).slips.freeSlot.isSome then Holding.reserved else .slipless
  let s := s.updSlips n (·.reserve)
  let s := s.updCtx n fun c => { c with tx := .returns, kind := some .discharge, holding := some holding }
  (s.startTimer n).tone n tone

/-- R32: an item scan taken in IDLE. -/
def State.itemInIdle (s : State) (n : StationNo) (number cls : Nat) (clamped : Bool) : State :=
  if (s.st n).alerts.stops then s.tone n .held
  else (s.openRun n .none).dischargeNew n number cls clamped

/-- R41, step 5: the next action is taken as arriving in IDLE. -/
def State.takeNext (s : State) (n : StationNo) (a : NextAction) : State :=
  match a with
  | .none => s
  | .borrower b => s.borrowerInIdle n b
  | .item k cls clamped => s.itemInIdle n k cls clamped
  | .ret => s.openRun n .accept

/-! ### Closing -/

/-- R41, R46: an entry whose slip line calls for paper: GRANTED, or RETURNED with a fine above 0 or a hold routing. -/
def Item.wantsSlip (x : Item) : Bool :=
  match x.state with
  | .granted => true
  | .returned => decide (0 < x.fine.getD 0) || x.routing.isSome
  | _ => false

/-- R41, step 2: the transaction hands a slip. -/
def Ctx.handsSlip (c : Ctx) : Bool := decide (c.holding = some .reserved) && c.items.any Item.wantsSlip

/-- R41, step 1: every one of L1 to L5 that still stands is withdrawn, in rising order of level (log entry 12). -/
def State.withdrawBlocks (s : State) (n : StationNo) : State :=
  Level.blocks.foldl (fun s l => s.withdrawLevel n l) s

/-- R41, step 2: the slip is handed, or the reservation released. -/
def State.settleSlip (s : State) (n : StationNo) : State :=
  let c := (s.st n).ctx
  if c.handsSlip then
    State.feed (s.updSlips n fun q => q.hand (c.slipText n s.mgmt.cabinet s.printHeader s.now)) n
  else s.updSlips n (·.release)

/-- R41: the completion of a close. -/
def State.completeClose (s : State) (n : StationNo) : State :=
  let s := (s.withdrawBlocks n).settleSlip n
  let a := (s.st n).ctx.next
  (((s.updCtx n Ctx.cleared).tone n .none).applyStaged n).takeNext n a

/-- R39: a close. -/
def State.close (s : State) (n : StationNo) : State :=
  let s := s.updCtx n fun c => { c with timer := .stopped }
  if (s.st n).ctx.awaiting = 0 then s.completeClose n
  else (s.updCtx n fun c => { c with tx := .closing }).tone n .none

/-- R40: in CLOSING, the close completes once no entry is AWAITING. -/
def State.closeIfDone (s : State) (n : StationNo) : State :=
  if (s.st n).ctx.tx = .closing ∧ (s.st n).ctx.awaiting = 0 then s.completeClose n else s

/-! ### Events of the resolver -/

/-- R137 to R139: a resolver event is completed: resolution, the change of the hold condition with the parked outcomes
that its end lets through, the endings that follow it, and the display with the event's tone. A close that then has no
AWAITING entry completes. -/
def State.endEvent (s : State) (n : StationNo) (tone : Tone) (endings : State → State) : State :=
  let s := State.resolve n 8 s
  let before := (s.st n).alerts.hold
  let s := s.reportHold n
  let s := if before && !(s.st n).alerts.hold then s.applyParked n else s
  ((endings s).finishShow n tone).closeIfDone n

/-- R135: the line's station fault condition changes from `before`. -/
def State.faultEvent (s : State) (n : StationNo) (before : Bool) (tone : Tone) : State :=
  let now := (s.st n).line.fault
  let s :=
    if now && !before then s.updAlerts n fun r => r.request .l0 0 none
    else if before && !now then s.updAlerts n fun r => r.withdraw .l0
    else s
  s.endEvent n tone id

/-- The indices of the entries that wait for OVERRIDE, in list order. -/
def Ctx.overrides (c : Ctx) : List Nat :=
  (List.range c.items.length).filter fun i => ((c.items[i]?).map Item.waitsOverride).getD false

/-- R141: the other borrower levels are swept from both sets. -/
def Resolver.sweepBlocks (r : Resolver) (except : Level) : Resolver :=
  (Level.blocks.filter (· != except)).foldl Resolver.sweep r

/-- R140: the level is one that refuses the borrower. -/
def Resolver.refusesBorrower (r : Resolver) (l : Level) : Bool :=
  l.reason?.isSome && !(decide (l = .l5) && decide (r.origin = some .item))

/-- R141, R23: the ending REFUSED of a borrower level at the station. -/
def State.borrowerEnding (s : State) (n : StationNo) (l : Level) : State :=
  match (s.st n).ctx.kind, l.reason? with
  | some .charge, some r => s.refuseBorrower n (.block r) .noOne
  | _, _ => s

/-- R140 to R142: an acknowledge. -/
def State.acknowledge (s : State) (n : StationNo) : State :=
  let r := (s.st n).alerts
  match r.displayed with
  | none | some .l0 => s.tone n .refuse
  | some .l6 => (s.updAlerts n fun r => r.leave .l6).endEvent n .accept id
  | some .l7 => (s.updAlerts n fun r => r.leave .l7).endEvent n .accept id
  | some l =>
    if r.refusesBorrower l then
      State.applyStaged (((s.borrowerEnding n l).updAlerts n fun r => (r.leave l).sweepBlocks l).endEvent n .none id) n
    else
      let s := (s.st n).ctx.overrides.foldl (fun s i => s.refuseItem n i (.block .limit) .noOne) s
      (s.updAlerts n fun r => r.leave l).endEvent n .none id

/-- R23, R27, R143: the ending OVERRIDDEN of a level at the station. -/
def State.overrideEnding (n : StationNo) (l : Level) (borrowerLevel : Bool) (s : State) : State :=
  match l.reason? with
  | none => s
  | some r =>
    if borrowerLevel then
      let s := s.updCtx n fun c => { c with outstanding := c.outstanding.filter (· != r) }
      let c := (s.st n).ctx
      if c.outstanding.isEmpty ∧ c.kind = some .charge ∧
          (c.tx = .checking ∨ (c.tx = .held ∧ c.interrupted = some .checking)) then s.enterOpen n else s
    else (s.st n).ctx.overrides.foldl (fun s i => s.decideCharge n i) s

/-- R143: the level that an override would settle. -/
def Resolver.overridable (r : Resolver) : Option Level :=
  match r.displayed with
  | some l => if r.hold && l.reason?.isSome && r.holdSet.mem l then some l else none
  | none => none

/-- R143: the item that an OVERRIDE record names. -/
def Station.overrideItem (t : Station) (l : Level) : Option Nat :=
  if t.alerts.refusesBorrower l then none
  else (t.ctx.items.find? Item.waitsOverride).map (·.number)

/-- R138, R143: the DISPLAY of a badge that the full journal turns away: tone REFUSE with index 250, which become the
last shown with the displayed level, and then the further DISPLAY of the level's own index. -/
def State.badgeJournalFull (s : State) (n : StationNo) : State :=
  ((s.display n .refuse Config.journalFullIndex).updAlerts n fun r =>
    { r with shown := (r.displayed, Config.journalFullIndex) }).finishShow n .none

/-- R143: a supervisor badge scanned at an ACTIVE station. DESIGN CHOICE (log entry 52): the OVERRIDE record carries the
three flags of the station and none of the item that it may name. -/
def State.takeBadge (s : State) (n : StationNo) (badge : Nat) : State :=
  let t := s.st n
  if !s.badges.contains badge then s.tone n .refuse
  else
    match t.alerts.overridable with
    | none => s.tone n .refuse
    | some l =>
      let r := { s.record .override (some n) with
        borrower := t.ctx.borrower, item := t.overrideItem l, reason := l.reason?.map Reason.block, badge := some badge }
      match s.writeStation n r with
      | (none, s) => s.badgeJournalFull n
      | (some _, s) =>
        let s := s.updTallies n fun t => { t with overrides := sat32 t.overrides 1 }
        (s.updAlerts n fun r => r.leave l).endEvent n .accept (State.overrideEnding n l (t.alerts.refusesBorrower l))

/-- R147: ALERT_CLEAR of a level that stands in one of the sets. DESIGN CHOICE (log entry 50): the resolver's DISPLAY of
the event carries tone NONE at every level, L6 and L7 included, whose acknowledge would carry ACCEPT (R140). -/
def State.clearLevel (s : State) (n : StationNo) (l : Level) : State :=
  let t := s.st n
  match l with
  | .l0 =>
    (s.updAlerts n fun r =>
      let r := r.withdraw .l0
      if t.line.fault then { r with pending := r.pending.insert .l0 } else r).endEvent n .none id
  | .l6 => (s.updAlerts n fun r => r.withdraw .l6).endEvent n .none id
  | .l7 => (s.updAlerts n fun r => r.withdraw .l7).endEvent n .none id
  | l =>
    if t.alerts.refusesBorrower l then
      let s := if t.ctx.kind = some .charge then s.refuseBorrowerSilently n else s
      State.applyStaged ((s.updAlerts n fun r => (r.withdraw l).sweepBlocks l).endEvent n .none id) n
    else
      let s := t.ctx.overrides.foldl (fun s i => s.refuseSilently n i) s
      (s.updAlerts n fun r => r.withdraw l).endEvent n .none id

/-- R37, R134: CANCEL of an entry waiting for OVERRIDE withdraws L5 when no other entry waits for it. -/
def State.withdrawItemLimit (s : State) (n : StationNo) : State :=
  if (s.st n).ctx.overrides.isEmpty then (s.updAlerts n fun r => r.withdraw .l5).endEvent n .none id else s

/-! ### Force-close (R46, R47, R148) -/

/-- R46: the queries of the AWAITING entries and of the borrower check lapse as VOID. -/
def State.voidQueries (s : State) (n : StationNo) : State :=
  let c := (s.st n).ctx
  ((c.inState .awaiting).map (·.query)).foldl State.voidQuery (s.voidQuery c.lookup)

/-- R46, R137: a withdrawal made by a force-close, with the resolution that follows the change. -/
def State.withdrawResolved (s : State) (n : StationNo) (l : Level) : State :=
  let r := (s.st n).alerts
  if r.pending.mem l || r.inService.mem l then State.resolve n 8 (s.updAlerts n fun r => r.withdraw l) else s

/-- R46: the force-close of a transaction, with its SLIP_LOST record when `counted`. L1 to L5 are withdrawn in rising
order, each followed by its resolution; the hold condition is left to the resolver's event that follows (log entry
12). -/
def State.forceClose (s : State) (n : StationNo) (counted : Bool) : State :=
  let c := (s.st n).ctx
  if c.tx = .idle then s
  else
    let s := s.voidQueries n
    let s :=
      if counted && c.handsSlip then
        ((s.writeStation n { s.record .stationEvent (some n) with detail := some .slipLost }).2).updTallies n
          fun t => { t with lost := sat32 t.lost 1 }
      else s
    let s := s.updSlips n (·.release)
    let s := Level.blocks.foldl (fun s l => s.withdrawResolved n l) s
    (s.updCtx n Ctx.cleared).tone n .none

/-- R148: both sets are emptied, a staged configuration is applied, and the event is completed. -/
def State.emptyAlerts (s : State) (n : StationNo) (fault : Bool) : State :=
  (s.updAlerts n fun r =>
    let r := r.emptied fault
    match r.staged with
    | some c => r.configure c
    | none => r).endEvent n .none id

/-- R9: the loss of the head, reported to the station controller, the slip queue and the resolver, in that order. -/
def State.loseHead (s : State) (n : StationNo) : State :=
  ((s.forceClose n true).updSlips n (·.release)).emptyAlerts n true

end Sys2Proof.Machine
end

