-- ==== Sys2Proof/Machine/Desk.lean ====
section
/-! DEFINITION. Desk.lean: the desk line interface (chapter 1), the scans and keys it hands on (chapter 2), and the
meanings of the commands that arrive at a desk line or from its timers. -/

namespace Sys2Proof.Machine

/-- What the part sends is collected anew at each command (log entry 3). -/
def State.fresh (s : State) : State := { s with sent := [] }

/-! ### Link states -/

/-- R4: the link enters CHECK, from any link state; an ACTIVE station first loses its head (R9). -/
def State.enterCheck (s : State) (n : StationNo) : State :=
  let before := (s.st n).line.fault
  let s := if (s.st n).line.link = .active then s.loseHead n else s
  let s := s.setPrinter n .offline
  let s := s.updLine n fun l => { l with link := .check, silence := some 0, history := [], credit := 0 }
  (s.faultEvent n before .none).tone n .none

/-- R1, R5: a decoded frame restarts the silence timer; in DETACHED it first brings the line to CHECK. -/
def State.wake (s : State) (n : StationNo) : State :=
  if (s.st n).line.link = .detached then s.enterCheck n
  else s.updLine n fun l => { l with silence := some 0 }

/-- R6: the silence timer has reached 3 s. -/
def State.fallSilent (s : State) (n : StationNo) : State :=
  let before := (s.st n).line.fault
  let s := if (s.st n).line.link = .active then s.loseHead n else s
  let s := s.setPrinter n .offline
  let s := s.updLine n fun l => { l with link := .detached, silence := none, credit := 0 }
  s.faultEvent n before .none

/-! ### Scans -/

/-- R15: whether an outcome is GOOD or BAD. -/
def ScanOutcome.quality : ScanOutcome → Quality
  | .borrower _ | .item .. | .badge _ => .good
  | .badCheck | .badForm => .bad

/-- R15: the bad count of a history. -/
def badCount (h : List Quality) : Nat := (h.filter fun q => decide (q = .bad)).length

/-- R15: the history with one entry more at its newest end, at most 8. -/
def joinHistory (h : List Quality) (q : Quality) : List Quality :=
  (h ++ [q]).drop ((h ++ [q]).length - Config.maxHistory)

/-- R15: the scan crosses the quality threshold. -/
def Line.crosses (l : Line) (q : Quality) : Bool :=
  decide (q = .bad) && decide (0 < l.threshold) && decide (badCount l.history < l.threshold) &&
    decide (l.threshold ≤ badCount (joinHistory l.history q))

/-- R15: an outcome enters the scan history; crossing the threshold requests L7. -/
def State.noteQuality (s : State) (n : StationNo) (q : Quality) : State :=
  let l := (s.st n).line
  let s := s.updLine n fun l => { l with history := joinHistory l.history q }
  if l.crosses q then s.requestLevel n .l7 0 none else s

/-- R7, R14: a BAD outcome counts in the bad-scans tally. -/
def State.tallyBadScan (s : State) (n : StationNo) : State :=
  s.updTallies n fun t => { t with badScans := sat32 t.badScans 1 }

/-- R7: a scan taken in CHECK. -/
def State.scanInCheck (s : State) (n : StationNo) (o : ScanOutcome) : State :=
  match o with
  | .badge k =>
    if s.badges.contains k then
      (s.updLine n fun l => { l with link := .active }).faultEvent n true .accept
    else s.tone n .refuse
  | .borrower _ | .item .. => s.tone n .locked
  | .badCheck | .badForm => (s.tallyBadScan n).tone n .locked

/-- R39: a borrower scan that closes the transaction becomes the next action. -/
def State.closeFor (s : State) (n : StationNo) (a : NextAction) : State :=
  (s.updCtx n fun c => { c with next := a }).close n

/-- R21, R25, R39, R40: a VALID_BORROWER scan at an ACTIVE station. -/
def State.borrowerScan (s : State) (n : StationNo) (b : Nat) : State :=
  let c := (s.st n).ctx
  match c.tx with
  | .idle => s.borrowerInIdle n b
  | .checking | .held => s.tone n .held
  | .opened | .returns => if c.locked then s.tone n .locked else s.closeFor n (.borrower b)
  | .closing => (s.updCtx n fun c => { c with next := .borrower b }).tone n .busy

/-- R19: an entry of the list has this item number. -/
def Ctx.holdsItem (c : Ctx) (number : Nat) : Bool := c.items.any fun x => x.number == number

/-- R26, test 3: a 13th item. Tone REFUSE carries index 0, whether or not the record could be written (log entry
44). -/
def State.refuseListFull (s : State) (n : StationNo) (number : Nat) : State :=
  let s := (s.writeStation n { s.record .refusal (some n) with
    borrower := (s.st n).ctx.borrower, item := some number, reason := some .listFull }).2
  (s.tallyRefusal n).tone n .refuse

/-- R26: a VALID_ITEM scan taken in OPEN. -/
def State.itemInOpen (s : State) (n : StationNo) (number cls : Nat) (clamped : Bool) : State :=
  let c := (s.st n).ctx
  if c.holdsItem number then s.tone n .duplicate
  else if c.locked then s.tone n .locked
  else if Config.maxItems ≤ c.items.length then s.refuseListFull n number
  else if Config.maxAwaiting ≤ c.awaiting then s.tone n .busy
  else (s.addEntry n (.new number cls clamped)).checkCharge n c.items.length

/-- R33: a VALID_ITEM scan taken in RETURNS. -/
def State.itemInReturns (s : State) (n : StationNo) (number cls : Nat) (clamped : Bool) : State :=
  let c := (s.st n).ctx
  if c.holdsItem number then s.tone n .duplicate
  else if (s.st n).alerts.hold then s.tone n .held
  else if Config.maxItems ≤ c.items.length then s.closeFor n (.item number cls clamped)
  else if Config.maxAwaiting ≤ c.awaiting then s.tone n .busy
  else s.dischargeNew n number cls clamped

/-- R25, R26, R32, R33, R40: a VALID_ITEM scan at an ACTIVE station. -/
def State.itemScan (s : State) (n : StationNo) (number cls : Nat) (clamped : Bool) : State :=
  match (s.st n).ctx.tx with
  | .idle => s.itemInIdle n number cls clamped
  | .checking | .held => s.tone n .held
  | .opened => s.itemInOpen n number cls clamped
  | .returns => s.itemInReturns n number cls clamped
  | .closing => s.tone n .busy

/-- R14: a scan taken in ACTIVE. -/
def State.scanInActive (s : State) (n : StationNo) (o : ScanOutcome) : State :=
  match o with
  | .borrower b => s.borrowerScan n b
  | .item k cls clamped => s.itemScan n k cls clamped
  | .badge k => s.takeBadge n k
  | .badCheck | .badForm => (s.tallyBadScan n).tone n .badScan

/-- R13: whether a classification clamped the item class. -/
def ScanOutcome.clamped : ScanOutcome → Bool
  | .item _ _ c => c
  | _ => false

/-- R5, R7, R14: a decoded SCAN: the class mark, the history, then the handling by link state. -/
def State.takeScan (s : State) (n : StationNo) (symbol : Text) : State :=
  let o := classify symbol
  let s := ((s.wake n).stick { classClamped := o.clamped }).noteQuality n o.quality
  match (s.st n).line.link with
  | .check => s.scanInCheck n o
  | .active => s.scanInActive n o
  | .detached => s

/-! ### Keys -/

/-- R35: the CHARGE key. -/
def State.chargeKey (s : State) (n : StationNo) : State :=
  match (s.st n).ctx.tx with
  | .opened => s.close n
  | .idle | .checking | .returns => s.tone n .refuse
  | .held => s.tone n .held
  | .closing => s.tone n .busy

/-- R36: the RETURN key. -/
def State.returnKey (s : State) (n : StationNo) : State :=
  match (s.st n).ctx.tx with
  | .idle => s.openRun n .accept
  | .returns => s.close n
  | .opened => s.closeFor n .ret
  | .closing => (s.updCtx n fun c => { c with next := .ret }).tone n .busy
  | .checking => s.tone n .refuse
  | .held => s.tone n .held

/-- R37: the last entry of the list whose state is not VOID, by its index. -/
def Ctx.lastLive (c : Ctx) : Option Nat :=
  (List.range c.items.length).reverse.find? fun i => ((c.items[i]?).map fun x => decide (x.state ≠ .void)).getD false

/-- R19: an entry becomes VOID. -/
def Item.voided (x : Item) : Item := { x.settled with state := .void }

/-- R37: a granted charge is voided, record first. -/
def State.voidGrant (s : State) (n : StationNo) (i : Nat) (x : Item) : State :=
  let r := { s.record .void (some n) with
    flags := x.flags, borrower := (s.st n).ctx.borrower, item := some x.number }
  match s.writeStation n r with
  | (none, s) => s.journalFull n
  | (some _, s) =>
    let s := s.postLoan n (· - 1)
    let s := match x.chargeSeq with
      | some k => s.dropLoanOf k
      | none => s
    ((s.updItem n i Item.voided).updTallies n fun t => { t with voids := sat32 t.voids 1 }).tone n .accept

/-- R37: CANCEL in OPEN voids the last entry that is not VOID. -/
def State.cancelLast (s : State) (n : StationNo) : State :=
  match (s.st n).ctx.lastLive with
  | none => s.tone n .refuse
  | some i =>
    match s.entry n i with
    | none => s
    | some x =>
      match x.state with
      | .awaiting =>
        let s := (s.voidQuery x.query).updItem n i Item.voided
        (if x.waitsOverride then s.withdrawItemLimit n else s).tone n .accept
      | .granted => s.voidGrant n i x
      | .refused | .returned => (s.updItem n i Item.voided).tone n .accept
      | .void => s

/-- R37, R38: the CANCEL key. -/
def State.cancelKey (s : State) (n : StationNo) : State :=
  match (s.st n).ctx.tx with
  | .opened => s.cancelLast n
  | .returns => s.close n
  | .held => s.acknowledge n
  | .idle => s
  | .checking => s.tone n .refuse
  | .closing => s.tone n .busy

/-- R17: a key handed to the station controller. -/
def State.keyInActive (s : State) (n : StationNo) : Key → State
  | .charge => s.chargeKey n
  | .ret => s.returnKey n
  | .ack => s.acknowledge n
  | .cancel => s.cancelKey n

/-- R5, R7, R17: a decoded KEY. -/
def State.takeKey (s : State) (n : StationNo) (k : Key) : State :=
  let s := s.wake n
  match (s.st n).line.link with
  | .check => s.tone n .locked
  | .active => s.keyInActive n k
  | .detached => s

/-! ### Head status -/

/-- R10: the reported printer state; a state equal to the held one changes nothing. -/
def State.takePrinter (s : State) (n : StationNo) (p : Printer) : State :=
  if (s.st n).line.printer = p then s
  else (s.setPrinter n p).faultEvent n (s.st n).line.fault .none

/-- R10: the reported lock key position; a change asserts or releases the KEY source (R44). -/
def State.takeLockKey (s : State) (n : StationNo) (on : Bool) : State :=
  if (s.st n).line.lockKey = on then s
  else (s.updLine n fun l => { l with lockKey := on }).lockChange n fun c => { c with lockKeySrc := on }

/-- R3, R10: the reported line credit. -/
def State.takeCredit (s : State) (n : StationNo) (k : Nat) : State :=
  (s.updLine n fun l => { l with credit := k }).feed n

/-- R162: the first HEAD_STATUS after a reset sets the last printed token before its credit can let a slip start; a
later one takes the token after the credit only (R10; log entry 43). -/
def State.noteToken (s : State) (n : StationNo) (tok : Option Nat) : State :=
  s.updSlips n fun q => if q.reported then q else { q with lastPrinted := tok, reported := true }

/-- R10: a decoded HEAD_STATUS: printer state, lock key, credit, printed token, in that order. -/
def State.takeStatus (s : State) (n : StationNo) (r : HeadReport) : State :=
  let s := ((s.wake n).takePrinter n r.printer).takeLockKey n r.lockKey
  let s := (s.noteToken n r.token).takeCredit n r.credit
  (s.takeToken n r.token).checkSlip n r.token

/-! ### Meanings -/

/-- SCAN (R5, R7, R14). -/
def execScan (n : StationNo) (symbol : Text) (s : State) : Host.Outcome State Fault Refusal :=
  .next (if validSymbol symbol then s.fresh.takeScan n symbol else s.fresh)

/-- KEY (R17). -/
def execKey (n : StationNo) (k : Key) (s : State) : Host.Outcome State Fault Refusal := .next (s.fresh.takeKey n k)

/-- HEAD_STATUS (R10). -/
def execHeadStatus (n : StationNo) (r : HeadReport) (s : State) : Host.Outcome State Fault Refusal :=
  .next (if validReport r then s.fresh.takeStatus n r else s.fresh)

/-- ATTACH (R4). -/
def execAttach (n : StationNo) (s : State) : Host.Outcome State Fault Refusal := .next (s.fresh.enterCheck n)

/-- DESK_FRAME_DISCARDED (R1): no effect of any kind. -/
def execDeskFrameDiscarded (_n : StationNo) (_bytes : List Byte) (s : State) : Host.Outcome State Fault Refusal :=
  .next s.fresh

/-- R6: the silence timer of a line in CHECK or ACTIVE has reached 3 s. -/
def Line.isSilent (l : Line) : Bool :=
  decide (l.link ≠ .detached) &&
    match l.silence with
    | some t => decide (Config.silenceLimit ≤ t)
    | none => false

/-- SILENCE_TIMEOUT (R6); no effect while the timer has not reached 3 s (log entry 4). -/
def execSilenceTimeout (n : StationNo) (s : State) : Host.Outcome State Fault Refusal :=
  .next (if (s.st n).line.isSilent then s.fresh.fallSilent n else s.fresh)

/-- R42: the transaction timer of an OPEN or RETURNS transaction has reached 0. -/
def Ctx.timedOut (c : Ctx) : Bool :=
  decide (c.timer = .running 0) && (decide (c.tx = .opened) || decide (c.tx = .returns))

/-- TRANSACTION_TIMER_EXPIRY (R42). -/
def execTransactionTimerExpiry (n : StationNo) (s : State) : Host.Outcome State Fault Refusal :=
  .next (if (s.st n).ctx.timedOut then s.fresh.close n else s.fresh)

/-- SLIP_HOLD_EXPIRY (R159). -/
def execSlipHoldExpiry (n : StationNo) (s : State) : Host.Outcome State Fault Refusal :=
  .next (s.fresh.holdExpired n)

end Sys2Proof.Machine
end

