-- ==== Sys2Proof/Machine/Circulation.lean ====
section
/-! DEFINITION. Circulation.lean: replies and expiries of the circulation service with what they do at a station
(R112 to R120), the clock (R86), and the meanings of the service, clock and upload commands that are no management
messages. -/

namespace Sys2Proof.Machine

/-! ### Replies -/

/-- R112: the outcome of a reply to a query. -/
inductive ReplyOutcome where
  | found (f : Found)
  | unknown
  | grant (cls : Option Nat)
  | refuse (code : Nat)
  | onLoan (o : OnLoan)
  | notOnLoan
  deriving DecidableEq, Repr

/-- R208: an optional field of a REPLY, present when its presence bit is set. -/
def replyOpt (m : ReplyMsg) (bit v : Nat) : Option Nat := if m.presence.getLsbD bit then some v else none

/-- R112: the contents of a FOUND reply. -/
def replyFound (m : ReplyMsg) : Found :=
  { category := m.category, manual := replyOpt m 0 m.manual, expiry := replyOpt m 1 m.day, balance := m.balance,
    onLoan := m.onLoan, overdue := m.overdue }

/-- R112, R208: the kind of a reply, by its position among the kinds of query. -/
def replyKind? (m : ReplyMsg) : Option QueryKind :=
  [QueryKind.borrowerLookup, .chargeRequest, .dischargeRequest][m.kind]?

/-- R112: the outcome of a reply, when it is one of its kind; the codes are the positions of R112's table (log entry
22). An ON_LOAN reply whose borrower is not ten digits beginning with 2 has none. -/
def replyOutcome? (m : ReplyMsg) : Option ReplyOutcome :=
  match replyKind? m, m.outcome with
  | some .borrowerLookup, 0 => some (.found (replyFound m))
  | some .borrowerLookup, 1 => some .unknown
  | some .chargeRequest, 2 => some (.grant (replyOpt m 2 m.cls))
  | some .chargeRequest, 3 => some (.refuse m.reason)
  | some .dischargeRequest, 4 => (plainNumber 10 2 m.borrower).map fun b =>
      .onLoan { borrower := b, day := m.day, minute := m.minute, cls := m.cls, hold := decide (m.hold ≠ 0) }
  | some .dischargeRequest, 5 => some .notOnLoan
  | _, _ => none

/-- R208: the target of a reply: the borrower field of a BORROWER_LOOKUP reply, the item field of the others. -/
def replyTarget? (m : ReplyMsg) : Option Nat :=
  match replyKind? m with
  | some .borrowerLookup => plainNumber 10 2 m.borrower
  | some .chargeRequest | some .dischargeRequest => plainNumber 12 3 m.item
  | none => none

/-- R112: the reply matches an entry that stands for a question. -/
def replyAnswers (m : ReplyMsg) (e : QueryEntry) (q : Question) : Bool :=
  decide (m.gen = e.gen) && decide (replyKind? m = some q.kind) && decide (replyTarget? m = some q.target)

/-- The entry that a tag field names. -/
def tagOf (k : Nat) : Option Tag := if h : k < 16 then some ⟨k, h⟩ else none

/-- R113: the outcome of an item's query. -/
def ReplyOutcome.item? : ReplyOutcome → Option ItemOutcome
  | .grant cls => some (.grant cls)
  | .refuse code => some (.refuse code)
  | .onLoan o => some (.onLoan o)
  | .notOnLoan => some .notOnLoan
  | .found _ | .unknown => none

/-- An outcome handed to the item entry at a position, if the entry still holds the query. -/
def State.handItem (s : State) (n : StationNo) (position : Nat) (k : Tag × Nat) (o : ItemOutcome) : State :=
  match s.entry n (position - 1) with
  | some x => if x.query = some k then (s.takeOutcome n (position - 1) o).closeIfDone n else s
  | none => s

/-- The borrower whose check holds the query. -/
def State.checkedBy (s : State) (n : StationNo) (k : Tag × Nat) : Option Nat :=
  if (s.st n).ctx.lookup = some k then (s.st n).ctx.borrower else none

/-- R113: a timely outcome is handed to the station. -/
def State.handOutcome (s : State) (k : Tag × Nat) (q : Question) (o : ReplyOutcome) : State :=
  match q.kind, o with
  | .borrowerLookup, .found f =>
    match s.checkedBy q.station k with
    | some b => State.applyStaged (s.checkFound q.station b f) q.station
    | none => s
  | .borrowerLookup, .unknown =>
    match s.checkedBy q.station k with
    | some b => State.applyStaged (s.checkUnknown q.station b) q.station
    | none => s
  | _, o =>
    match o.item?, q.position with
    | some o, some p => s.handItem q.station p k o
    | _, _ => s

/-- R119: a CONFLICT record, counted and written on behalf of the station of the query. -/
def State.conflict (s : State) (q : Question) (r : Record) : State :=
  ((s.countService fun c => { c with conflicts := sat32 c.conflicts 1 }).write
    { r with kind := .conflict, station := some q.station, decidedBy := .fallback }).2

/-- R118: the comparison of an ON_LOAN reply with FINE_PENDING. DESIGN CHOICE (log entry 56): where no fine can be computed
the reply's class is not looked up, so that a class above 63 sets no CLASS_CLAMPED, with the clock UNSET as well. -/
def State.compareFine (s : State) (q : Question) (r : Record) (o : OnLoan) (at_ : Time) : State :=
  let r := { r with borrower := some o.borrower }
  let due : Time := ⟨o.day, min o.minute Config.lastMinute⟩
  let cat := s.fineCategory (some o.borrower)
  let index := s.ruleIndex? (clampClass o.cls) cat
  match (if s.canFine then index.bind fun i => s.fineFrom i cat due at_ else none) with
  | none => s.conflict q { r with detail := some .fineUnknown }
  | some f =>
    let flags := f.flags.union { classClamped := decide (Config.otherClass < o.cls) }
    let s := s.stick flags.sticky
    if f.fine = 0 then s
    else s.conflict q { r with
      detail := some .fineDiffers, due := some due, fine := some f.fine, ruleIndex := index,
      bankGen := some s.generation, flags := flags }

/-- R118: the comparison of a too-late reply with the kept lapse decision. -/
def State.compareLate (s : State) (q : Question) (d : LapseDecision) (o : ReplyOutcome) : State :=
  let base := s.record .conflict (some q.station)
  let charge := { base with borrower := q.borrower, item := some q.target }
  match d, o with
  | .grant, .refuse code =>
    s.conflict q { charge with detail := some .serverRefused, reason := some (.server code) }
  | .void, .grant _ => s.conflict q { charge with detail := some .voidedGrant }
  | .finePending at_, .onLoan x => s.compareFine q { base with item := some q.target } x at_
  | .admitted, .unknown => s.conflict q { base with borrower := some q.target, detail := some .unknownAdmitted }
  | _, _ => s

/-- R117: a too-late reply. -/
def State.takeLate (s : State) (t : Tag) (q : Question) (d : LapseDecision) (o : ReplyOutcome) : State :=
  let s := s.compareLate q d o
  let s := match o with
    | .found f => s.takeFound q.target f
    | _ => s
  ((s.freeQuery t).countService fun c => { c with tooLate := sat32 c.tooLate 1 }).matchedReply

/-- R113, R117, R121: a REPLY: timely, too late or stale. -/
def State.takeReply (s : State) (m : ReplyMsg) : State :=
  match tagOf m.tag, replyOutcome? m with
  | some t, some o =>
    let e := s.queries[t]
    match e.state with
    | .waiting q _ =>
      if replyAnswers m e q then s.whileLinkUp (((s.freeQuery t).matchedReply).handOutcome (t, e.gen) q o)
      else s.staleReply
    | .lapsed q _ d => if replyAnswers m e q then s.whileLinkUp (s.takeLate t q d o) else s.staleReply
    | .free => s.staleReply
  | _, _ => s.staleReply

/-! ### Patience and linger -/

/-- R115: the decision that the station names at the lapse of its query. -/
def State.lapseDecision (s : State) (q : Question) : LapseDecision :=
  match q.kind with
  | .chargeRequest => .grant
  | .dischargeRequest => .finePending s.now
  | .borrowerLookup =>
    if (s.borrower? q.target).isSome ∨ s.service.policy = .admits then .admitted else .refused

/-- R114, step 4: the station decides by fallback or parks the lapse. -/
def State.handLapse (s : State) (k : Tag × Nat) (q : Question) : State :=
  match q.kind, q.position with
  | .borrowerLookup, _ =>
    match s.checkedBy q.station k with
    | some b => State.applyStaged (s.checkWithout q.station b .fallback) q.station
    | none => s
  | _, some p => s.handItem q.station p k .lapse
  | _, none => s

/-- R114: the patience of a WAITING query has run out. -/
def State.patienceExpired (s : State) (t : Tag) : State :=
  match s.queries[t].state with
  | .waiting q 0 =>
    let s := s.countTimeout
    (s.lapse t (s.lapseDecision q)).handLapse (t, s.queries[t].gen) q
  | _ => s

/-- R120: the linger of a LAPSED entry ends. -/
def State.lingerEnded (s : State) (t : Tag) : State :=
  match s.queries[t].state with
  | .lapsed _ 0 _ => s.freeQuery t
  | _ => s

/-! ### The seconds timebase -/

/-- One second of a station's timers: silence, transaction timer, fault timer. -/
def Station.second (t : Station) : Station :=
  { t with
    line := { t.line with silence := t.line.silence.map fun k => min Config.silenceLimit (k + 1) }
    ctx := { t.ctx with timer := match t.ctx.timer with
      | .running k => .running (k - 1)
      | x => x }
    slips := { t.slips with faultTimer := t.slips.faultTimer.map fun k => min 3600 (k + 1) } }

/-- R114, R120: one second of a query's countdown. -/
def QueryState.second : QueryState → QueryState
  | .free => .free
  | .waiting q k => .waiting q (k - 1)
  | .lapsed q k d => .lapsed q (k - 1) d

/-- One second of every timer that counts seconds (log entry 4). -/
def State.countSecond (s : State) : State :=
  { s with
    stations := s.stations.map Station.second
    queries := s.queries.map fun e => { e with state := e.state.second }
    service := { s.service with probeTimer := s.service.probeTimer.map (· - 1) }
    upload := { s.upload with wait := s.upload.wait.map (· - 1) } }

/-- R86: a minute arrival, or the held clock passing a minute. -/
def State.rollMinute (s : State) : State :=
  let c := s.clock
  if c.minute < Config.lastMinute then
    State.minuteToUpload { s with clock := { c with second := 0, minute := c.minute + 1 } }
  else if c.day < Config.lastDay then
    State.minuteToUpload { s with clock := { c with second := 0, minute := 0, day := c.day + 1 } }
  else State.stick { s with clock := { c with second := 0, held := true } } { clockClamped := true }

/-- R86: one second of the timebase. -/
def State.tick (s : State) : State :=
  let s := s.countSecond
  if s.clock.second < 59 then { s with clock := { s.clock with second := s.clock.second + 1 } } else s.rollMinute

/-! ### Meanings -/

/-- REPLY (R112). -/
def execReply (m : ReplyMsg) (s : State) : Host.Outcome State Fault Refusal := .next (s.fresh.takeReply m)

/-- QUERY_PATIENCE_EXPIRY (R114). -/
def execQueryPatienceExpiry (t : Tag) (s : State) : Host.Outcome State Fault Refusal := .next (s.fresh.patienceExpired t)

/-- LINGER_END (R120). -/
def execLingerEnd (t : Tag) (s : State) : Host.Outcome State Fault Refusal := .next (s.fresh.lingerEnded t)

/-- PROBE_TIMER_EXPIRY (R125). -/
def execProbeTimerExpiry (s : State) : Host.Outcome State Fault Refusal := .next s.fresh.probeExpired

/-- PROBE_ANSWER (R125). -/
def execProbeAnswer (gen : Nat) (s : State) : Host.Outcome State Fault Refusal := .next (s.fresh.probeAnswered gen)

/-- TRUNK_LINK_DOWN (R124). -/
def execTrunkLinkDown (s : State) : Host.Outcome State Fault Refusal := .next s.fresh.linkWentDown

/-- TRUNK_LINK_UP (R124, R205). -/
def execTrunkLinkUp (s : State) : Host.Outcome State Fault Refusal := .next s.fresh.linkCameUp

/-- TRUNK_MESSAGE_DISCARDED (R197): no effect. -/
def execTrunkMessageDiscarded (_bytes : List Byte) (s : State) : Host.Outcome State Fault Refusal := .next s.fresh

/-- SECOND_TICK (R86). -/
def execSecondTick (s : State) : Host.Outcome State Fault Refusal := .next s.fresh.tick

/-- MINUTE_ARRIVAL (R86): the second that rolls the minute over; no effect at any other second (log entry 5). -/
def execMinuteArrival (s : State) : Host.Outcome State Fault Refusal :=
  .next (if s.clock.second < 59 then s.fresh else s.fresh.tick)

/-- SEND_COMPLETION (R188). -/
def execSendCompletion (s : State) : Host.Outcome State Fault Refusal := .next s.fresh.sendCompleted

/-- RECEIPT (R190). -/
def execReceipt (m : ReceiptMsg) (s : State) : Host.Outcome State Fault Refusal := .next (s.fresh.takeReceipt m)

/-- RECEIPT_PATIENCE_EXPIRY (R191). -/
def execReceiptPatienceExpiry (s : State) : Host.Outcome State Fault Refusal := .next s.fresh.receiptExpired

/-- WINDOW_END (R193). -/
def execWindowEnd (s : State) : Host.Outcome State Fault Refusal := .next s.fresh.windowEnded

end Sys2Proof.Machine
end

