-- ==== Sys2Proof/Machine/Management.lean ====
section
/-! DEFINITION. Management.lean: the management commands of 11.6: for each the parser of its body (R209), its effect and
its answer, and its meaning. A message that arrives while a restart is in progress is held (R207). -/

namespace Sys2Proof.Machine

/-! ### Messages and responses -/

/-- R198: the result and the body of a response. -/
structure Answer where
  result : Result
  body : List Byte
  deriving DecidableEq, Repr

/-- DONE with an empty body. -/
def Answer.done : Answer := ⟨.done, []⟩

/-- R198: the single response to a management message. -/
def State.respond (s : State) (tok : Token) (code : Byte) (a : Answer) : State :=
  s.sendTrunk (.response tok code a.result a.body)

/-- R198, R207: a management message is taken and answered, or held while a restart is in progress. What its handling
sends leaves first and the response last (log entry 49). -/
def State.manage (s : State) (i : Instr) (tok : Token) (code : Byte) (run : State → State × Answer) : State :=
  if s.mgmt.restarting then { s with mgmt := { s.mgmt with held := s.mgmt.held ++ [i] } }
  else (run s).1.respond tok code (run s).2

/-- R199, R209: a body is parsed; a refused field is answered BAD_FIELD with its offset, and nothing changes. -/
def withBody {α : Type} (p : Body α) (body : List Byte) (f : α → State → State × Answer) (s : State) :
    State × Answer :=
  match parseBody p body with
  | .error off => (s, ⟨.badField, be 2 off⟩)
  | .ok a => f a s

/-- A command without fields. -/
def noFields : Body Unit := return ()

/-- R199: CLAMPED with the fields as applied, when any was clamped; else DONE. -/
def clampedOr (clamped : Bool) (fields : List Byte) : Answer := if clamped then ⟨.clamped, fields⟩ else .done

/-- A clamped quantity that may be absent. -/
def clampOpt (lo hi : Nat) (v : Option Nat) : Option Nat := v.map (clampTo lo hi)

/-! ### Tables (R64 to R70) -/

/-- R64: the fields of BORROWER_PUT. -/
def borrowerPutBody : Body Borrower := do
  let number ← Body.identifier .borrower
  let category ← Body.nat 1 0 15
  let manual ← Body.optional 1 (Body.quantity 1)
  let expiry ← Body.optional 2 (Body.quantity 2)
  let balance ← Body.quantity 3
  let onLoan ← Body.quantity 1
  let overdue ← Body.quantity 1
  return { number, origin := .loaded, category, manual, expiry, balance, onLoan, overdue, changed := false,
           inFlight := false }

/-- R64: BORROWER_PUT. -/
def State.putBorrowerEntry (e : Borrower) (s : State) : State × Answer :=
  match s.borrower? e.number with
  | some _ => ({ s.setBorrower e with recency := s.recency.filter (· != e.number) }, .done)
  | none =>
    match s.createBorrower e with
    | some s => (s, .done)
    | none => (s, ⟨.tableFull, []⟩)

/-- R65, R59: BORROWER_DELETE. -/
def State.deleteBorrower (b : Nat) (s : State) : State × Answer :=
  match s.borrower? b with
  | some e => ((s.dropBorrower b).mapCtx fun c => c.untrack e, .done)
  | none => (s, ⟨.notFound, []⟩)

/-- R66: the fields of an entry, its origin, both marks and its position in the recency list. -/
def State.borrowerBytes (s : State) (e : Borrower) : List Byte :=
  digits 10 e.number ++ [byte e.category] ++ optionalField 1 (e.manual.map (be 1)) ++
    optionalField 2 (e.expiry.map (be 2)) ++ be 3 e.balance ++ [byte e.onLoan, byte e.overdue, byte e.origin.ctorIdx] ++
    yesNo e.changed ++ yesNo e.inFlight ++
    optionalField 2 (if e.origin = .learned then some (be 2 (s.recency.idxOf e.number + 1)) else none)

/-- R66: BORROWER_READ. -/
def State.readBorrower (b : Nat) (s : State) : State × Answer :=
  match s.borrower? b with
  | some e => (s, ⟨.done, s.borrowerBytes e⟩)
  | none => (s, ⟨.notFound, []⟩)

/-- R68: the fields of ITEM_PUT; a hold borrower given with another kind is not read. -/
def itemPutBody : Body ItemException := do
  let item ← Body.identifier .item
  let kind ← Body.nat 1 0 3
  let off ← Body.here
  let holder ← Body.optional 11 (Body.field 11 fun bs => some (identifier .borrower bs))
  match kind, holder with
  | 0, none => Body.refuse off
  | 0, some none => Body.refuse (off + 1)
  | 0, some (some b) => return ⟨item, .hold b⟩
  | 1, _ => return ⟨item, .reference⟩
  | 2, _ => return ⟨item, .missing⟩
  | _, _ => return ⟨item, .withdrawn⟩

/-- R68: ITEM_PUT. -/
def State.putItem (e : ItemException) (s : State) : State × Answer :=
  if (s.exception? e.item).isSome ∨ s.exceptions.length < Config.maxExceptions then
    ({ s with exceptions := putException e s.exceptions }, .done)
  else (s, ⟨.tableFull, []⟩)

/-- R68: ITEM_DELETE. -/
def State.deleteItem (item : Nat) (s : State) : State × Answer :=
  if (s.exception? item).isSome then (s.dropException item, .done) else (s, ⟨.notFound, []⟩)

/-- R70: BADGE_SET. -/
def State.setBadges (ks : List Nat) (s : State) : State × Answer := ({ s with badges := numberSet ks }, .done)

/-! ### Rule banks (R72 to R80) -/

/-- R72: the completeness of a bank. -/
def Bank.completeness (b : Bank) : List Byte :=
  [byte (loadedCount b.rules.toList), byte (loadedCount b.matrix.toList), byte (loadedCount b.categories.toList)] ++
    yesNo b.settings.isSome ++ yesNo b.header.isSome

/-- R72: a load of the shadow bank: its answer carries the completeness, a refused one beside the offset. -/
def withLoad {α : Type} (p : Body α) (body : List Byte) (f : α → Bank → Bank) (s : State) : State × Answer :=
  match parseBody p body with
  | .error off => (s, ⟨.badField, be 2 off ++ s.shadowBank.completeness⟩)
  | .ok a => (s.setShadow (f a s.shadowBank), ⟨.done, (f a s.shadowBank).completeness⟩)

/-- R73: the fields of RULE_LOAD. -/
def ruleBody : Body (Nat × Rule) := do
  let index ← Body.nat 1 0 31
  let unit ← Body.enum [PeriodUnit.days, .hours]
  let period ← Body.nat 2 1 (match unit with
    | .days => 365
    | .hours => 24)
  let rate ← Body.quantity 2
  let grace ← Body.nat 1 0 7
  let cap ← Body.nat 3 1 Config.maxMoney
  let count ← Body.enum [CountMode.allDays, .openDays]
  return (index, { unit, period, rate, grace, cap, count })

/-- R73: RULE_LOAD. -/
def Bank.loadRule (r : Nat × Rule) (b : Bank) : Bank := { b with rules := b.rules.setIfInBounds r.1 (some r.2) }

/-- R74: the fields of MATRIX_LOAD. -/
def matrixBody : Body (Nat × List Nat) := do
  let cls ← Body.nat 1 0 63
  let cells ← Body.list 16 16 (Body.nat 1 0 31)
  return (cls, cells)

/-- R74: MATRIX_LOAD. -/
def Bank.loadRow (r : Nat × List Nat) (b : Bank) : Bank := { b with matrix := b.matrix.setIfInBounds r.1 (some r.2) }

/-- R75: the fields of CATEGORY_LOAD. -/
def categoryBody : Body (Nat × Category) := do
  let index ← Body.nat 1 0 15
  let itemsLimit ← Body.quantity 1
  let overdueLimit ← Body.quantity 1
  let fineThreshold ← Body.quantity 3
  let multiplier ← Body.nat 2 0 1023
  return (index, { itemsLimit, overdueLimit, fineThreshold, multiplier })

/-- R75: CATEGORY_LOAD. -/
def Bank.loadCategory (r : Nat × Category) (b : Bank) : Bank :=
  { b with categories := b.categories.setIfInBounds r.1 (some r.2) }

/-- R76: the fields of BANK_SETTINGS_LOAD. -/
def settingsBody : Body Settings := do
  let unit ← Body.field 1 fun bs => if beNat bs ∈ [1, 2, 5, 10, 20, 25, 50, 100] then some (beNat bs) else none
  let mode ← Body.enum [Rounding.truncate, .nearestEven]
  return { unit, mode }

/-- R76: BANK_SETTINGS_LOAD. -/
def Bank.loadSettings (r : Settings) (b : Bank) : Bank := { b with settings := some r }

/-- R77, R209: a base date, one field of four bytes (log entry 17). -/
def dateBody : Body Date :=
  Body.field 4 fun bs =>
    let d : Date := { year := beNat (bs.take 2), month := beNat ((bs.drop 2).take 1), day := beNat (bs.drop 3) }
    if d.valid then some d else none

/-- R77, R209: one pair of opening hours, one field of four bytes (log entry 17). -/
def hoursBody : Body (Nat × Nat) :=
  Body.field 4 fun bs =>
    let opens := beNat (bs.take 2)
    let closes := beNat (bs.drop 2)
    if opens < closes ∧ closes ≤ Config.lastMinute then some (opens, closes) else none

/-- R77: the fields of CALENDAR_LOAD. -/
def calendarBody : Body Header := do
  let base ← Body.nat 2 0 65024
  let date ← dateBody
  let weekday ← Body.field 1 fun bs => if beNat bs ≤ 6 ∧ beNat bs = date.weekday then some (beNat bs) else none
  let weekly ← Body.nat 1 0 127
  let hours ← Body.many hoursBody 7
  return { base, date, weekday, weekly := byte weekly, hours := Vector.ofFn fun i => hours.getD i.val (0, 0) }

/-- R77: the dates of a list that stay when the header becomes `h`. -/
def keptDates (old : Option Header) (h : Header) (ds : List Nat) : List Nat :=
  match old with
  | some o => if o.base = h.base then ds else ds.filter h.inWindow
  | none => ds

/-- R77: CALENDAR_LOAD. -/
def Bank.loadCalendar (h : Header) (b : Bank) : Bank :=
  { b with header := some h, closedDates := keptDates b.header h b.closedDates,
           openDates := keptDates b.header h b.openDates }

/-- R77: the answer of CALENDAR_LOAD carries the numbers of removed dates. -/
def State.loadCalendar (body : List Byte) (s : State) : State × Answer :=
  match parseBody calendarBody body with
  | .error off => (s, ⟨.badField, be 2 off ++ s.shadowBank.completeness⟩)
  | .ok h =>
    let old := s.shadowBank
    let new := old.loadCalendar h
    (s.setShadow new, ⟨.done, new.completeness ++ [byte (old.closedDates.length - new.closedDates.length),
      byte (old.openDates.length - new.openDates.length)]⟩)

/-- R78: the fields of a date list: at most `most` days, each in the window of the shadow header. -/
def datesBody (h : Option Header) (most : Nat) : Body (List Nat) :=
  match h with
  | none => Body.refuse 0
  | some h => Body.list 0 most (Body.field 2 fun bs => if h.inWindow (beNat bs) then some (beNat bs) else none)

/-- R78: CLOSED_DATES_LOAD. -/
def Bank.loadClosed (ds : List Nat) (b : Bank) : Bank := { b with closedDates := numberSet ds }

/-- R78: OPEN_DATES_LOAD. -/
def Bank.loadOpen (ds : List Nat) (b : Bank) : Bank := { b with openDates := numberSet ds }

/-- R72: the selector's other bank. -/
def BankName.other : BankName → BankName
  | .a => .b
  | .b => .a

/-- R80: BANK_SWAP: the swap, its record, then the alarm and the ALARM condition (log entry 9). -/
def State.swapBanks (s : State) : State × Answer :=
  if s.shadowBank.complete then
    let gen := (s.generation + 1) % 256
    let s := { s with active := s.active.other, generation := gen }
    let s := s.deviceEvent .bankSwapped (some gen)
    ((s.setAlarms fun a => { a with rulesInvalid := { a.rulesInvalid with active := !s.activeBank.complete } }).settle, .done)
  else (s, ⟨.bankIncomplete, []⟩)

/-! ### Clock (R87) -/

/-- R87: the fields of CLOCK_SET. -/
def clockBody : Body (Nat × Nat × Nat) := do
  let day ← Body.quantity 2
  let minute ← Body.nat 2 0 Config.lastMinute
  let second ← Body.nat 1 0 59
  return (day, minute, second)

/-- R87, R88: CLOCK_SET: the clock, its record, the end of CLOCK_UNSET, then the arrival of a whole minute (log entry
9). -/
def State.setClock (v : Nat × Nat × Nat) (s : State) : State × Answer :=
  let s := { s with clock := { day := v.1, minute := v.2.1, second := v.2.2, isSet := true, held := false } }
  let s := s.deviceEvent .clockSet none
  let s := (s.setAlarms fun a => { a with clockUnset := { a.clockUnset with active := false } }).settle
  (if v.2.2 = 0 then s.minuteToUpload else s, .done)

/-! ### Stations (R16, R18, R43 to R47, R160) -/

/-- R45: STATION_LOCK and STATION_UNLOCK, the stations named in order from 0 to 7 (DESIGN CHOICE, log entry 51). -/
def State.commandLock (on : Bool) (ns : List StationNo) (s : State) : State × Answer :=
  (ns.foldl (fun s n => s.lockChange n fun c => { c with lockCommand := on }) s, .done)

/-- R18, R47, R148: STATION_CLEAR. -/
def State.clearStation (n : StationNo) (s : State) : State × Answer :=
  let checked := decide ((s.st n).line.link = .check)
  let s := (s.forceClose n false).updSlips n (·.release)
  let s := s.updLine n fun l => { l with history := [], link := if checked then .active else l.link }
  let s := s.emptyAlerts n (s.st n).line.fault
  (if checked then s.tone n .none else s, .done)

/-- R16, R43, R160: the fields of DESK_CONFIG: the stations with their byte, T, the period and the hold time. -/
def deskConfigBody : Body (List StationNo × Nat × Nat × Nat) := do
  let ns ← Body.stations
  let threshold ← Body.quantity 1
  let period ← Body.quantity 2
  let hold ← Body.quantity 2
  return (ns, threshold, period, hold)

/-- R16, R43, R160: DESK_CONFIG at one station; the new hold time is compared with the fault timer at once. -/
def State.configureDesk (threshold period hold : Nat) (s : State) (n : StationNo) : State :=
  (((s.updLine n fun l => { l with threshold := threshold }).updCtx n fun c => { c with period := period }).updSlips n
    fun q => { q with holdTime := hold }).holdExpired n

/-- R208: the station field that named these stations. -/
def stationField (ns : List StationNo) : List Byte :=
  match ns with
  | [n] => [byte n.val]
  | _ => [255]

/-- R16, R43, R160: DESK_CONFIG. DESIGN CHOICE (log entry 51): the stations named take it in order from station 0 to
station 7, and so their discards and SLIP_LOST records come in that order. -/
def State.deskConfigured (v : List StationNo × Nat × Nat × Nat) (s : State) : State × Answer :=
  let threshold := clampTo 0 8 v.2.1
  let period := clampTo 5 600 v.2.2.1
  let hold := clampTo 60 3600 v.2.2.2
  (v.1.foldl (State.configureDesk threshold period hold) s,
    clampedOr (!decide ((threshold, period, hold) = v.2))
      (stationField v.1 ++ [byte threshold] ++ be 2 period ++ be 2 hold))

/-! ### Alerts (R144 to R147) -/

/-- A level field. -/
def levelBody : Body Level := Body.enum Level.all

/-- R144: the fields of ALERT_CONFIG. -/
def alertConfigBody : Body (List StationNo × AlertFields) := do
  let ns ← Body.stations
  let mask ← Body.optional 1 (Body.quantity 1)
  let holdSet ← Body.optional 1 (Body.quantity 1)
  let autoAck ← Body.optional 1 (Body.field 1 fun bs => if beNat bs % 64 = 0 then some (beNat bs) else none)
  let mode ← Body.optional 1 (Body.enum [PriorityMode.fixed, .rotating])
  let bottom ← Body.optional 1 levelBody
  return (ns, { mask := mask.map LevelSet.ofBits, holdSet := holdSet.map LevelSet.ofBits,
                autoAck := autoAck.map LevelSet.ofBits, mode, bottom })

/-- R209: the fields of an ALERT_CONFIG as carried. -/
def AlertFields.bytes (f : AlertFields) : List Byte :=
  optionalField 1 (f.mask.map fun x => be 1 x.bits) ++ optionalField 1 (f.holdSet.map fun x => be 1 x.bits) ++
    optionalField 1 (f.autoAck.map fun x => be 1 x.bits) ++ optionalField 1 (f.mode.map fun x => be 1 x.ctorIdx) ++
    optionalField 1 (f.bottom.map fun x => [levelByte (some x)])

/-- R144, R145: an ALERT_CONFIG at one station: applied in IDLE, staged otherwise. -/
def State.configureAlerts (f : AlertFields) (s : State) (n : StationNo) : State :=
  if (s.st n).ctx.tx = .idle then (s.updAlerts n fun r => r.configure f).endEvent n .none id
  else s.updAlerts n fun r => { r with staged := some f }

/-- R144: ALERT_CONFIG, the stations named in order from 0 to 7 (DESIGN CHOICE, log entry 51). -/
def State.alertsConfigured (v : List StationNo × AlertFields) (s : State) : State × Answer :=
  let deferred := v.1.any fun n => decide ((s.st n).ctx.tx ≠ .idle)
  (v.1.foldl (State.configureAlerts v.2) s,
    if deferred then ⟨.deferred, stationField v.1 ++ v.2.bytes⟩ else .done)

/-- R146: the contents of ALERT_POLL. DESIGN CHOICE (log entry 54): a displayed level of none is sent as in a DISPLAY frame
(R208): 255, here with index 0. -/
def Resolver.bytes (r : Resolver) : List Byte :=
  be 1 r.pending.bits ++ be 1 r.inService.bits ++ be 1 r.mask.bits ++ be 1 r.holdSet.bits ++ be 1 r.autoAck.bits ++
    [byte r.mode.ctorIdx, levelByte (some r.bottom), levelByte (some r.lowest), levelByte r.displayed, byte r.showing.2] ++
    optionalField 1 (r.origin.map fun o => be 1 o.ctorIdx) ++ yesNo r.staged.isSome

/-- R146: ALERT_POLL. -/
def State.pollAlerts (n : StationNo) (s : State) : State × Answer := (s, ⟨.done, (s.st n).alerts.bytes⟩)

/-- R147: the fields of ALERT_CLEAR. -/
def alertClearBody : Body (StationNo × Level) := do
  let n ← Body.station
  let l ← levelBody
  return (n, l)

/-- R147: ALERT_CLEAR. -/
def State.clearAlert (v : StationNo × Level) (s : State) : State × Answer :=
  let r := (s.st v.1).alerts
  if r.pending.mem v.2 || r.inService.mem v.2 then (s.clearLevel v.1 v.2, .done) else (s, ⟨.notFound, []⟩)

/-! ### Service (R130) -/

/-- The fields of SERVICE_CONFIG. -/
structure ServiceFields where
  patience : Option Nat
  trip : Option Nat
  interval : Option Nat
  policy : Option Policy
  deriving DecidableEq, Repr

/-- R130: the fields of SERVICE_CONFIG. -/
def serviceConfigBody : Body ServiceFields := do
  let patience ← Body.optional 1 (Body.quantity 1)
  let trip ← Body.optional 1 (Body.quantity 1)
  let interval ← Body.optional 2 (Body.quantity 2)
  let policy ← Body.optional 1 (Body.enum [Policy.admits, .refuse])
  return { patience, trip, interval, policy }

/-- R130: the quantities held within their ranges. -/
def ServiceFields.clamp (f : ServiceFields) : ServiceFields :=
  { f with patience := clampOpt 1 30 f.patience, trip := clampOpt 1 15 f.trip, interval := clampOpt 10 300 f.interval }

/-- R209: the fields of a SERVICE_CONFIG. -/
def ServiceFields.bytes (f : ServiceFields) : List Byte :=
  optionalField 1 (f.patience.map (be 1)) ++ optionalField 1 (f.trip.map (be 1)) ++
    optionalField 2 (f.interval.map (be 2)) ++ optionalField 1 (f.policy.map fun p => be 1 p.ctorIdx)

/-- R130: the settings of the service link with the fields present. -/
def Service.configure (v : Service) (f : ServiceFields) : Service :=
  { v with patience := f.patience.getD v.patience, trip := f.trip.getD v.trip, interval := f.interval.getD v.interval,
           policy := f.policy.getD v.policy }

/-- R130: SERVICE_CONFIG; the trip is compared with the count at once. -/
def State.serviceConfigured (f : ServiceFields) (s : State) : State × Answer :=
  ((s.updService fun v => v.configure f.clamp).reviewTrip, clampedOr (!decide (f.clamp = f)) f.clamp.bytes)

/-! ### Upload (R179 to R182, R194) -/

/-- R179: the fields of UPLOAD_PROGRAM. -/
def programBody : Body Program := do
  let kinds ← Body.list 16 16 (Body.enum [SectionKind.journal, .borrowerChanges, .pendingLoans, .tallies, .empty])
  let start ← Body.nat 1 0 15
  let stop ← Body.nat 1 0 15
  return { slots := Vector.ofFn fun i => kinds.getD i.val .empty, start, stop }

/-- R209: the fields of an UPLOAD_PROGRAM. -/
def Program.bytes (p : Program) : List Byte :=
  listField (p.slots.toList.map fun k => [byte k.ctorIdx]) ++ [byte p.start, byte p.stop]

/-- R179, R181: UPLOAD_PROGRAM. -/
def State.programLoaded (p : Program) (s : State) : State × Answer :=
  if s.upload.run = .idle then (s.updUpload fun u => { u with program := p }, .done)
  else (s.updUpload fun u => { u with defProgram := some p }, ⟨.deferred, p.bytes⟩)

/-- R180: the fields of UPLOAD_CONFIG. -/
def uploadConfigBody : Body UploadFields := do
  let mode ← Body.optional 1 (Body.enum [UploadMode.nightly, .continuous])
  let windowStart ← Body.optional 2 (Body.quantity 2)
  let windowLength ← Body.optional 2 (Body.quantity 2)
  let patience ← Body.optional 1 (Body.quantity 1)
  let attempts ← Body.optional 1 (Body.quantity 1)
  return { mode, windowStart, windowLength, patience, attempts }

/-- R180: the quantities held within their ranges. -/
def UploadFields.clamp (f : UploadFields) : UploadFields :=
  { f with windowStart := clampOpt 0 1439 f.windowStart, windowLength := clampOpt 30 720 f.windowLength,
           patience := clampOpt 1 60 f.patience, attempts := clampOpt 1 8 f.attempts }

/-- R209: the fields of an UPLOAD_CONFIG. -/
def UploadFields.bytes (f : UploadFields) : List Byte :=
  optionalField 1 (f.mode.map fun m => be 1 m.ctorIdx) ++ optionalField 2 (f.windowStart.map (be 2)) ++
    optionalField 2 (f.windowLength.map (be 2)) ++ optionalField 1 (f.patience.map (be 1)) ++
    optionalField 1 (f.attempts.map (be 1))

/-- R180, R181: UPLOAD_CONFIG. -/
def State.uploadConfigured (f : UploadFields) (s : State) : State × Answer :=
  if s.upload.run = .idle then
    (s.updUpload fun u => { u with config := u.config.apply f.clamp }, clampedOr (!decide (f.clamp = f)) f.clamp.bytes)
  else (s.updUpload fun u => { u with defConfig := some f.clamp }, ⟨.deferred, f.clamp.bytes⟩)

/-- R182: UPLOAD_TRIGGER. -/
def State.triggered (s : State) : State × Answer :=
  if s.upload.run = .idle then (s.startRun, .done) else (s, ⟨.runInProgress, []⟩)

/-- R194: UPLOAD_STOP. -/
def State.stopped (s : State) : State × Answer :=
  if s.upload.run = .idle then (s, ⟨.notFound, []⟩) else (s.stopRun, .done)

/-! ### Journal and alarms (R174, R175, R203) -/

/-- An ON/OFF field that may be absent: true for ON (log entry 18). -/
def switchBody : Body (Option Bool) := Body.optional 1 (Body.enum [true, false])

/-- R174: the fields of JOURNAL_CONFIG. -/
def journalConfigBody : Body (Option Nat × Option Bool × Option Bool) := do
  let low ← Body.optional 1 (Body.quantity 1)
  let lowEnable ← switchBody
  let fullEnable ← switchBody
  return (low, lowEnable, fullEnable)

/-- A lockout enable set by a field that may be absent. -/
def Alarm.setEnable (a : Alarm) (v : Option Bool) : Alarm := { a with enable := v.getD a.enable }

/-- R209: an ON/OFF field that may be absent. -/
def switchBytes (v : Option Bool) : List Byte := optionalField 1 (v.map firstOf)

/-- R174: JOURNAL_CONFIG: the three fields are set, JOURNAL_LOW is evaluated, and the ALARM condition once after it (log
entry 45). -/
def State.journalConfigured (v : Option Nat × Option Bool × Option Bool) (s : State) : State × Answer :=
  let low := clampOpt 0 32 v.1
  let s := { s with journal := { s.journal with lowMark := low.getD s.journal.lowMark } }
  let s := s.setAlarms fun a => { a with
    journalLow := a.journalLow.setEnable v.2.1, journalFull := a.journalFull.setEnable v.2.2 }
  (s.evalLow.settle, clampedOr (!decide (low = v.1))
    (optionalField 1 (low.map (be 1)) ++ switchBytes v.2.1 ++ switchBytes v.2.2))

/-- R175: JOURNAL_CLEAR. -/
def State.clearJournal (s : State) : State × Answer :=
  if s.upload.run = .idle then
    let s := { s with journal := { s.journal with pages := pagesReset }, loans := [] }
    ((s.deviceEvent .journalCleared none).evalJournal.settle, .done)
  else (s, ⟨.runInProgress, []⟩)

/-- R203: the fields of ALARM_CONFIG. -/
def alarmConfigBody : Body (Option Bool × Option Bool) := do
  let rules ← switchBody
  let clock ← switchBody
  return (rules, clock)

/-- R203: ALARM_CONFIG. -/
def State.alarmsConfigured (v : Option Bool × Option Bool) (s : State) : State × Answer :=
  ((s.setAlarms fun a => { a with
    rulesInvalid := a.rulesInvalid.setEnable v.1, clockUnset := a.clockUnset.setEnable v.2 }).settle, .done)

/-! ### Snapshots, flags and status (R109, R200 to R202) -/

/-- R200: the three snapshot groups. -/
inductive Group where
  | stationTallies | serviceStats | journalState
  deriving DecidableEq, Repr

/-- R200: a group field. -/
def groupBody : Body Group := Body.enum [Group.stationTallies, .serviceStats, .journalState]

/-- R176: the journal's values as they stand. -/
def State.journalSnap (s : State) : JournalSnap :=
  { free := s.journal.free, sealed := s.journal.countOf .sealed, sent := s.journal.countOf .sent,
    filling := match s.journal.filling? with
      | some i => s.journal.pages[i].records.length
      | none => 0
    oldest := s.journal.oldestSeq, next := s.journal.counter, overflow := s.journal.overflow }

/-- R200: whether a group is held. -/
def Mgmt.isHeld (m : Mgmt) : Group → Bool
  | .stationTallies => m.snapTallies.isSome
  | .serviceStats => m.snapService.isSome
  | .journalState => m.snapJournal.isSome

/-- R200: a group's values copied. -/
def State.copyGroup (s : State) (g : Group) : State :=
  { s with mgmt := match g with
    | .stationTallies => { s.mgmt with snapTallies := some (s.stations.toList.map (·.tallies)) }
    | .serviceStats => { s.mgmt with snapService := some s.service.stats }
    | .journalState => { s.mgmt with snapJournal := some s.journalSnap } }

/-- R200: LATCH. -/
def State.latchGroup (g : Group) (s : State) : State × Answer :=
  if s.mgmt.isHeld g then (s, ⟨.held, []⟩) else (s.copyGroup g, .done)

/-- R131: the eight statistics, four bytes each. -/
def ServiceStats.bytes (c : ServiceStats) : List Byte :=
  ([c.sent, c.matched, c.timeouts, c.tooLate, c.stale, c.conflicts, c.fallbacks, c.probes].map (be 4)).flatten

/-- R176: the seven journal values. -/
def JournalSnap.bytes (j : JournalSnap) : List Byte :=
  [byte j.free, byte j.sealed, byte j.sent, byte j.filling] ++ be 4 j.oldest ++ be 4 j.next ++ be 4 j.overflow

/-- R200: SNAPSHOT_READ. -/
def State.readGroup (g : Group) (s : State) : State × Answer :=
  match g with
  | .stationTallies =>
    match s.mgmt.snapTallies with
    | some ts => ({ s with mgmt := { s.mgmt with snapTallies := none } }, ⟨.done, (ts.map (·.bytes)).flatten⟩)
    | none => (s, ⟨.notFound, []⟩)
  | .serviceStats =>
    match s.mgmt.snapService with
    | some c => ({ s with mgmt := { s.mgmt with snapService := none } }, ⟨.done, c.bytes⟩)
    | none => (s, ⟨.notFound, []⟩)
  | .journalState =>
    match s.mgmt.snapJournal with
    | some j => ({ s with mgmt := { s.mgmt with snapJournal := none } }, ⟨.done, j.bytes⟩)
    | none => (s, ⟨.notFound, []⟩)

/-- R109: FLAGS_READ_CLEAR. -/
def State.readFlags (s : State) : State × Answer :=
  ({ s with mgmt := { s.mgmt with sticky := {} } }, ⟨.done, be 2 s.mgmt.sticky.bits⟩)

/-- R202: the status of one station; its LOCKED state is a yes-or-no value (log entry 18). -/
def Station.statusBytes (t : Station) : List Byte :=
  [byte t.line.link.ctorIdx, byte t.ctx.tx.ctorIdx] ++ yesNo t.ctx.locked ++
    [lockBits t.ctx.lockCommand t.ctx.lockAlarm t.ctx.lockKeySrc]

/-- R202: the list of STATUS_READ. -/
def State.statusBytes (s : State) : List Byte :=
  [byte s.mgmt.cabinet, byte s.mgmt.lastReset.ctorIdx] ++
    be 2 s.clock.day ++ be 2 s.clock.minute ++ [byte s.clock.second] ++ firstOf s.clock.isSet ++ firstOf s.clock.held ++
    s.mgmt.alarms.bytes ++ be 2 s.mgmt.sticky.bits ++
    [byte s.active.ctorIdx, byte s.generation] ++ s.shadowBank.completeness ++
    [byte s.service.state.ctorIdx] ++ firstOf s.service.linkUp ++ [byte s.service.count] ++
    [byte s.upload.run.ctorIdx] ++ be 2 s.upload.runNumber ++
    (s.stations.toList.map (·.statusBytes)).flatten ++
    yesNo s.mgmt.snapTallies.isSome ++ yesNo s.mgmt.snapService.isSome ++ yesNo s.mgmt.snapJournal.isSome

/-- R202: STATUS_READ. -/
def State.readStatus (s : State) : State × Answer := (s, ⟨.done, s.statusBytes⟩)

/-- R207: RESTART is answered; the restart is then in progress. -/
def State.beginRestart (s : State) : State × Answer :=
  ({ s with mgmt := { s.mgmt with restarting := true } }, .done)

/-- R198: an unknown command code. -/
def State.unknown (s : State) : State × Answer := (s, ⟨.unknownCommand, []⟩)

/-! ### The commands taken -/

/-- Each management command with its code, its body's parser and its effect (11.6); a command of another kind changes
nothing. -/
def State.takeCommand (s : State) (i : Instr) : State :=
  match i with
  | .unknownCommand tok code _ => if commandCodes.contains code then s else s.manage i tok code State.unknown
  | .borrowerPut tok body => s.manage i tok 0x10 (withBody borrowerPutBody body State.putBorrowerEntry)
  | .borrowerDelete tok body => s.manage i tok 0x11 (withBody (Body.identifier .borrower) body State.deleteBorrower)
  | .borrowerRead tok body => s.manage i tok 0x12 (withBody (Body.identifier .borrower) body State.readBorrower)
  | .itemPut tok body => s.manage i tok 0x14 (withBody itemPutBody body State.putItem)
  | .itemDelete tok body => s.manage i tok 0x15 (withBody (Body.identifier .item) body State.deleteItem)
  | .badgeSet tok body =>
    s.manage i tok 0x18 (withBody (Body.list 0 Config.maxBadges (Body.identifier .badge)) body State.setBadges)
  | .shadowClear tok body => s.manage i tok 0x20 (withLoad noFields body fun _ _ => Bank.empty)
  | .ruleLoad tok body => s.manage i tok 0x21 (withLoad ruleBody body Bank.loadRule)
  | .matrixLoad tok body => s.manage i tok 0x22 (withLoad matrixBody body Bank.loadRow)
  | .categoryLoad tok body => s.manage i tok 0x23 (withLoad categoryBody body Bank.loadCategory)
  | .bankSettingsLoad tok body => s.manage i tok 0x24 (withLoad settingsBody body Bank.loadSettings)
  | .calendarLoad tok body => s.manage i tok 0x25 (State.loadCalendar body)
  | .closedDatesLoad tok body => s.manage i tok 0x26 (withLoad (datesBody s.shadowBank.header 64) body Bank.loadClosed)
  | .openDatesLoad tok body => s.manage i tok 0x27 (withLoad (datesBody s.shadowBank.header 16) body Bank.loadOpen)
  | .bankSwap tok body => s.manage i tok 0x28 (withBody noFields body fun _ => State.swapBanks)
  | .clockSet tok body => s.manage i tok 0x29 (withBody clockBody body State.setClock)
  | .stationLock tok body => s.manage i tok 0x30 (withBody Body.stations body (State.commandLock true))
  | .stationUnlock tok body => s.manage i tok 0x31 (withBody Body.stations body (State.commandLock false))
  | .stationClear tok body => s.manage i tok 0x32 (withBody Body.station body State.clearStation)
  | .deskConfig tok body => s.manage i tok 0x33 (withBody deskConfigBody body State.deskConfigured)
  | .alertConfig tok body => s.manage i tok 0x38 (withBody alertConfigBody body State.alertsConfigured)
  | .alertPoll tok body => s.manage i tok 0x39 (withBody Body.station body State.pollAlerts)
  | .alertClear tok body => s.manage i tok 0x3A (withBody alertClearBody body State.clearAlert)
  | .serviceConfig tok body => s.manage i tok 0x40 (withBody serviceConfigBody body State.serviceConfigured)
  | .uploadProgram tok body => s.manage i tok 0x48 (withBody programBody body State.programLoaded)
  | .uploadConfig tok body => s.manage i tok 0x49 (withBody uploadConfigBody body State.uploadConfigured)
  | .uploadTrigger tok body => s.manage i tok 0x4A (withBody noFields body fun _ => State.triggered)
  | .uploadStop tok body => s.manage i tok 0x4B (withBody noFields body fun _ => State.stopped)
  | .journalConfig tok body => s.manage i tok 0x50 (withBody journalConfigBody body State.journalConfigured)
  | .journalClear tok body => s.manage i tok 0x51 (withBody noFields body fun _ => State.clearJournal)
  | .alarmConfig tok body => s.manage i tok 0x58 (withBody alarmConfigBody body State.alarmsConfigured)
  | .latch tok body => s.manage i tok 0x60 (withBody groupBody body State.latchGroup)
  | .snapshotRead tok body => s.manage i tok 0x61 (withBody groupBody body State.readGroup)
  | .flagsReadClear tok body => s.manage i tok 0x62 (withBody noFields body fun _ => State.readFlags)
  | .statusRead tok body => s.manage i tok 0x63 (withBody noFields body fun _ => State.readStatus)
  | .restart tok body => s.manage i tok 0x6F (withBody noFields body fun _ => State.beginRestart)
  | .scan .. | .key .. | .headStatus .. | .attach .. | .deskFrameDiscarded .. | .silenceTimeout ..
  | .transactionTimerExpiry .. | .reply .. | .queryPatienceExpiry .. | .lingerEnd .. | .probeTimerExpiry
  | .probeAnswer .. | .trunkLinkDown | .trunkLinkUp | .trunkMessageDiscarded .. | .secondTick | .minuteArrival
  | .slipHoldExpiry .. | .sendCompletion | .receipt .. | .receiptPatienceExpiry | .windowEnd | .powerOn ..
  | .restartTakesEffect .. => s

/-! ### Meanings -/

/-- UNKNOWN_COMMAND (R198). -/
def execUnknownCommand (tok : Token) (code : Byte) (body : List Byte) (s : State) : Host.Outcome State Fault Refusal :=
  .next (s.fresh.takeCommand (.unknownCommand tok code body))

/-- BORROWER_PUT (R64). -/
def execBorrowerPut (tok : Token) (body : List Byte) (s : State) : Host.Outcome State Fault Refusal :=
  .next (s.fresh.takeCommand (.borrowerPut tok body))

/-- BORROWER_DELETE (R65). -/
def execBorrowerDelete (tok : Token) (body : List Byte) (s : State) : Host.Outcome State Fault Refusal :=
  .next (s.fresh.takeCommand (.borrowerDelete tok body))

/-- BORROWER_READ (R66). -/
def execBorrowerRead (tok : Token) (body : List Byte) (s : State) : Host.Outcome State Fault Refusal :=
  .next (s.fresh.takeCommand (.borrowerRead tok body))

/-- ITEM_PUT (R68). -/
def execItemPut (tok : Token) (body : List Byte) (s : State) : Host.Outcome State Fault Refusal :=
  .next (s.fresh.takeCommand (.itemPut tok body))

/-- ITEM_DELETE (R68). -/
def execItemDelete (tok : Token) (body : List Byte) (s : State) : Host.Outcome State Fault Refusal :=
  .next (s.fresh.takeCommand (.itemDelete tok body))

/-- BADGE_SET (R70). -/
def execBadgeSet (tok : Token) (body : List Byte) (s : State) : Host.Outcome State Fault Refusal :=
  .next (s.fresh.takeCommand (.badgeSet tok body))

/-- SHADOW_CLEAR (R79). -/
def execShadowClear (tok : Token) (body : List Byte) (s : State) : Host.Outcome State Fault Refusal :=
  .next (s.fresh.takeCommand (.shadowClear tok body))

/-- RULE_LOAD (R73). -/
def execRuleLoad (tok : Token) (body : List Byte) (s : State) : Host.Outcome State Fault Refusal :=
  .next (s.fresh.takeCommand (.ruleLoad tok body))

/-- MATRIX_LOAD (R74). -/
def execMatrixLoad (tok : Token) (body : List Byte) (s : State) : Host.Outcome State Fault Refusal :=
  .next (s.fresh.takeCommand (.matrixLoad tok body))

/-- CATEGORY_LOAD (R75). -/
def execCategoryLoad (tok : Token) (body : List Byte) (s : State) : Host.Outcome State Fault Refusal :=
  .next (s.fresh.takeCommand (.categoryLoad tok body))

/-- BANK_SETTINGS_LOAD (R76). -/
def execBankSettingsLoad (tok : Token) (body : List Byte) (s : State) : Host.Outcome State Fault Refusal :=
  .next (s.fresh.takeCommand (.bankSettingsLoad tok body))

/-- CALENDAR_LOAD (R77). -/
def execCalendarLoad (tok : Token) (body : List Byte) (s : State) : Host.Outcome State Fault Refusal :=
  .next (s.fresh.takeCommand (.calendarLoad tok body))

/-- CLOSED_DATES_LOAD (R78). -/
def execClosedDatesLoad (tok : Token) (body : List Byte) (s : State) : Host.Outcome State Fault Refusal :=
  .next (s.fresh.takeCommand (.closedDatesLoad tok body))

/-- OPEN_DATES_LOAD (R78). -/
def execOpenDatesLoad (tok : Token) (body : List Byte) (s : State) : Host.Outcome State Fault Refusal :=
  .next (s.fresh.takeCommand (.openDatesLoad tok body))

/-- BANK_SWAP (R80). -/
def execBankSwap (tok : Token) (body : List Byte) (s : State) : Host.Outcome State Fault Refusal :=
  .next (s.fresh.takeCommand (.bankSwap tok body))

/-- CLOCK_SET (R87). -/
def execClockSet (tok : Token) (body : List Byte) (s : State) : Host.Outcome State Fault Refusal :=
  .next (s.fresh.takeCommand (.clockSet tok body))

/-- STATION_LOCK (R45). -/
def execStationLock (tok : Token) (body : List Byte) (s : State) : Host.Outcome State Fault Refusal :=
  .next (s.fresh.takeCommand (.stationLock tok body))

/-- STATION_UNLOCK (R45). -/
def execStationUnlock (tok : Token) (body : List Byte) (s : State) : Host.Outcome State Fault Refusal :=
  .next (s.fresh.takeCommand (.stationUnlock tok body))

/-- STATION_CLEAR (R47). -/
def execStationClear (tok : Token) (body : List Byte) (s : State) : Host.Outcome State Fault Refusal :=
  .next (s.fresh.takeCommand (.stationClear tok body))

/-- DESK_CONFIG (R43). -/
def execDeskConfig (tok : Token) (body : List Byte) (s : State) : Host.Outcome State Fault Refusal :=
  .next (s.fresh.takeCommand (.deskConfig tok body))

/-- ALERT_CONFIG (R144). -/
def execAlertConfig (tok : Token) (body : List Byte) (s : State) : Host.Outcome State Fault Refusal :=
  .next (s.fresh.takeCommand (.alertConfig tok body))

/-- ALERT_POLL (R146). -/
def execAlertPoll (tok : Token) (body : List Byte) (s : State) : Host.Outcome State Fault Refusal :=
  .next (s.fresh.takeCommand (.alertPoll tok body))

/-- ALERT_CLEAR (R147). -/
def execAlertClear (tok : Token) (body : List Byte) (s : State) : Host.Outcome State Fault Refusal :=
  .next (s.fresh.takeCommand (.alertClear tok body))

/-- SERVICE_CONFIG (R130). -/
def execServiceConfig (tok : Token) (body : List Byte) (s : State) : Host.Outcome State Fault Refusal :=
  .next (s.fresh.takeCommand (.serviceConfig tok body))

/-- UPLOAD_PROGRAM (R179). -/
def execUploadProgram (tok : Token) (body : List Byte) (s : State) : Host.Outcome State Fault Refusal :=
  .next (s.fresh.takeCommand (.uploadProgram tok body))

/-- UPLOAD_CONFIG (R180). -/
def execUploadConfig (tok : Token) (body : List Byte) (s : State) : Host.Outcome State Fault Refusal :=
  .next (s.fresh.takeCommand (.uploadConfig tok body))

/-- UPLOAD_TRIGGER (R182). -/
def execUploadTrigger (tok : Token) (body : List Byte) (s : State) : Host.Outcome State Fault Refusal :=
  .next (s.fresh.takeCommand (.uploadTrigger tok body))

/-- UPLOAD_STOP (R194). -/
def execUploadStop (tok : Token) (body : List Byte) (s : State) : Host.Outcome State Fault Refusal :=
  .next (s.fresh.takeCommand (.uploadStop tok body))

/-- JOURNAL_CONFIG (R174). -/
def execJournalConfig (tok : Token) (body : List Byte) (s : State) : Host.Outcome State Fault Refusal :=
  .next (s.fresh.takeCommand (.journalConfig tok body))

/-- JOURNAL_CLEAR (R175). -/
def execJournalClear (tok : Token) (body : List Byte) (s : State) : Host.Outcome State Fault Refusal :=
  .next (s.fresh.takeCommand (.journalClear tok body))

/-- ALARM_CONFIG (R203). -/
def execAlarmConfig (tok : Token) (body : List Byte) (s : State) : Host.Outcome State Fault Refusal :=
  .next (s.fresh.takeCommand (.alarmConfig tok body))

/-- LATCH (R200). -/
def execLatch (tok : Token) (body : List Byte) (s : State) : Host.Outcome State Fault Refusal :=
  .next (s.fresh.takeCommand (.latch tok body))

/-- SNAPSHOT_READ (R200). -/
def execSnapshotRead (tok : Token) (body : List Byte) (s : State) : Host.Outcome State Fault Refusal :=
  .next (s.fresh.takeCommand (.snapshotRead tok body))

/-- FLAGS_READ_CLEAR (R109). -/
def execFlagsReadClear (tok : Token) (body : List Byte) (s : State) : Host.Outcome State Fault Refusal :=
  .next (s.fresh.takeCommand (.flagsReadClear tok body))

/-- STATUS_READ (R202). -/
def execStatusRead (tok : Token) (body : List Byte) (s : State) : Host.Outcome State Fault Refusal :=
  .next (s.fresh.takeCommand (.statusRead tok body))

/-- RESTART (R207). -/
def execRestart (tok : Token) (body : List Byte) (s : State) : Host.Outcome State Fault Refusal :=
  .next (s.fresh.takeCommand (.restart tok body))

end Sys2Proof.Machine
end

