-- ==== Sys2Proof/Machine/Resets.lean ====
section
/-! DEFINITION. Resets.lean: power-on and the taking effect of a RESTART (R206, R207), with the values that each chapter
gives its state (R18, R48, R71, R89, R109, R132, R149, R162, R177, R196, R200, R201, R203, R205). -/

namespace Sys2Proof.Machine

/-- R149: the resolver after a reset that retains its settings: a staged configuration is applied first; L0 is pending
and is served unless it is masked. -/
def Resolver.restart (r : Resolver) : Resolver :=
  let r := match r.staged with
    | some c => r.configure c
    | none => r
  let r := { r with
    pending := .onlyL0, inService := .empty, index := Vector.replicate 8 0, origin := none, lowest := .l7, staged := none }
  let r := if r.mask.mem .l0 then r else r.serve .l0
  { r with shown := r.showing, hold := r.holds }

/-- R18, R48, R149, R162, R201: a station after a reset that retains its settings. -/
def Station.restart (t : Station) (alarm : Bool) : Station :=
  { line := .reset t.line.threshold, ctx := .reset t.ctx.period t.ctx.lockCommand alarm, alerts := t.alerts.restart,
    slips := .reset t.slips.holdTime, tallies := t.tallies }

/-- R82, R88, R172, R173, R203: the alarms evaluated from the state at start-up, with their enables kept. -/
def State.alarmsNow (s : State) : Alarms :=
  let a := s.mgmt.alarms
  { rulesInvalid := { a.rulesInvalid with active := !s.activeBank.complete }
    clockUnset := { a.clockUnset with active := !s.clock.isSet }
    journalLow := { a.journalLow with active := s.journal.isLow }
    journalFull := { a.journalFull with active := s.journal.isFull } }

/-- R88: the clock at a power-on. -/
def Clock.powerOn : Clock := { day := 0, minute := 0, second := 0, isSet := false, held := false }

/-- R206, R207: the state after a power-on with RETAIN valid, or after a RESTART, which keeps the clock. No restart is in
progress and no message is held any more (log entry 48). -/
def State.retained (s : State) (kind : ResetKind) (clock : Clock) (straps : Byte) : State :=
  let s : State := { s with
    sent := []
    clock := clock
    borrowers := s.borrowers.map fun e => { e with inFlight := false }
    service := .reset s.service.patience s.service.trip s.service.interval s.service.policy
    queries := queriesReset
    journal := s.journal.unsend
    upload := .reset s.upload.applyDeferred.program s.upload.applyDeferred.config s.upload.runNumber }
  let alarms := s.alarmsNow
  { s with
    stations := s.stations.map fun t => t.restart alarms.holds
    mgmt := { snapTallies := none, snapService := none, snapJournal := none, sticky := {}, alarms := alarms,
              alarmCond := alarms.holds, startUp := some kind, lastReset := kind, restarting := false, held := [],
              cabinet := straps.toNat } }

/-- R206: power-on, with the RETAIN level and the strap pins as they are sampled. The queue of waiting commands is the
model's own and stays. -/
def State.powerOn (s : State) (retain : Bool) (straps : Byte) : State :=
  if retain then s.retained .powerOnRetained .powerOn straps
  else { State.reset with pending := s.pending, mgmt := .reset straps.toNat }

/-- R207: the restart takes effect, and the messages held meanwhile are taken in order on the state it leaves. -/
def State.restarted (s : State) (straps : Byte) : State :=
  s.mgmt.held.foldl State.takeCommand (s.retained .restart s.clock straps)

/-- POWER_ON (R206). -/
def execPowerOn (retain : Bool) (straps : Byte) (s : State) : Host.Outcome State Fault Refusal :=
  .next (s.powerOn retain straps)

/-- RESTART_TAKES_EFFECT (R207); no effect while no restart is in progress (log entry 4). -/
def execRestartTakesEffect (straps : Byte) (s : State) : Host.Outcome State Fault Refusal :=
  .next (if s.mgmt.restarting then s.restarted straps else s.fresh)

end Sys2Proof.Machine
end

