-- ==== Sys2Proof/Machine/Dispatch.lean ====
section
/-! DEFINITION. Dispatch.lean: one arm per command. -/

namespace Sys2Proof.Machine

def exec (i : Instr) (s : State) : Host.Outcome State Fault Refusal :=
  match i with
  | .scan n symbol => Sys2Proof.Machine.execScan n symbol s
  | .key n k => Sys2Proof.Machine.execKey n k s
  | .headStatus n r => Sys2Proof.Machine.execHeadStatus n r s
  | .attach n => Sys2Proof.Machine.execAttach n s
  | .deskFrameDiscarded n bytes => Sys2Proof.Machine.execDeskFrameDiscarded n bytes s
  | .silenceTimeout n => Sys2Proof.Machine.execSilenceTimeout n s
  | .transactionTimerExpiry n => Sys2Proof.Machine.execTransactionTimerExpiry n s
  | .reply m => Sys2Proof.Machine.execReply m s
  | .queryPatienceExpiry tag => Sys2Proof.Machine.execQueryPatienceExpiry tag s
  | .lingerEnd tag => Sys2Proof.Machine.execLingerEnd tag s
  | .probeTimerExpiry => Sys2Proof.Machine.execProbeTimerExpiry s
  | .probeAnswer gen => Sys2Proof.Machine.execProbeAnswer gen s
  | .trunkLinkDown => Sys2Proof.Machine.execTrunkLinkDown s
  | .trunkLinkUp => Sys2Proof.Machine.execTrunkLinkUp s
  | .trunkMessageDiscarded bytes => Sys2Proof.Machine.execTrunkMessageDiscarded bytes s
  | .secondTick => Sys2Proof.Machine.execSecondTick s
  | .minuteArrival => Sys2Proof.Machine.execMinuteArrival s
  | .slipHoldExpiry n => Sys2Proof.Machine.execSlipHoldExpiry n s
  | .sendCompletion => Sys2Proof.Machine.execSendCompletion s
  | .receipt m => Sys2Proof.Machine.execReceipt m s
  | .receiptPatienceExpiry => Sys2Proof.Machine.execReceiptPatienceExpiry s
  | .windowEnd => Sys2Proof.Machine.execWindowEnd s
  | .powerOn retain straps => Sys2Proof.Machine.execPowerOn retain straps s
  | .restartTakesEffect straps => Sys2Proof.Machine.execRestartTakesEffect straps s
  | .unknownCommand tok code body => Sys2Proof.Machine.execUnknownCommand tok code body s
  | .borrowerPut tok body => Sys2Proof.Machine.execBorrowerPut tok body s
  | .borrowerDelete tok body => Sys2Proof.Machine.execBorrowerDelete tok body s
  | .borrowerRead tok body => Sys2Proof.Machine.execBorrowerRead tok body s
  | .itemPut tok body => Sys2Proof.Machine.execItemPut tok body s
  | .itemDelete tok body => Sys2Proof.Machine.execItemDelete tok body s
  | .badgeSet tok body => Sys2Proof.Machine.execBadgeSet tok body s
  | .shadowClear tok body => Sys2Proof.Machine.execShadowClear tok body s
  | .ruleLoad tok body => Sys2Proof.Machine.execRuleLoad tok body s
  | .matrixLoad tok body => Sys2Proof.Machine.execMatrixLoad tok body s
  | .categoryLoad tok body => Sys2Proof.Machine.execCategoryLoad tok body s
  | .bankSettingsLoad tok body => Sys2Proof.Machine.execBankSettingsLoad tok body s
  | .calendarLoad tok body => Sys2Proof.Machine.execCalendarLoad tok body s
  | .closedDatesLoad tok body => Sys2Proof.Machine.execClosedDatesLoad tok body s
  | .openDatesLoad tok body => Sys2Proof.Machine.execOpenDatesLoad tok body s
  | .bankSwap tok body => Sys2Proof.Machine.execBankSwap tok body s
  | .clockSet tok body => Sys2Proof.Machine.execClockSet tok body s
  | .stationLock tok body => Sys2Proof.Machine.execStationLock tok body s
  | .stationUnlock tok body => Sys2Proof.Machine.execStationUnlock tok body s
  | .stationClear tok body => Sys2Proof.Machine.execStationClear tok body s
  | .deskConfig tok body => Sys2Proof.Machine.execDeskConfig tok body s
  | .alertConfig tok body => Sys2Proof.Machine.execAlertConfig tok body s
  | .alertPoll tok body => Sys2Proof.Machine.execAlertPoll tok body s
  | .alertClear tok body => Sys2Proof.Machine.execAlertClear tok body s
  | .serviceConfig tok body => Sys2Proof.Machine.execServiceConfig tok body s
  | .uploadProgram tok body => Sys2Proof.Machine.execUploadProgram tok body s
  | .uploadConfig tok body => Sys2Proof.Machine.execUploadConfig tok body s
  | .uploadTrigger tok body => Sys2Proof.Machine.execUploadTrigger tok body s
  | .uploadStop tok body => Sys2Proof.Machine.execUploadStop tok body s
  | .journalConfig tok body => Sys2Proof.Machine.execJournalConfig tok body s
  | .journalClear tok body => Sys2Proof.Machine.execJournalClear tok body s
  | .alarmConfig tok body => Sys2Proof.Machine.execAlarmConfig tok body s
  | .latch tok body => Sys2Proof.Machine.execLatch tok body s
  | .snapshotRead tok body => Sys2Proof.Machine.execSnapshotRead tok body s
  | .flagsReadClear tok body => Sys2Proof.Machine.execFlagsReadClear tok body s
  | .statusRead tok body => Sys2Proof.Machine.execStatusRead tok body s
  | .restart tok body => Sys2Proof.Machine.execRestart tok body s

end Sys2Proof.Machine
end

