-- ==== Sys2Proof/WellFormed.lean ====
section
/-! DEFINITION. WellFormed.lean: which terms of `Instr` stand for something that can arrive. -/

namespace Sys2Proof

open Machine

/-- R208: a reply whose numbers fit their fields and whose texts have their lengths. -/
def ReplyMsg.wf (m : ReplyMsg) : Bool :=
  [m.tag, m.gen, m.kind, m.outcome, m.category, m.manual, m.cls, m.reason, m.hold].all (· < 256) &&
    [m.day, m.minute, m.onLoan, m.overdue].all (· < 65536) && decide (m.balance < 4294967296) &&
    decide (m.borrower.length = 10) && decide (m.item.length = 12)

/-- R208: a receipt whose numbers fit their fields. -/
def ReceiptMsg.wf (m : ReceiptMsg) : Bool :=
  decide (m.run < 65536) && decide (m.slot < 256) && decide (m.block < 256)

/-- A command that can arrive. A SCAN has 1 to 20 characters and a HEAD_STATUS a credit of at most 8 (R1); a discarded
desk frame is one that does not decode (R1); an unknown command's code is not in the list (R198); a management body and
its header fit the length field (R197). -/
def Instr.wf (i : Instr) : Bool :=
  match i with
  | .scan _ symbol => validSymbol symbol
  | .headStatus _ r => validReport r
  | .deskFrameDiscarded n bytes => (decodeDesk n bytes).isNone
  | .reply m => m.wf
  | .probeAnswer gen => decide (gen < 256)
  | .receipt m => m.wf
  | .unknownCommand _ code body => !commandCodes.contains code && decide (body.length < 65531)
  | .key .. | .attach .. | .silenceTimeout .. | .transactionTimerExpiry .. | .queryPatienceExpiry .. | .lingerEnd ..
  | .probeTimerExpiry | .trunkLinkDown | .trunkLinkUp | .trunkMessageDiscarded .. | .secondTick | .minuteArrival
  | .slipHoldExpiry .. | .sendCompletion | .receiptPatienceExpiry | .windowEnd | .powerOn .. | .restartTakesEffect .. =>
    true
  | i =>
    match commandOf i with
    | some c => decide (c.2.2.length < 65531)
    | none => true

end Sys2Proof
end

