-- ==== Sys2Proof/Safety.lean ====
section
/-! DEFINITION. Safety.lean: the invariants of the tables, and the few words that the statements about commands are
written in. -/

namespace Sys2Proof.Machine

/-! ### Words for statements -/

/-- The state with what the last command sent replaced. -/
def State.sending (s : State) (outs : List Out) : State := { s with sent := outs }

/-- What reaches the trunk while the link stands as it does in `s`. -/
def State.onTrunk (s : State) (ms : List TrunkOut) : List Out := if s.service.linkUp then ms.map .trunk else []

/-- What reaches the head of station n while its link stands as it does in `s`. -/
def State.toHead (s : State) (n : StationNo) (fs : List DeskOut) : List Out :=
  if (s.st n).line.link = .detached then [] else fs.map (.desk n)

/-- A notice stamped with the clock of `s`. -/
def State.stamped (s : State) (x : Notice) : TrunkOut := .notice s.clock.day s.clock.minute x

/-- The command has answered with one response and has changed nothing but what `s` already says. -/
def State.answered (s : State) (tok : Token) (code : Byte) (r : Result) (body : List Byte) : State :=
  s.sending (s.onTrunk [.response tok code r body])

/-- This response has been sent, unless the trunk link is DOWN. -/
def State.answers (s : State) (tok : Token) (code : Byte) (r : Result) : Prop :=
  s.service.linkUp = true → ∃ body, .trunk (.response tok code r body) ∈ s.sent

/-- A DISPLAY of station n with the station's present state and displayed level, index 0 and a tone. -/
def State.displayNow (s : State) (n : StationNo) (tone : Tone) : DeskOut :=
  .display (s.st n).shownState (s.st n).alerts.displayed 0 tone

/-- Nothing but a DISPLAY with this tone came of it. -/
def State.onlyTone (s : State) (n : StationNo) (tone : Tone) : State := s.sending (s.toHead n [s.displayNow n tone])

/-- The resolver has nothing left to do: no level qualifies for service, and what it reported stands. -/
def Resolver.quiet (r : Resolver) : Bool :=
  r.candidate.isNone && decide (r.holds = r.hold) && decide (r.showing = r.shown)

/-- The ALARM lock condition stands as the alarms give it (R203). -/
def State.alarmsSettled (s : State) : Prop := s.mgmt.alarms.holds = s.mgmt.alarmCond

/-- The line of station n after a decoded frame that finds it in CHECK or ACTIVE (R1). -/
def State.heard (s : State) (n : StationNo) : State := s.updLine n fun l => { l with silence := some 0 }

/-- The line of station n after a decoded SCAN that finds it in CHECK or ACTIVE (R1, R15). -/
def State.scanned (s : State) (n : StationNo) (q : Quality) : State :=
  (s.heard n).updLine n fun l => { l with history := (l.history ++ [q]).drop (l.history.length - 7) }

/-- The journal is ready for a record in page p: p is FILLING with room for more than one record, neither journal alarm is
about to change, and the ALARM lock condition stands (R165, R172, R173, R203). -/
def State.ready (s : State) (p : Fin 128) : Prop :=
  s.journal.filling? = some p ∧ s.journal.pages[p].records.length < 63 ∧ s.evalJournal = s ∧ s.alarmsSettled

/-- A record has joined page p, numbered by the sequence counter, which moves on (R165, R167). -/
def State.recorded (s : State) (p : Fin 128) (r : Record) : State :=
  { s with journal := { s.journal with
      pages := s.journal.pages.set p ⟨.filling, s.journal.pages[p].records ++ [{ r with seq := s.journal.counter }]⟩
      counter := (s.journal.counter + 1) % 4294967296 } }

/-- R113: the entry of a tag is FREE after a timely reply, which is counted, and no timeouts stand in a row. -/
def State.answeredQuery (s : State) (t : Tag) : State :=
  { s with
    queries := s.queries.set t ⟨s.queries[t].gen, .free⟩
    service := { s.service with
      count := 0, stats := { s.service.stats with matched := min 4294967295 (s.service.stats.matched + 1) } } }

/-- R117: the same for a reply that was too late. -/
def State.answeredLate (s : State) (t : Tag) : State :=
  { s.answeredQuery t with service := { (s.answeredQuery t).service with
      stats := { (s.answeredQuery t).service.stats with tooLate := min 4294967295 (s.service.stats.tooLate + 1) } } }

/-- R119: a conflict has been counted. -/
def State.conflicted (s : State) : State :=
  { s with service := { s.service with
      stats := { s.service.stats with conflicts := min 4294967295 (s.service.stats.conflicts + 1) } } }

/-- R34, R61: station n has discharged item entry `x`: from `s` to `t` one DISCHARGE record has joined page p, the entry of
the borrower named, and no other, holds the posting, and the tallies have risen. -/
def State.discharged (s t : State) (n : StationNo) (p : Fin 128) (x : Item) (d : DecidedBy) (b : Option Nat)
    (due : Option Time) (index : Option Nat) (f : Option FineResult) : Prop :=
  x.state = .returned ∧ x.fine = f.map (·.fine) ∧ x.decidedBy = some d ∧
  (∃ r, t.journal.pages[p].records = s.journal.pages[p].records ++ [r] ∧ r.kind = .discharge ∧
    r.seq = s.journal.counter ∧ r.station = some n ∧ r.decidedBy = d ∧ r.borrower = b ∧ r.item = some x.number ∧
    r.due = due ∧ r.ruleIndex = index ∧ r.fine = f.map (·.fine) ∧ r.bankGen = some s.generation) ∧
  (∀ c, b ≠ some c → t.borrower? c = s.borrower? c) ∧
  (∀ c e, b = some c → s.borrower? c = some e → t.borrower? c = some { e with
    onLoan := e.onLoan - 1
    overdue := if (f.map (·.late)).getD false = true then e.overdue - 1 else e.overdue
    balance := min 16777215 (e.balance + (f.map (·.fine)).getD 0)
    changed := true, inFlight := false }) ∧
  (t.st n).tallies = { (s.st n).tallies with
    discharges := min 4294967295 ((s.st n).tallies.discharges + 1)
    fines := min 4294967295 ((s.st n).tallies.fines + (f.map (·.fine)).getD 0) }

/-- R171: a record has been offered while no page was FILLING: it counts as one overflow, with JOURNAL_OVERFLOWED set. -/
def State.lost (s : State) : State :=
  { s with
    journal := { s.journal with overflow := min 4294967295 (s.journal.overflow + 1) }
    mgmt := { s.mgmt with sticky := { s.mgmt.sticky with journalOverflowed := true } } }

/-- The refusals tally of station n one higher, held at its maximum (R31, R201). -/
def State.refusalCounted (s : State) (n : StationNo) : State :=
  s.updTallies n fun x => { x with refusals := min 4294967295 (x.refusals + 1) }

/-- R41 step 2, R151, R152: from `s` to `t` station n, whose reservation is slot i, has settled its slip while nothing can
start printing: the slot is QUEUED with the composed text at the newest handing position where an entry is GRANTED, or
RETURNED with a fine above 0 or a hold routing, and it is FREE otherwise. -/
def State.slipSettled (s t : State) (n : StationNo) (i : Fin 4) : Prop :=
  let c := (s.st n).ctx
  let q := (s.st n).slips
  (t.st n).slips =
    if (∃ x ∈ c.items, x.state = .granted ∨ x.state = .returned ∧ (0 < x.fine.getD 0 ∨ x.routing.isSome = true)) then
      { q with
        slots := q.slots.set i (.queued (c.slipText n s.mgmt.cabinet s.printHeader s.now)), order := q.order ++ [i] }
    else { q with slots := q.slots.set i .free }

/-- R9, R46, R116, R135, R148, R161: from `s` to `t` station n, which was ACTIVE, has lost its head. The transaction is
force-closed; the WAITING queries of its AWAITING entries and of its borrower check lapse as VOID and no other changes;
the reservation is free; a slip that is owed is lost with its record and its count; and L0 is served, or waits masked. -/
def State.headLost (s t : State) (n : StationNo) : Prop :=
  let c := (s.st n).ctx
  let abandoned (g : Tag) : Prop := c.tx ≠ .idle ∧ (c.lookup = some (g, s.queries[g].gen) ∨
    ∃ x ∈ c.items, x.state = .awaiting ∧ x.query = some (g, s.queries[g].gen))
  let owed : Prop := c.tx ≠ .idle ∧ c.holding = some .reserved ∧
    ∃ x ∈ c.items, x.state = .granted ∨ x.state = .returned ∧ (0 < x.fine.getD 0 ∨ x.routing.isSome = true)
  (t.st n).ctx.tx = .idle ∧ (c.tx ≠ .idle → (t.st n).ctx = { c.cleared with lockAlarm := (t.st n).ctx.lockAlarm }) ∧
  t.service = s.service ∧
  (∀ (g : Tag) (q : Question) (k : Nat), s.queries[g].state = .waiting q k → abandoned g →
    t.queries[g] = ⟨s.queries[g].gen, .lapsed q s.service.patience .void⟩) ∧
  (∀ g : Tag, (¬ abandoned g ∨ ¬ ∃ q k, s.queries[g].state = .waiting q k) → t.queries[g] = s.queries[g]) ∧
  (∀ i : Fin 4, (s.st n).slips.slots[i] = .reserved → (∀ k : Fin 4, k ≠ i → (s.st n).slips.slots[k] ≠ .reserved) →
    (t.st n).slips.slots[i] = .free) ∧
  (owed → ∀ p, s.ready p → t.journal = (s.recorded p { s.record .stationEvent (some n) with
      flags := c.stationFlags, detail := some .slipLost }).journal ∧
    (t.st n).tallies = { (s.st n).tallies with lost := min 4294967295 ((s.st n).tallies.lost + 1) } ∧
    (t.st n).ctx.lockAlarm = c.lockAlarm) ∧
  (¬ owed → t.journal = s.journal ∧ (t.st n).tallies = (s.st n).tallies ∧
    (t.st n).ctx.lockAlarm = c.lockAlarm) ∧
  ((s.st n).alerts.autoAck.mem .l0 = false → (s.st n).alerts.staged = none →
    let l0 := LevelSet.empty.insert .l0
    (t.st n).alerts.inService = (if (s.st n).alerts.mask.mem .l0 then .empty else l0) ∧
    (t.st n).alerts.pending = (if (s.st n).alerts.mask.mem .l0 then l0 else .empty))

/-- R159: from `s` to `t`, in a printer fault that goes on, the slips of station n that wait in the handing order are gone,
with the fault timer at 0 and a count for each; a page with room takes a SLIP_LOST record for each, oldest handing first,
with the slip's token, and a full journal counts them lost. -/
def State.slipsDiscarded (s t : State) (n : StationNo) : Prop :=
  let q := (s.st n).slips
  let gone := q.order.filter fun i => q.slots[i].discardable
  let others := ∀ m, m ≠ n → t.st m = s.st m
  (t.st n).slips = { q with
    slots := (t.st n).slips.slots, order := q.order.filter (fun i => !q.slots[i].discardable), faultTimer := some 0 } ∧
  (∀ i : Fin 4, (t.st n).slips.slots[i] = if i ∈ gone then .free else q.slots[i]) ∧
  (t.st n).tallies = (if gone = [] then (s.st n).tallies else
    { (s.st n).tallies with lost := min 4294967295 ((s.st n).tallies.lost + gone.length) }) ∧
  (q.order.Nodup → ∀ p : Fin 128, s.journal.filling? = some p →
    s.journal.pages[p].records.length + gone.length < 64 → s.evalJournal = s → s.alarmsSettled →
    others ∧ t.journal = (gone.foldl (fun x i => x.recorded p { s.record .stationEvent (some n) with
      detail := some .slipLost, slipToken := q.slots[i].token? }) s).journal) ∧
  (gone ≠ [] → s.journal.filling? = none → s.alarmsSettled →
    others ∧ t.mgmt.sticky.journalOverflowed = true ∧
      t.journal = { s.journal with overflow := min 4294967295 (s.journal.overflow + gone.length) })

/-- R180, R181: the upload configuration with the fields of a deferred one applied. -/
def Upload.finalConfig (u : Upload) : UploadSettings :=
  match u.defConfig with
  | none => u.config
  | some f =>
    { mode := f.mode.getD u.config.mode, windowStart := f.windowStart.getD u.config.windowStart
      windowLength := f.windowLength.getD u.config.windowLength, patience := f.patience.getD u.config.patience
      attempts := f.attempts.getD u.config.attempts }

/-- R195, R181: the upload controller after the end of a run: IDLE with its marks clear, nothing in hand, its timers
stopped, and the deferred program and then the deferred configuration applied and absent. -/
def Upload.ended (u : Upload) : Upload :=
  { u with
    run := .idle, trigger := false, stop := false, window := none, hand := none, sect := none, wait := none
    program := u.defProgram.getD u.program, config := u.finalConfig, defProgram := none, defConfig := none }

/-- A block that carries no journal page (R192). -/
def Block.pageless (b : Block) : Prop := ∀ i rs, b.contents ≠ .journal (some i) rs

/-- R198, R199, R209: a message whose body the fields of its command do not take is answered BAD_FIELD with the offset of
the first refused field and what the answer carries besides, and it changes nothing. -/
def refusesBody {α : Type} (message : Token → List Byte → Instr) (code : Byte) (fields : State → Body α)
    (more : State → List Byte) : Prop :=
  ∀ (tok : Token) (body : List Byte) (off : Nat) (s : State), s.mgmt.restarting = false →
    parseBody (fields s) body = .error off →
    exec (message tok body) s = .next (s.answered tok code .badField (be 2 off ++ more s))

/-- R83: a day is OPEN: outside the window always; within it by the date lists, then by its weekday. -/
def Calendar.opens (c : Calendar) (d : Nat) : Bool :=
  !(decide (c.header.base ≤ d) && decide (d < c.header.base + 512)) ||
    !c.closedDates.contains d &&
      (c.openDates.contains d || !c.header.weekly.getLsbD (c.header.weekdayOf d).val)

/-- R94 to R98: day d is the first OPEN one among the k days from day a on. -/
def Calendar.opensFirst (c : Calendar) (a k d : Nat) : Prop :=
  a ≤ d ∧ d < a + k ∧ c.opens d = true ∧ ∀ x, a ≤ x → x < d → c.opens x = false

/-- R95, R97, R98: none of the k days from day a on is OPEN. -/
def Calendar.shut (c : Calendar) (a k : Nat) : Prop := ∀ x, a ≤ x → x < a + k → c.opens x = false

/-- R100, R101: the units late. -/
def Calendar.late (c : Calendar) (r : Rule) (due ret : Time) : Nat :=
  match r.unit, r.count with
  | .days, .allDays => ret.day - due.day
  | .days, .openDays => (List.range (ret.day - due.day)).countP fun k => c.opens (due.day + 1 + k)
  | .hours, _ => min 65535 (((((ret.day : Int) - due.day) * 1440 + ((ret.minute : Int) - due.minute)).toNat + 59) / 60)

/-- R103, R104: the fine of n units before the item cap. -/
def fineOf (n : Nat) (r : Rule) (k : Category) (st : Settings) : Nat :=
  let scaled := n * r.rate * k.multiplier / 256
  let q := scaled / st.unit
  let rest := scaled % st.unit
  match st.mode with
  | .truncate => q * st.unit
  | .nearestEven =>
    if 2 * rest < st.unit ∨ 2 * rest = st.unit ∧ q % 2 = 0 then q * st.unit else (q + 1) * st.unit

/-- R72: the completeness of a bank as a response carries it. -/
def Bank.marks (b : Bank) : List Byte :=
  [byte (b.rules.toList.countP (·.isSome)), byte (b.matrix.toList.countP (·.isSome)),
    byte (b.categories.toList.countP (·.isSome)), byte b.settings.isSome.toNat, byte b.header.isSome.toNat]

/-! ### Invariants -/

/-- R49: the values of a borrower entry within their ranges. -/
def Borrower.inRange (e : Borrower) : Bool :=
  decide (e.balance ≤ Config.maxMoney) && decide (e.onLoan ≤ Config.maxCount8) && decide (e.overdue ≤ Config.maxCount8)

/-- R49: at most 4096 entries, in strictly rising order of number and so no two with the same number, all values within
their ranges. -/
def State.borrowersOk (s : State) : Prop :=
  s.borrowers.length ≤ Config.maxBorrowers ∧ (s.borrowers.map (·.number)).Pairwise (· < ·) ∧
    ∀ e ∈ s.borrowers, e.inRange = true

/-- R126: at most 512 pending loans, each item once only. -/
def State.loansOk (s : State) : Prop :=
  s.loans.length ≤ Config.maxLoans ∧ (s.loans.map (·.item)).Nodup

/-- R19, R20, R41: the context of an IDLE station is cleared, its item list with it; a list holds at most 12 entries, no
item twice, and at most 4 of them AWAITING. R134, R137: no level is pending and in service at once. R139: the hold condition stands as the
in-service set gives it. -/
def State.transactionsOk (s : State) : Prop :=
  ∀ n, ((s.st n).ctx.tx = .idle → (s.st n).ctx = (s.st n).ctx.cleared) ∧ (s.st n).ctx.items.length ≤ 12 ∧
    ((s.st n).ctx.items.map (·.number)).Nodup ∧ (s.st n).ctx.awaiting ≤ 4 ∧
    (∀ l, (s.st n).alerts.pending.mem l = true → (s.st n).alerts.inService.mem l = false) ∧
    (s.st n).alerts.hold = (s.st n).alerts.holds

/-- A slot with a handing position (R150). -/
def Slot.occupied : Slot → Bool
  | .queued _ | .printing .. | .interrupted .. => true
  | .free | .reserved => false

/-- R150: one slot is RESERVED while the transaction holds a reservation and none otherwise, a charge transaction holds
one and an IDLE station none; the occupied slots are those in the handing order, each once; a slot that is PRINTING or
INTERRUPTED is the head slip. -/
def State.slipsOk (s : State) : Prop :=
  ∀ n, ((s.st n).slips.slots.toList.filter (fun x => decide (x = .reserved))).length =
      (if (s.st n).ctx.holding = some .reserved then 1 else 0) ∧
    ((s.st n).ctx.kind = some .charge → (s.st n).ctx.holding = some .reserved) ∧
    ((s.st n).ctx.tx = .idle → (s.st n).ctx.kind = none ∧ (s.st n).ctx.holding = none) ∧
    (s.st n).slips.order.Nodup ∧ (∀ i : Fin 4, i ∈ (s.st n).slips.order ↔ (s.st n).slips.slots[i].occupied = true) ∧
    ∀ i : Fin 4, (s.st n).slips.slots[i].busy = true → (s.st n).slips.order.head? = some i

/-- R163, R165 to R167, R171, R174: at most one page is FILLING, a page holds at most 64 records, a FILLING one fewer and a
FREE one none, and the counter, the overflow count and the low-water mark lie within their ranges. -/
def State.journalOk (s : State) : Prop :=
  (∀ i k : Fin 128, s.journal.pages[i].state = .filling → s.journal.pages[k].state = .filling → i = k) ∧
    (∀ i : Fin 128, s.journal.pages[i].records.length ≤ 64 ∧
      (s.journal.pages[i].state = .filling → s.journal.pages[i].records.length < 64) ∧
      (s.journal.pages[i].state = .free → s.journal.pages[i].records = [])) ∧
    s.journal.counter < 4294967296 ∧ s.journal.overflow ≤ 4294967295 ∧ s.journal.lowMark ≤ 32

/-- What a command that arrives at a desk line or from the circulation server does not reach: the queue, the badge list,
the rule banks with their selector and generation, the clock, and the restart in progress. -/
def State.sameRules (s t : State) : Prop :=
  t.pending = s.pending ∧ t.badges = s.badges ∧ t.bankA = s.bankA ∧ t.bankB = s.bankB ∧ t.active = s.active ∧
    t.generation = s.generation ∧ t.clock = s.clock ∧ t.mgmt.restarting = s.mgmt.restarting ∧ t.mgmt.held = s.mgmt.held

/-- The commands that arrive at a desk line, from its timers, or from the circulation service. -/
def deskOrService : Instr → Bool
  | .scan .. | .key .. | .headStatus .. | .attach .. | .deskFrameDiscarded .. | .silenceTimeout ..
  | .transactionTimerExpiry .. | .reply .. | .queryPatienceExpiry .. | .lingerEnd .. | .probeTimerExpiry
  | .probeAnswer .. | .trunkLinkDown | .trunkLinkUp | .trunkMessageDiscarded .. | .slipHoldExpiry .. => true
  | _ => false

/-- R86: the clock one second later. -/
def Clock.after (c : Clock) : Clock :=
  if c.second < 59 then { c with second := c.second + 1 }
  else if c.minute < 1439 then { c with second := 0, minute := c.minute + 1 }
  else if c.day < 65535 then { c with second := 0, minute := 0, day := c.day + 1 }
  else { c with second := 0, held := true }

end Sys2Proof.Machine
end

