-- ==== Sys2Proof/Certificates/Slice0/Obligations.lean ====
section
/-! DEFINITION. Obligations.lean: the statements for the provers. -/

open Sys2Proof Sys2Proof.Machine

/-- O1. For every command c and state s whose queue is c followed by rest, step s is exec of c on s with the queue rest;
on an empty queue step answers s. The queue and idling are the model's own (log entry 2). (Cites:
95_what_each_step_holds.md.) -/
def Obligations.StepTakesFrontCommand : Prop :=
  (∀ (c : Instr) (rest : List Instr) (s : State), s.pending = c :: rest → step s = exec c { s with pending := rest }) ∧
    ∀ s : State, s.pending = [] → step s = .next s

/-- O2. For every command c and state s, exec answers a next state whose queue is that of s (the queue is the model's own,
log entry 2). DESK_FRAME_DISCARDED and TRUNK_MESSAGE_DISCARDED leave every piece of state as it was and send nothing.
(Cites: 95_what_each_step_holds.md, R1, R197.) -/
def Obligations.CommandsLeaveTheQueue : Prop :=
  (∀ (c : Instr) (s : State), ∃ t, exec c s = .next t ∧ t.pending = s.pending) ∧
    ∀ (n : StationNo) (bytes : List Byte) (s : State),
      exec (.deskFrameDiscarded n bytes) s = .next (s.sending []) ∧
        exec (.trunkMessageDiscarded bytes) s = .next (s.sending [])

/-- O3. For every command that arrives at a desk line, from its timers, or from the circulation service, exec answers a
next state with the same queue, badge list, both banks, active selector, bank generation, clock, restart mark and held
messages. (Cites: R70, R72, R81, R86, R207.) -/
def Obligations.DeskAndServiceKeepRules : Prop :=
  ∀ (c : Instr) (s : State), deskOrService c = true → ∃ t, exec c s = .next t ∧ s.sameRules t

/-- O4. For every text of decimal digits that has the form of a borrower card, an item label or a badge: it classifies
BAD_CHECK when the last digit differs from (10 - (weighted sum mod 10)) mod 10, weights 3, 7, 1 repeating from the
left. Otherwise it classifies VALID as its form, with the number that the digits before the last one spell; an item
label carries its digits 2 and 3 as the class, 63 and marked where they are above 63. (Cites: R11, R12, R13.) -/
def Obligations.CheckDigitOfEveryForm : Prop :=
  ∀ (symbol : Text) (ds : List Nat) (f : Form), digitsOf symbol = some ds → formOf ds = some f →
    let sum := ((ds.dropLast.zipIdx).map fun p => [3, 7, 1].getD (p.2 % 3) 0 * p.1).sum
    let number := ds.dropLast.foldl (fun a d => 10 * a + d) 0
    let cls := 10 * ds.getD 1 0 + ds.getD 2 0
    classify symbol =
      if ds.getLastD 0 ≠ (10 - sum % 10) % 10 then .badCheck
      else match f with
        | .borrower => .borrower number
        | .item => .item number (min 63 cls) (decide (63 < cls))
        | .badge => .badge number

/-- O5. At a line in CHECK: a SCAN of 1 to 20 characters that classifies VALID_BORROWER or VALID_ITEM changes only the
silence timer, which restarts, the history, which gains one GOOD entry (at most 8), the CLASS_CLAMPED sticky flag for
a clamped label, and sends the one DISPLAY with tone LOCKED; a KEY restarts the silence timer, draws tone LOCKED and
has no other effect. At a DETACHED line, with u the state that ATTACH leaves: a KEY leaves u and adds the DISPLAY with
tone LOCKED to what was sent; a SCAN of a borrower or an item adds to u the one GOOD entry of the history, the sticky
flag and that DISPLAY; a badge in the list takes the link to ACTIVE with the one GOOD entry, and one that is not
listed draws tone REFUSE; a BAD scan under a threshold other than 1 adds a BAD entry, one to the bad-scans tally and
the DISPLAY with tone LOCKED; a HEAD_STATUS of PRINTER_OFFLINE and the lock key position that stood, with no slip in
the queue, leaves u with the credit and the token reported. (Cites: R4, R5, R7, R10, R13, R15.) -/
def Obligations.FramesOutsideActive : Prop :=
  ∀ (n : StationNo) (s : State),
    ((s.st n).line.link = .check →
      (∀ symbol, validSymbol symbol = true → (∃ b, classify symbol = .borrower b) ∨ (∃ k c m, classify symbol = .item k c m) →
        exec (.scan n symbol) s = .next
          ((((s.heard n).updLine n fun l => { l with history := (l.history ++ [Quality.good]).drop (l.history.length - 7) }).stick
            { classClamped := (classify symbol).clamped }).sending (s.toHead n [s.displayNow n .locked]))) ∧
      ∀ k, exec (.key n k) s = .next ((s.heard n).onlyTone n .locked)) ∧
    ((s.st n).line.link = .detached → ∃ u, exec (.attach n) s = .next u ∧
      let drawn (v : State) (tone : Tone) := v.sending (u.sent ++ [.desk n (u.displayNow n tone)])
      let noted (q : Quality) := u.updLine n fun l => { l with history := [q] }
      (∀ k, exec (.key n k) s = .next (drawn u .locked)) ∧
      (∀ symbol, validSymbol symbol = true →
        ((∃ b, classify symbol = .borrower b) ∨ (∃ k c m, classify symbol = .item k c m) → exec (.scan n symbol) s = .next
          (drawn ((noted .good).stick { classClamped := (classify symbol).clamped }) .locked)) ∧
        (∀ k, classify symbol = .badge k →
          (s.badges.contains k = false → exec (.scan n symbol) s = .next (drawn (noted .good) .refuse)) ∧
          (s.badges.contains k = true → ∃ t, exec (.scan n symbol) s = .next t ∧ (t.st n).line.link = .active ∧
            (t.st n).line.history = [.good])) ∧
        (classify symbol = .badCheck ∨ classify symbol = .badForm → (s.st n).line.threshold ≠ 1 →
          exec (.scan n symbol) s = .next (drawn ((noted .bad).updTallies n fun x =>
            { x with badScans := min 4294967295 (x.badScans + 1) }) .locked))) ∧
      ∀ r, validReport r = true → r.printer = .offline → r.lockKey = (s.st n).line.lockKey →
        (u.st n).slips.order = [] → (∀ i : Fin 4, (u.st n).slips.slots[i] = .free ∨ (u.st n).slips.slots[i] = .reserved) →
        exec (.headStatus n r) s = .next ((u.updLine n fun l => { l with credit := r.credit }).updSlips n fun q =>
          { q with lastPrinted := r.token, reported := true }))

/-- O6. At a line in CHECK whose station is IDLE with a cleared context, a scan of a listed badge moves the link to ACTIVE
with the GOOD entry in the history, the transaction, the slip queue and the tallies as they were, L0 in neither set
when the printer is not at fault, and a last DISPLAY of state IDLE with tone ACCEPT; a badge that is not listed, at a
line in CHECK or ACTIVE, changes the silence timer and the history only and draws tone REFUSE. A BAD_CHECK or BAD_FORM
scan in CHECK draws tone LOCKED and in ACTIVE tone BAD_SCAN, raises the bad-scans tally (at most 4294967295) and
enters a BAD entry. Where the bad count of the last eight does not rise from below a threshold above 0 to the
threshold or more, nothing else changes. Where it does, and the hold condition stands as the in-service set gives it
(an invariant of the model, stated as TransactionInvariant), L7 is requested: with L7 outside the auto-ack set it then
stands pending or in service, and with both sets empty and L7 unmasked a DISPLAY of L7 with index 0 and tone NONE is
sent. That the DISPLAY with tone ACCEPT comes last, after those of the withdrawal of L0, is the model's choice (log
entry 11). (Cites: R2, R7, R8, R14, R15, R70, R143.) -/
def Obligations.ScansCountAndClear : Prop :=
  ∀ (n : StationNo) (symbol : Text) (s : State), validSymbol symbol = true →
    (∀ k, classify symbol = .badge k →
      ((s.st n).line.link ≠ .detached → s.badges.contains k = false → exec (.scan n symbol) s = .next
        ((s.scanned n .good).sending [.desk n (s.displayNow n .refuse)])) ∧
      ((s.st n).line.link = .check → s.badges.contains k = true → (s.st n).ctx = (s.st n).ctx.cleared → ∃ t, exec (.scan n symbol) s = .next t ∧
        (t.st n).line = { ((s.scanned n .good).st n).line with link := .active } ∧ (t.st n).ctx = (s.st n).ctx ∧
        (t.st n).slips = (s.st n).slips ∧ (t.st n).tallies = (s.st n).tallies ∧
        (printerFault (s.st n).line.printer = false →
          (t.st n).alerts.pending.mem .l0 = false ∧ (t.st n).alerts.inService.mem .l0 = false) ∧
        t.sent.getLast? = some (.desk n (.display (some .idle) (t.st n).alerts.showing.1 (t.st n).alerts.showing.2 .accept)) ∧
        (∀ m, m ≠ n → t.st m = s.st m) ∧ t = { s with stations := t.stations, sent := t.sent })) ∧
    (classify symbol = .badCheck ∨ classify symbol = .badForm → (s.st n).line.link ≠ .detached →
      let tone : Tone := if (s.st n).line.link = .check then .locked else .badScan
      let bads (h : List Quality) := h.countP (fun q => decide (q = .bad))
      let old := (s.st n).line.history
      let new := ((s.scanned n .bad).st n).line.history
      let T := (s.st n).line.threshold
      let counted := (s.scanned n .bad).updTallies n fun x => { x with badScans := min 4294967295 (x.badScans + 1) }
      (¬ (0 < T ∧ bads old < T ∧ T ≤ bads new) →
        exec (.scan n symbol) s = .next (counted.sending [.desk n (s.displayNow n tone)])) ∧
      (0 < T → bads old < T → T ≤ bads new → (s.st n).alerts.hold = (s.st n).alerts.holds →
        ∃ t, exec (.scan n symbol) s = .next t ∧
        (t.st n).line = (counted.st n).line ∧ (t.st n).tallies = (counted.st n).tallies ∧
        ((s.st n).alerts.autoAck.mem .l7 = false →
          (t.st n).alerts.pending.mem .l7 = true ∨ (t.st n).alerts.inService.mem .l7 = true) ∧
        ((s.st n).alerts.pending = .empty → (s.st n).alerts.inService = .empty → (s.st n).alerts.mask.mem .l7 = false →
          .desk n (.display (s.st n).shownState (some .l7) 0 .none) ∈ t.sent) ∧
        (∀ m, m ≠ n → t.st m = s.st m) ∧ t = { s with stations := t.stations, sent := t.sent }))

/-- O7. At an ACTIVE, IDLE, unlocked station with a FREE slip slot, neither L0 in service nor a hold. The entry settles
the check where it is LOADED, and any entry does where the service is OFFLINE or the query table is full (the
fallbacks count then rises). With no counted reason present (unmasked, in the hold set) the transaction is OPEN of
kind CHARGE for that borrower, TRACKED, RESERVED, its timer at full period, the masked reason mark set when a present
reason is masked; the frames are CHECKING NONE and OPEN ACCEPT; the other stations, the tables and the journal stay,
and of the recency list only a LEARNED entry moves, to its head. With counted reasons, both sets empty and none of L1
to L5 auto-acknowledged, the station is HELD from CHECKING: the counted reasons are outstanding, the level of each,
and no other, is pending or in service, MANUAL's with its message index and LIMIT's with origin BORROWER, the hold
condition holds, the first DISPLAY is CHECKING NONE and no record is written. With the service ONLINE or DEGRADED, no
LOADED entry and a FREE query entry, BORROWER_LOOKUP goes out with the next generation, the check keeps the tag, the
station stays CHECKING and no table changes. With the service OFFLINE and no entry, at a station with a cleared
context, no slot RESERVED and no configuration staged: under REFUSE, with the journal ready, a REFUSAL record STRANGER
LOCAL joins the page, the refusals tally rises and the station is IDLE again. Under ADMIT, with the journal ready,
fewer than 4096 entries and no reason present for a stranger, a BORROWER_NEW record LOCAL joins the page, a
PROVISIONAL entry of category 15 stands, the pending loans counted, the changed mark set, and the transaction is OPEN
with the record's number as its first. Under ADMIT with no FILLING page and the alarms settled, the record is lost to
the overflow count, the borrower is refused with tone REFUSE and index 250, the refusals tally rises, no entry is
created and the station is IDLE. (Cites: R21, R22, R24, R31, R42, R53, R55, R57, R58, R110, R134, R139.) -/
def Obligations.BorrowerScansInIdle : Prop :=
  ∀ (n : StationNo) (symbol : Text) (b : Nat) (i : Fin 4) (s : State),
    validSymbol symbol = true → classify symbol = .borrower b → (s.st n).line.link = .active →
    (s.st n).ctx.tx = .idle → (s.st n).ctx.locked = false → (s.st n).slips.freeSlot = some i →
    (s.st n).alerts.inService.mem .l0 = false → (s.st n).alerts.hold = false →
    let taken (tx : TxState) : Ctx := { (s.st n).ctx with
      tx := tx, kind := some .charge, borrower := some b, tracked := true, view := none, outstanding := [],
      maskedReason := false, holding := some .reserved }
    let opened (masked : Bool) (first : Option Nat) : Ctx := { taken .opened with
      maskedReason := masked, firstSeq := first, lookup := none, timer := .running (s.st n).ctx.period }
    let shows (st : TxState) (index : Nat) (tone : Tone) : Out := .desk n (.display (some st) (s.st n).alerts.displayed index tone)
    let reserved (t : State) : Prop :=
      (t.st n).slips.slots = (s.st n).slips.slots.set i .reserved ∧ (∀ m, m ≠ n → t.st m = s.st m) ∧
        t.borrowers = s.borrowers ∧ t.journal = s.journal
    (∀ e : Borrower, s.borrower? b = some e →
      (e.origin = .loaded ∨ s.service.state = .offline ∨ s.freeTag = none) →
      let alerts := (s.st n).alerts
      let counts (r : BlockReason) : Bool := !alerts.mask.mem r.level && alerts.holdSet.mem r.level
      let counted := (s.reasons e).filter counts
      let masked := (s.reasons e).any fun r => alerts.mask.mem r.level
      let recency := if e.origin = .learned then b :: s.recency.filter (· != b) else s.recency
      let asked := e.origin ≠ .loaded ∧ s.service.state ≠ .offline
      (counted = [] → ∃ t, exec (.scan n symbol) s = .next t ∧ reserved t ∧
        (t.st n).ctx = opened masked (s.st n).ctx.firstSeq ∧ t.recency = recency ∧
        t.service.stats.fallbacks = (if asked then min 4294967295 (s.service.stats.fallbacks + 1) else s.service.stats.fallbacks) ∧
        t.sent = [shows .checking 0 .none, shows .opened 0 .accept] ∧
        t = { s with stations := t.stations, recency := recency, service := t.service, sent := t.sent }) ∧
      (counted ≠ [] → alerts.pending = .empty → alerts.inService = .empty →
        (∀ r : BlockReason, alerts.autoAck.mem r.level = false) →
        ∃ t, exec (.scan n symbol) s = .next t ∧ reserved t ∧ (t.st n).ctx.tx = .held ∧
          (t.st n).ctx.interrupted = some .checking ∧ (t.st n).ctx.outstanding = counted ∧
          (t.st n).ctx.maskedReason = masked ∧ (t.st n).ctx.borrower = some b ∧ (t.st n).alerts.hold = true ∧
          (∀ r : BlockReason, ((t.st n).alerts.pending.mem r.level || (t.st n).alerts.inService.mem r.level) = counted.contains r) ∧
          (.manual ∈ counted → (t.st n).alerts.index[Level.l1.idx] = e.manual.getD 0) ∧
          (.limit ∈ counted → (t.st n).alerts.origin = some .borrower) ∧
          t.sent.head? = some (shows .checking 0 .none) ∧ t.recency = recency ∧ (t.st n).tallies = (s.st n).tallies)) ∧
    ((∀ e, s.borrower? b = some e → e.origin ≠ .loaded) → s.service.state ≠ .offline → ∀ g : Tag, s.freeTag = some g →
      let gen := (s.queries[g].gen + 1) % 256
      let q : Question := ⟨n, .borrowerLookup, b, none, none⟩
      ∃ t, exec (.scan n symbol) s = .next t ∧ reserved t ∧
        (t.st n).ctx = { taken .checking with lookup := some (g, gen) } ∧
        t.queries = s.queries.set g ⟨gen, .waiting q s.service.patience⟩ ∧ t.recency = s.recency ∧ t.loans = s.loans ∧
        t.sent = [shows .checking 0 .none, .trunk (.query g.val gen q 0)] ∧
        t.service = { s.service with stats := { s.service.stats with sent := min 4294967295 (s.service.stats.sent + 1) } }) ∧
    (s.borrower? b = none → s.service.state = .offline → (s.st n).ctx = (s.st n).ctx.cleared →
      (∀ k : Fin 4, (s.st n).slips.slots[k] ≠ .reserved) → (s.st n).alerts.staged = none →
      let e : Borrower :=
        { number := b, origin := .provisional, category := 15, manual := none, expiry := none, balance := 0
          onLoan := min 255 (s.loans.countP fun l => l.borrower == b), overdue := 0, changed := true, inFlight := false }
      (∀ p, s.ready p →
        (s.service.policy = .refuse → ∃ t r, exec (.scan n symbol) s = .next t ∧ r.kind = .refusal ∧ r.station = some n ∧
          r.decidedBy = .localPart ∧ r.borrower = some b ∧ r.item = none ∧ r.reason = some .stranger ∧
          t.journal = (s.recorded p r).journal ∧ (t.st n).ctx = (s.st n).ctx ∧ (t.st n).slips = (s.st n).slips ∧
          (t.st n).tallies = ((s.refusalCounted n).st n).tallies ∧ (∀ m, m ≠ n → t.st m = s.st m) ∧
          t.sent = [shows .checking 0 .none, shows .idle 0 .refuse] ∧
          t = { s with stations := t.stations, journal := t.journal, sent := t.sent }) ∧
        (s.service.policy = .admits → s.borrowers.length < 4096 → s.reasons e = [] →
          ∃ t r, exec (.scan n symbol) s = .next t ∧ r.kind = .borrowerNew ∧ r.station = some n ∧
            r.decidedBy = .localPart ∧ r.borrower = some b ∧ t.journal = (s.recorded p r).journal ∧
            t.borrower? b = some e ∧ (∀ c, c ≠ b → t.borrower? c = s.borrower? c) ∧ t.recency = s.recency ∧
            (t.st n).ctx = opened false (some s.journal.counter) ∧
            (t.st n).slips.slots = (s.st n).slips.slots.set i .reserved ∧
            t.sent = [shows .checking 0 .none, shows .opened 0 .accept])) ∧
      (s.journal.filling? = none → s.alarmsSettled → s.service.policy = .admits →
        exec (.scan n symbol) s = .next ((s.lost.refusalCounted n |>.updLine n fun _ => ((s.scanned n .good).st n).line).sending
          [shows .checking 0 .none, shows .idle 250 .refuse])))

/-- O8. At an ACTIVE station that is LOCKED, a scan that is a borrower number in IDLE, OPEN or RETURNS, or in OPEN an item
that the list does not hold, leaves the transaction, the tables and the journal as they are: the next state differs
only in the silence timer, the history with one GOOD entry more, the CLASS_CLAMPED sticky flag for a clamped label,
and the DISPLAY with tone LOCKED. (Cites: R14, R15, R21, R26, R39, R44.) -/
def Obligations.LockedStationRefusesScans : Prop :=
  ∀ (n : StationNo) (symbol : Text) (s : State), validSymbol symbol = true → (s.st n).line.link = .active →
    (s.st n).ctx.locked = true →
    ((∃ b, classify symbol = .borrower b) ∧
        ((s.st n).ctx.tx = .idle ∨ (s.st n).ctx.tx = .opened ∨ (s.st n).ctx.tx = .returns) ∨
      (∃ k c m, classify symbol = .item k c m ∧ (s.st n).ctx.holdsItem k = false) ∧ (s.st n).ctx.tx = .opened) →
      exec (.scan n symbol) s = .next
        ((((s.heard n).updLine n fun l => { l with history := (l.history ++ [Quality.good]).drop (l.history.length - 7) }).stick
          { classClamped := (classify symbol).clamped }).sending (s.toHead n [s.displayNow n .locked]))

/-- O9. At an ACTIVE, OPEN, unlocked station without a hold, with list room and fewer than four AWAITING; the new entry
has the label's class and clamp mark. With the journal ready, both alert sets empty and L6 neither masked nor auto-
acknowledged, a REFERENCE, WITHDRAWN or HOLD-for-another-borrower exception refuses the item with its REFUSAL record
and reason, raises the refusals tally and puts L6 in service; no table changes. With no such exception, and below the
limit of the borrower's category (entries waiting for REPLY count as loans): with the service OFFLINE (decided LOCAL,
OFFLINE_DECIDED), or ONLINE or DEGRADED with no FREE query entry (decided FALLBACK, detail LOCAL_FALLBACK), a loaded
rule and calendar and the pending loan list not full, the entry is GRANTED with the computed due time; the borrower
has one item on loan more (at most 255), changed mark set, in-flight mark clear; the pending loan list ends with the
new entry; a CHARGE record joins the page; the charges tally rises; an exception entry of the item is gone, and for a
MISSING one an ITEM_FOUND record follows and L6 is pending or in service; else the timer restarts. With no FILLING
page the decision is turned into a refusal: the entry is REFUSED, without a due time, the refusals tally and the
overflow count rise by one, JOURNAL_OVERFLOWED is set, the last DISPLAY is REFUSE with index 250, and the tables stay;
that it has no decided-by is the model's choice (log entry 26). Below the limit, or at it with L5 not counted (masked,
which sets the masked reason mark, or outside the hold set), with the service ONLINE or DEGRADED and a FREE query
entry: CHARGE_REQUEST goes out with the next generation, the entry waits for REPLY with that tag, and no table or
tally changes. At or above the limit with L5 counted, both sets empty and L5 not auto-acknowledged: the entry waits
for OVERRIDE, L5 is in service with origin ITEM, the station is HELD from OPEN, its timer gated at full period, with
no record and no query. (Cites: R24, R26, R27, R28, R29, R30, R31, R60, R69, R110, R126, R171.) -/
def Obligations.ChargesByCase : Prop :=
  ∀ (n : StationNo) (symbol : Text) (item cls b : Nat) (m : Bool) (s : State),
    validSymbol symbol = true → classify symbol = .item item cls m → (s.st n).line.link = .active →
    (s.st n).ctx.tx = .opened → (s.st n).ctx.kind = some .charge → (s.st n).ctx.borrower = some b →
    (s.st n).ctx.locked = false → (s.st n).ctx.holdsItem item = false → (s.st n).ctx.items.length < 12 →
    (s.st n).ctx.awaiting < 4 → (s.st n).alerts.hold = false →
    let scan := exec (.scan n symbol) s
    let joined (t : State) (x : Item) (st : ItemState) : Prop := (t.st n).ctx.items = (s.st n).ctx.items ++ [x] ∧
      x.number = item ∧ x.cls = cls ∧ x.state = st ∧ x.flags.classClamped = m ∧ ∀ k, k ≠ n → t.st k = s.st k
    let tables (t : State) : Prop := t.borrowers = s.borrowers ∧ t.loans = s.loans ∧ t.exceptions = s.exceptions
    let quiet (l : Level) : Prop := (s.st n).alerts.pending = .empty ∧ (s.st n).alerts.inService = .empty ∧
      (s.st n).alerts.mask.mem l = false ∧ (s.st n).alerts.autoAck.mem l = false
    (∀ p r, s.ready p → quiet .l6 →
      (s.exception? item = some .reference ∧ r = .reference ∨ s.exception? item = some .withdrawn ∧ r = .withdrawn ∨
        r = .holdOther ∧ ∃ h, s.exception? item = some (.hold h) ∧ h ≠ b) →
      ∃ t x y, scan = .next t ∧ joined t x .refused ∧ tables t ∧ y.kind = .refusal ∧ y.station = some n ∧
        y.decidedBy = .noOne ∧ y.borrower = some b ∧ y.item = some item ∧ y.reason = some r ∧
        t.journal = (s.recorded p y).journal ∧ (t.st n).tallies = ((s.refusalCounted n).st n).tallies ∧
        (t.st n).alerts.inService = LevelSet.empty.insert .l6) ∧
    ((s.exception? item = none ∨ s.exception? item = some (.hold b) ∨ s.exception? item = some .missing) →
      ∀ (e : Borrower) (k : Category), s.borrower? b = some e → s.category? e.category = some k →
      let total := e.onLoan + ((s.st n).ctx.items.filter Item.waitsReply).length
      let counted := (s.st n).alerts.mask.mem .l5 = false ∧ (s.st n).alerts.holdSet.mem .l5 = true
      let off := decide (s.service.state = .offline)
      (∀ (index : Nat) (c : Calendar) (r : Rule), total < k.itemsLimit → (off = true ∨ s.freeTag = none) →
        s.activeBank.calendar? = some c → s.ruleIndex? cls e.category = some index → s.rule? index = some r →
        s.alarmsSettled → s.loans.length < 512 →
        let d := computeDue c r s.now e.expiry
        let by_ : DecidedBy := if off then .localPart else .fallback
        (∀ p : Fin 128, s.journal.filling? = some p → s.journal.pages[p].records.length < 62 → s.evalJournal = s →
          ∃ t x, scan = .next t ∧ joined t x .granted ∧ x.due = some d.due ∧ x.decidedBy = some by_ ∧
            x.flags = (ResultFlags.union { classClamped := m, offlineDecided := off } d.flags) ∧
            t.borrower? b = some { e with onLoan := min 255 (e.onLoan + 1), changed := true, inFlight := false } ∧
            t.loans = (s.loans.filter fun l => l.item != item) ++ [⟨item, b, d.due, index, s.journal.counter⟩] ∧
            t.exceptions = s.exceptions.filter (fun y => y.item != item) ∧
            (∃ y, t.journal.pages[p].records[s.journal.pages[p].records.length]? = some y ∧ y.kind = .charge ∧
              y.seq = s.journal.counter ∧ y.borrower = some b ∧ y.item = some item ∧ y.due = some d.due ∧
              y.ruleIndex = some index ∧ y.bankGen = some s.generation ∧ y.decidedBy = by_ ∧ y.flags.classClamped = m ∧
              y.detail = if off then none else some .localFallback) ∧
            (t.st n).tallies = { (s.st n).tallies with charges := min 4294967295 ((s.st n).tallies.charges + 1) } ∧
            (s.exception? item ≠ some .missing → (t.st n).ctx.timer = .running (s.st n).ctx.period ∧
              t.journal.pages[p].records.length = s.journal.pages[p].records.length + 1) ∧
            (s.exception? item = some .missing →
              ((s.st n).alerts.autoAck.mem .l6 = false →
                ((t.st n).alerts.pending.mem .l6 || (t.st n).alerts.inService.mem .l6) = true) ∧
              ∃ y, t.journal.pages[p].records.getLast? = some y ∧ y.kind = .stationEvent ∧ y.detail = some .itemFound ∧
                y.item = some item ∧ y.seq = (s.journal.counter + 1) % 4294967296)) ∧
        (s.journal.filling? = none → ∃ t x, scan = .next t ∧ joined t x .refused ∧ tables t ∧
          x.due = none ∧ x.decidedBy = none ∧ (t.st n).ctx.tx = .opened ∧
          t.journal = s.lost.journal ∧ t.mgmt.sticky.journalOverflowed = true ∧
          (t.st n).tallies = ((s.refusalCounted n).st n).tallies ∧
          t.sent.getLast? = some (.desk n (.display (some .opened) (s.st n).alerts.displayed 250 .refuse)) ∧
          (t.st n).ctx.timer = .running (s.st n).ctx.period)) ∧
      (∀ g : Tag, (total < k.itemsLimit ∨ ¬ counted) → off = false → s.freeTag = some g →
        let gen := (s.queries[g].gen + 1) % 256
        let q : Question := ⟨n, .chargeRequest, item, some b, some (s.st n).ctx.items.length.succ⟩
        ∃ t x, scan = .next t ∧ joined t x .awaiting ∧ tables t ∧ x.waiting = some .reply ∧ x.query = some (g, gen) ∧
          t.queries = s.queries.set g ⟨gen, .waiting q s.service.patience⟩ ∧ t.journal = s.journal ∧
          (t.st n).tallies = (s.st n).tallies ∧ (t.st n).ctx.timer = .running (s.st n).ctx.period ∧
          (t.st n).ctx.maskedReason =
            ((s.st n).ctx.maskedReason || (decide (k.itemsLimit ≤ total) && (s.st n).alerts.mask.mem .l5)) ∧
          t.sent = [.trunk (.query g.val gen q cls), .desk n (.display (some .opened) (s.st n).alerts.displayed 0 .none)]) ∧
      (k.itemsLimit ≤ total → counted → quiet .l5 →
        ∃ t x, scan = .next t ∧ joined t x .awaiting ∧ tables t ∧ x.waiting = some .override ∧ x.query = none ∧
          (t.st n).alerts.inService = LevelSet.empty.insert .l5 ∧ (t.st n).alerts.pending = .empty ∧
          (t.st n).alerts.origin = some .item ∧ (t.st n).alerts.hold = true ∧ (t.st n).ctx.tx = .held ∧
          (t.st n).ctx.interrupted = some .opened ∧ (t.st n).ctx.timer = .gated (s.st n).ctx.period ∧
          t.journal = s.journal ∧ t.queries = s.queries ∧ (t.st n).tallies = (s.st n).tallies ∧
          t.sent.getLast? = some (.desk n (.display (some .held) (some .l5) 0 .none))))

/-- O10. At an ACTIVE station that is in RETURNS with room and without the item, or IDLE with L0 not in service (a run
then opens), and no hold; the entry that joins carries the class and the clamp mark of the label. With no exception
for the item and the journal ready: an item on the pending loan list, whose fine f the active bank gives, is RETURNED
with that fine, decided LOCAL, its DISCHARGE record last in the page, the borrower's entry posted (items on loan and,
when late, overdue count one lower, the fine added, the changed mark set), the entry off the list, the tallies raised.
An item off the list is RETURNED with FINE_PENDING and no fine, and posts nothing, with the service OFFLINE (decided
LOCAL, OFFLINE_DECIDED) and with it ONLINE or DEGRADED and no FREE query entry (decided FALLBACK). With a FREE one, a
DISCHARGE_REQUEST with the next generation goes to the server, the item waits for REPLY with that tag, and no table
and no record changes. With an exception for the item, the service OFFLINE, the item off the list, room for two
records, both alert sets empty and L6 neither masked nor auto-acknowledged: the item is RETURNED likewise and L6 is in
service; a HOLD entry gives its last four digits as the hold routing and stays; a MISSING entry is gone, and its
ITEM_FOUND record precedes the DISCHARGE record; an entry of another kind stays and requests nothing. With no
exception, no FILLING page and the alarms settled, an item on the pending loan list, or any item with the service
OFFLINE, becomes REFUSED without a fine: the refusals tally and the overflow count rise by one each,
JOURNAL_OVERFLOWED is set, the last DISPLAY carries tone REFUSE and index 250, and the borrower table and the pending
loan list are as they were; that the entry has no decided-by is the model's choice (log entry 26). (Cites: R31, R32,
R33, R34, R61, R69, R91, R92, R110, R128, R163, R171.) -/
def Obligations.DischargesByCase : Prop :=
  ∀ (n : StationNo) (symbol : Text) (item cls : Nat) (m : Bool) (s : State), validSymbol symbol = true →
    classify symbol = .item item cls m → (s.st n).line.link = .active → (s.st n).alerts.hold = false →
    ((s.st n).ctx.tx = .returns ∧ (s.st n).ctx.kind = some .discharge ∧ (s.st n).ctx.holdsItem item = false ∧
        (s.st n).ctx.items.length < 12 ∧ (s.st n).ctx.awaiting < 4 ∨
      (s.st n).ctx.tx = .idle ∧ (s.st n).ctx = (s.st n).ctx.cleared ∧ (s.st n).alerts.inService.mem .l0 = false) →
    let joined (t : State) (x : Item) : Prop := (t.st n).ctx.items = (s.st n).ctx.items ++ [x] ∧ x.number = item ∧
      x.cls = cls ∧ x.flags.classClamped = m ∧ (t.st n).ctx.tx = .returns ∧ (t.st n).ctx.kind = some .discharge ∧
      ∀ k, k ≠ n → t.st k = s.st k
    (s.exception? item = none → ∀ p : Fin 128, s.ready p → ∃ t x, exec (.scan n symbol) s = .next t ∧ joined t x ∧
      (t.st n).ctx.timer = .running (s.st n).ctx.period ∧
      (∀ l f, s.loan? item = some l → s.canFine = true →
        s.fineFrom l.ruleIndex (((s.borrower? l.borrower).map (·.category)).getD 15) l.due s.now = some f →
        s.discharged t n p x .localPart (some l.borrower) (some l.due) (some l.ruleIndex) (some f) ∧
          t.loans = s.loans.filter (fun y => y.item != item)) ∧
      (s.loan? item = none → s.service.state = .offline →
        s.discharged t n p x .localPart none none none none ∧ x.flags.finePending = true ∧
          x.flags.offlineDecided = true ∧ t.loans = s.loans) ∧
      (s.loan? item = none → s.service.state ≠ .offline → s.freeTag = none →
        s.discharged t n p x .fallback none none none none ∧ x.flags.finePending = true ∧
          x.flags.offlineDecided = false ∧ t.loans = s.loans ∧
          t.service.stats.fallbacks = min 4294967295 (s.service.stats.fallbacks + 1)) ∧
      (s.loan? item = none → s.service.state ≠ .offline → ∀ g : Tag, s.freeTag = some g →
        let gen := (s.queries[g].gen + 1) % 256
        let q : Question := ⟨n, .dischargeRequest, item, none, some (s.st n).ctx.items.length.succ⟩
        x.state = .awaiting ∧ x.waiting = some .reply ∧ x.query = some (g, gen) ∧
          t.queries = s.queries.set g ⟨gen, .waiting q s.service.patience⟩ ∧
          .trunk (.query g.val gen q 0) ∈ t.sent ∧ t.journal = s.journal ∧ t.borrowers = s.borrowers ∧
          t.loans = s.loans ∧ (t.st n).tallies = (s.st n).tallies)) ∧
    (∀ (p : Fin 128) (kind : ExceptionKind), s.ready p → s.journal.pages[p].records.length < 62 →
      s.exception? item = some kind → s.loan? item = none → s.service.state = .offline →
      (s.st n).alerts.pending = .empty → (s.st n).alerts.inService = .empty → (s.st n).alerts.mask.mem .l6 = false →
      (s.st n).alerts.autoAck.mem .l6 = false →
      ∃ t x r, exec (.scan n symbol) s = .next t ∧ joined t x ∧ x.state = .returned ∧ x.flags.finePending = true ∧
        x.decidedBy = some .localPart ∧ t.borrowers = s.borrowers ∧ t.loans = s.loans ∧
        x.routing = (match kind with | .hold h => some (.digits (h % 10000)) | _ => none) ∧
        t.exceptions = (if kind = .missing then s.exceptions.filter (fun y => y.item != item) else s.exceptions) ∧
        (t.st n).alerts.inService = (match kind with | .hold _ | .missing => LevelSet.empty.insert .l6 | _ => .empty) ∧
        t.journal.pages[p].records.getLast? = some r ∧ r.kind = .discharge ∧ r.item = some item ∧
        t.journal.pages[p].records.length = s.journal.pages[p].records.length + (if kind = .missing then 2 else 1) ∧
        (kind = .missing → ((t.journal.pages[p].records[s.journal.pages[p].records.length]?).map fun y =>
          (y.kind, y.detail, y.item)) = some (.stationEvent, some .itemFound, some item))) ∧
    (s.exception? item = none → s.journal.filling? = none → s.alarmsSettled →
      (s.loan? item).isSome = true ∨ s.service.state = .offline →
      ∃ t x, exec (.scan n symbol) s = .next t ∧ joined t x ∧ x.state = .refused ∧ x.fine = none ∧ x.decidedBy = none ∧
        t.borrowers = s.borrowers ∧ t.loans = s.loans ∧ t.journal = s.lost.journal ∧
        t.mgmt.sticky.journalOverflowed = true ∧ (t.st n).tallies = ((s.refusalCounted n).st n).tallies ∧
        t.sent.getLast? = some (.desk n (.display (some .returns) (s.st n).alerts.displayed 250 .refuse)))

/-- O11. At an ACTIVE station: in OPEN with an AWAITING entry the transaction enters CLOSING with its timer stopped and a
DISPLAY with tone NONE; in OPEN without one the close completes, and, when no next action is held, the context is
cleared, so that the transaction is IDLE with an empty list, and the slip is settled: with the transaction RESERVED,
slot i the only RESERVED one and the credit view at 0, that slot is QUEUED with the slip's text at the newest handing
position where an entry is GRANTED, and FREE where none is; in IDLE, CHECKING and RETURNS the key draws tone REFUSE,
in HELD tone HELD, in CLOSING tone BUSY, and has no other effect. Every decoded frame also restarts the silence timer.
(Cites: R1, R35, R39, R41, R151, R152.) -/
def Obligations.ChargeKeyByState : Prop :=
  ∀ (n : StationNo) (s : State), (s.st n).line.link = .active →
    ((s.st n).ctx.tx = .opened → (s.st n).ctx.awaiting ≠ 0 →
      exec (.key n .charge) s = .next
        (((s.heard n).updCtx n fun c => { c with timer := .stopped, tx := .closing }).sending
          [.desk n (.display (some .closing) (s.st n).alerts.displayed 0 .none)])) ∧
    ((s.st n).ctx.tx = .opened → (s.st n).ctx.awaiting = 0 →
      ∃ t, exec (.key n .charge) s = .next t ∧
        ((s.st n).ctx.next = .none → (t.st n).ctx = (s.st n).ctx.cleared ∧
          ∀ i : Fin 4, (s.st n).ctx.holding = some .reserved → (s.st n).slips.slots[i] = .reserved →
            (∀ k : Fin 4, k ≠ i → (s.st n).slips.slots[k] ≠ .reserved) → (s.st n).line.credit = 0 →
            s.slipSettled t n i)) ∧
    ((s.st n).ctx.tx = .idle ∨ (s.st n).ctx.tx = .checking ∨ (s.st n).ctx.tx = .returns →
      exec (.key n .charge) s = .next ((s.heard n).onlyTone n .refuse)) ∧
    ((s.st n).ctx.tx = .held → exec (.key n .charge) s = .next ((s.heard n).onlyTone n .held)) ∧
    ((s.st n).ctx.tx = .closing → exec (.key n .charge) s = .next ((s.heard n).onlyTone n .busy))

/-- O12. At an ACTIVE station. RETURN in IDLE opens a discharge run, RESERVED where a slip slot is FREE and SLIPLESS
otherwise, its timer at full period, with tone ACCEPT; in OPEN it makes RETURN the next action and closes, and where
no entry is AWAITING a run is open afterwards with an empty list; in RETURNS it closes; in CLOSING it makes RETURN the
next action with tone BUSY; CHECKING draws REFUSE and HELD HELD. CANCEL in RETURNS closes likewise; in IDLE it does
nothing, in CHECKING it draws REFUSE, in CLOSING BUSY, and in HELD it is an acknowledge, the same as ACK. CANCEL in
OPEN draws REFUSE when no entry is left that is not VOID. Otherwise it takes the last such entry x: a GRANTED one,
with the journal ready, writes a VOID record, lowers the borrower's items on loan by one (not below 0) with the
changed mark set and the in-flight mark clear, drops the pending loan of its charge record and raises the voids tally;
an AWAITING one that waits for REPLY has its WAITING query LAPSED with decision VOID and countdown Q and changes no
table; a REFUSED one changes nothing else. The entry is VOID and one DISPLAY with tone ACCEPT is sent. With no FILLING
page and the alarms settled the GRANTED one keeps its state, the refusals tally and the overflow count rise by one
each, JOURNAL_OVERFLOWED is set, one DISPLAY with tone REFUSE and index 250 is sent, and nothing else changes. An
AWAITING one that waits for OVERRIDE becomes VOID without a record: while another entry waits so, nothing else changes
and one DISPLAY with tone ACCEPT is sent; when none is left, at a station with no hold reported, L5 stands in neither
set, no table, query, record or tally changes, and the last DISPLAY carries tone ACCEPT. (Cites: R25, R31, R32, R36,
R37, R38, R39, R41, R116, R128, R134, R171.) -/
def Obligations.ReturnAndCancelKeys : Prop :=
  ∀ (n : StationNo) (s : State), (s.st n).line.link = .active →
    let h := s.heard n
    let c := (s.st n).ctx
    let opensRun (x : State) (a : Holding) := x.updCtx n fun c => { c with
      tx := .returns, kind := some .discharge, holding := some a
      timer := if (s.st n).alerts.hold then .gated c.period else .running c.period }
    let accepted (st : TxState) : List Out := [.desk n (.display (some st) (s.st n).alerts.displayed 0 .accept)]
    let closing (k : Key) := exec (.key n k) s = .next ((h.updCtx n fun c => { c with timer := .stopped, tx := .closing }).sending
      [.desk n (.display (some .closing) (s.st n).alerts.displayed 0 .none)])
    (c.tx = .idle →
      (∀ i, (s.st n).slips.freeSlot = some i → exec (.key n .ret) s = .next
        ((opensRun (h.updSlips n fun q => { q with slots := q.slots.set i .reserved }) .reserved).sending (accepted .returns))) ∧
      ((s.st n).slips.freeSlot = none → exec (.key n .ret) s = .next ((opensRun h .slipless).sending (accepted .returns))) ∧
      exec (.key n .cancel) s = .next (h.sending [])) ∧
    (c.tx = .checking → exec (.key n .ret) s = .next (h.onlyTone n .refuse) ∧
      exec (.key n .cancel) s = .next (h.onlyTone n .refuse)) ∧
    (c.tx = .held → exec (.key n .ret) s = .next (h.onlyTone n .held) ∧
      exec (.key n .cancel) s = exec (.key n .ack) s) ∧
    (c.tx = .closing → exec (.key n .ret) s = .next ((h.updCtx n fun c => { c with next := .ret }).onlyTone n .busy) ∧
      exec (.key n .cancel) s = .next (h.onlyTone n .busy)) ∧
    (c.tx = .returns → (c.awaiting ≠ 0 → closing .ret ∧ closing .cancel) ∧
      (c.awaiting = 0 → c.next = .none → ∀ k, k = .ret ∨ k = .cancel →
        ∃ t, exec (.key n k) s = .next t ∧ (t.st n).ctx = c.cleared)) ∧
    (c.tx = .opened →
      (c.awaiting ≠ 0 → exec (.key n .ret) s = .next
        ((h.updCtx n fun c => { c with timer := .stopped, tx := .closing, next := .ret }).sending
          [.desk n (.display (some .closing) (s.st n).alerts.displayed 0 .none)])) ∧
      (c.awaiting = 0 → ∃ t, exec (.key n .ret) s = .next t ∧ (t.st n).ctx.tx = .returns ∧
        (t.st n).ctx.kind = some .discharge ∧ (t.st n).ctx.items = []) ∧
      ((∀ y ∈ c.items, y.state = .void) → exec (.key n .cancel) s = .next (h.onlyTone n .refuse)) ∧
      ∀ xs x ys, c.items = xs ++ x :: ys → (∀ y ∈ ys, y.state = .void) →
        let voided := xs ++ { x with state := .void, waiting := none, query := none, parked := none } :: ys
        (x.state = .refused → exec (.key n .cancel) s = .next
          ((h.updCtx n fun c => { c with items := voided }).sending (accepted .opened))) ∧
        (x.state = .awaiting → x.waiting = some .reply → ∀ g k q, x.query = some (g, s.queries[g].gen) →
          s.queries[g].state = .waiting q k → exec (.key n .cancel) s = .next
            ({ h.updCtx n (fun c => { c with items := voided }) with
              queries := s.queries.set g ⟨s.queries[g].gen, .lapsed q s.service.patience .void⟩ }.sending
                (accepted .opened))) ∧
        (x.state = .awaiting → x.waiting = some .override → x.query = none →
          ((∃ y ∈ xs, y.state = .awaiting ∧ y.waiting = some .override) → exec (.key n .cancel) s = .next
            ((h.updCtx n fun c => { c with items := voided }).sending (accepted .opened))) ∧
          ((∀ y ∈ xs, ¬ (y.state = .awaiting ∧ y.waiting = some .override)) → (s.st n).alerts.hold = false →
            ∃ t, exec (.key n .cancel) s = .next t ∧ (t.st n).ctx.items = voided ∧
              (t.st n).alerts.pending.mem .l5 = false ∧ (t.st n).alerts.inService.mem .l5 = false ∧
              (t.st n).tallies = (s.st n).tallies ∧ (t.st n).slips = (s.st n).slips ∧
              t.sent.getLast? = some (.desk n (t.displayNow n .accept)) ∧
              (∀ m, m ≠ n → t.st m = s.st m) ∧ t = { s with stations := t.stations, sent := t.sent })) ∧
        (x.state = .granted → s.journal.filling? = none → s.alarmsSettled → exec (.key n .cancel) s = .next
          ((h.lost.refusalCounted n).sending
            [.desk n (.display (some .opened) (s.st n).alerts.displayed 250 .refuse)])) ∧
        (x.state = .granted → ∀ p b e k, s.ready p → c.borrower = some b → s.borrower? b = some e →
          x.chargeSeq = some k → ∃ t r, exec (.key n .cancel) s = .next t ∧ (t.st n).ctx.items = voided ∧
            t.borrower? b = some { e with onLoan := e.onLoan - 1, changed := true, inFlight := false } ∧
            (∀ d, d ≠ b → t.borrower? d = s.borrower? d) ∧
            t.loans = s.loans.filter (fun l => l.chargeSeq != k) ∧
            r.kind = .void ∧ r.station = some n ∧ r.borrower = some b ∧ r.item = some x.number ∧
            t.journal = (s.recorded p r).journal ∧
            (t.st n).tallies = { (s.st n).tallies with voids := min 4294967295 ((s.st n).tallies.voids + 1) } ∧
            (∀ m, m ≠ n → t.st m = s.st m) ∧ t.sent = accepted .opened ∧
            t = { s with stations := t.stations, borrowers := t.borrowers, loans := t.loans, journal := t.journal,
                         sent := t.sent }))

/-- O13. At an ACTIVE station with no hold reported, not CLOSING, nothing pending and the acknowledged level the only one
in service: the in-service set is empty afterwards, the order is the rotation with that level lowest in ROTATING mode
and unchanged in FIXED mode, and one DISPLAY with no level and tone ACCEPT is sent. (Cites: R136, R140.) -/
def Obligations.AcknowledgeEndsNotice : Prop :=
  ∀ (n : StationNo) (l : Level) (s : State), (l = .l6 ∨ l = .l7) → (s.st n).line.link = .active →
    (s.st n).alerts.hold = false → (s.st n).ctx.tx ≠ .closing → (s.st n).alerts.pending = .empty →
    (s.st n).alerts.inService = LevelSet.empty.insert l →
      ∃ t, exec (.key n .ack) s = .next t ∧ (t.st n).alerts.inService = .empty ∧
        (t.st n).alerts.pending = .empty ∧
        (t.st n).alerts.lowest = (if (s.st n).alerts.mode = .rotating then l else (s.st n).alerts.lowest) ∧
        (t.st n).ctx = (s.st n).ctx ∧
        t.sent = [.desk n (.display (some (s.st n).ctx.tx) none 0 .accept)] ∧
        t = { s with stations := t.stations, sent := t.sent } ∧ ∀ m, m ≠ n → t.st m = s.st m

/-- O14. At an ACTIVE station whose displayed level l is one of L1 to L4, or L5 with origin other than ITEM, not pending
as well (an invariant of the model, stated as TransactionInvariant), in a charge transaction. ACK, with the journal
ready, writes a REFUSAL record of that level's reason and borrower, raises the refusals tally, frees the reserved slip
slot, clears the context to IDLE and leaves none of L1 to L5 in either set; its first DISPLAY shows IDLE, l and tone
REFUSE. A listed badge, with l in the hold set and the hold condition holding at a station HELD from CHECKING with an
empty list, nothing else in service and nothing pending, writes an OVERRIDE record with the reason, the borrower and
the badge, raises the overrides tally, empties the in-service set and ends the hold; the reason leaves the outstanding
set, and the transaction is OPEN with its timer at full period when none is left and CHECKING otherwise; the last
DISPLAY carries tone ACCEPT. With no FILLING page the same badge changes only the overflow count and
JOURNAL_OVERFLOWED: it draws tone REFUSE with index 250, and a further DISPLAY shows the level's own index where that
is not 250. (Cites: R23, R138, R140, R141, R143, R163, R171.) -/
def Obligations.BlockLevelEndings : Prop :=
  ∀ (n : StationNo) (l : Level) (r : BlockReason) (s : State), (s.st n).line.link = .active →
    (s.st n).alerts.displayed = some l → (s.st n).alerts.pending.mem l = false →
    l.reason? = some r → ¬ (l = .l5 ∧ (s.st n).alerts.origin = some .item) →
    (s.st n).ctx.kind = some .charge →
    (∀ p, s.ready p → ∃ t x, exec (.key n .ack) s = .next t ∧
      x.kind = .refusal ∧ x.station = some n ∧ x.decidedBy = .noOne ∧ x.borrower = (s.st n).ctx.borrower ∧
      x.item = none ∧ x.reason = some (.block r) ∧ t.journal = (s.recorded p x).journal ∧
      (t.st n).tallies = { (s.st n).tallies with refusals := min 4294967295 ((s.st n).tallies.refusals + 1) } ∧
      (t.st n).ctx = (s.st n).ctx.cleared ∧
      (∀ i : Fin 4, (s.st n).slips.slots[i] = .reserved → (∀ k : Fin 4, k ≠ i → (s.st n).slips.slots[k] ≠ .reserved) →
        (t.st n).slips = { (s.st n).slips with slots := (s.st n).slips.slots.set i .free }) ∧
      (∀ b ∈ [Level.l1, .l2, .l3, .l4, .l5], (t.st n).alerts.pending.mem b = false ∧
        (t.st n).alerts.inService.mem b = false) ∧
      t.sent.head? = some (.desk n (.display (some .idle) (some l) 0 .refuse)) ∧ (∀ m, m ≠ n → t.st m = s.st m) ∧
      t = { s with stations := t.stations, journal := t.journal, sent := t.sent }) ∧
    ∀ symbol k, validSymbol symbol = true → classify symbol = .badge k → s.badges.contains k = true →
      (s.st n).alerts.hold = true → (s.st n).alerts.holdSet.mem l = true →
      (∀ p, s.ready p → (s.st n).alerts.inService = LevelSet.empty.insert l → (s.st n).alerts.pending = .empty →
        (s.st n).ctx.tx = .held → (s.st n).ctx.interrupted = some .checking → (s.st n).ctx.items = [] →
        ∃ t x, exec (.scan n symbol) s = .next t ∧
          x.kind = .override ∧ x.station = some n ∧ x.decidedBy = .noOne ∧ x.borrower = (s.st n).ctx.borrower ∧
          x.item = none ∧ x.reason = some (.block r) ∧ x.badge = some k ∧ t.journal = (s.recorded p x).journal ∧
          (t.st n).tallies = { (s.st n).tallies with overrides := min 4294967295 ((s.st n).tallies.overrides + 1) } ∧
          (t.st n).alerts.inService = .empty ∧ (t.st n).alerts.hold = false ∧
          (let left := (s.st n).ctx.outstanding.filter (· != r)
           (t.st n).ctx.outstanding = left ∧ (t.st n).ctx.interrupted = none ∧
            (left = [] → (t.st n).ctx.tx = .opened ∧ (t.st n).ctx.timer = .running (s.st n).ctx.period) ∧
            (left ≠ [] → (t.st n).ctx.tx = .checking)) ∧
          t.sent.getLast? = some (.desk n (.display (some (t.st n).ctx.tx) none 0 .accept)) ∧
          (∀ m, m ≠ n → t.st m = s.st m) ∧ t = { s with stations := t.stations, journal := t.journal, sent := t.sent }) ∧
      (s.journal.filling? = none → s.alarmsSettled →
        exec (.scan n symbol) s = .next
          ({ (s.scanned n .good).updAlerts n (fun a => { a with shown := (some l, a.index[l.idx]) }) with
            journal := { s.journal with overflow := min 4294967295 (s.journal.overflow + 1) }
            mgmt := { s.mgmt with sticky := { s.mgmt.sticky with journalOverflowed := true } } }.sending
              (.desk n (.display (some (s.st n).ctx.tx) (some l) 250 .refuse) ::
                if (s.st n).alerts.index[l.idx] = 250 then []
                else [.desk n (.display (some (s.st n).ctx.tx) (some l) (s.st n).alerts.index[l.idx] .none)])))

/-- O15. At a line in CHECK or ACTIVE whose slip queue holds no slip, a report that repeats the printer state, with a
credit of at most 8 and a token of 1 to 65535 or none: where the lock key is repeated too, it changes only the silence
timer, the credit view and the last printed token, and sends nothing. Where the lock key differs, the position and the
station's KEY source become the reported one as well; when the station stays LOCKED, or stays unlocked, by its other
sources, that is all. When its LOCKED state changes and the journal is ready, a STATION_EVENT record LOCKED or
UNLOCKED with the station's flags joins the page, a LOCK_STATE notice with the three sources goes out and then a
DISPLAY with tone NONE. (Cites: R3, R10, R44, R156, R163, R204.) -/
def Obligations.HeadStatusWithoutSlips : Prop :=
  ∀ (n : StationNo) (r : HeadReport) (s : State), validReport r = true → (s.st n).line.link ≠ .detached →
    r.printer = (s.st n).line.printer → (s.st n).slips.order = [] →
    (∀ i, (s.st n).slips.slots[(i : Fin 4)] = .free ∨ (s.st n).slips.slots[i] = .reserved) →
    let taken := ((s.heard n).updLine n fun l => { l with credit := r.credit, lockKey := r.lockKey }).updSlips n
      fun q => { q with lastPrinted := r.token, reported := true }
    let turned := taken.updCtx n fun c => { c with lockKeySrc := r.lockKey }
    let c := (turned.st n).ctx
    (r.lockKey = (s.st n).line.lockKey → exec (.headStatus n r) s = .next (taken.sending [])) ∧
    (r.lockKey ≠ (s.st n).line.lockKey → c.locked = (s.st n).ctx.locked →
      exec (.headStatus n r) s = .next (turned.sending [])) ∧
    ∀ p, s.ready p → r.lockKey ≠ (s.st n).line.lockKey → c.locked ≠ (s.st n).ctx.locked →
      exec (.headStatus n r) s = .next ((turned.recorded p { s.record .stationEvent (some n) with
          flags := c.stationFlags, detail := some (if c.locked then .locked else .unlocked) }).sending
        (s.onTrunk [s.stamped (.lockState n c.locked c.lockCommand c.lockAlarm r.lockKey)] ++
          [.desk n (s.displayNow n .none)]))

/-- O16. At a line in CHECK or ACTIVE whose queue holds one slip, in slot i, with a report that repeats the lock key. With
the slip QUEUED, the printer READY before and after and a credit above 0: the slip takes the token counter's value, or
the next where that is the last printed token, the counter steps past it (65535 to 1), lines go out from 0 until the
credit or the text ends, the last one marked, and the credit falls by their number. The last printed token is the one
that stood, as R10 takes the credit before the token, and the one reported where this is the first HEAD_STATUS since
the reset, which is the model's choice (log entry 43); a report of the very token that the slip takes is left out.
With the slip INTERRUPTED under the reported token, or PRINTING under it with a credit of 0 reported, and no printer
change: the slot is FREE, the queue empty and the slips-printed tally one higher. With it PRINTING under the reported
token, no printer change and a printer that takes lines, whatever the credit reported: the lines that the credit
allows and the text still has go out first, the credit falls by their number, and the slip is complete likewise. At a
station that is not CLOSING, with the slip PRINTING and a report of a printer fault from READY or PRINTER_BUSY without
its token: it is INTERRUPTED under its token, the fault timer runs from 0 and the slips-printed tally stands. There
too, with it INTERRUPTED and a report of READY from a fault, without its token and with credit 0: it is PRINTING from
line 0 with its reprint mark, the fault timer is stopped and the slips-printed tally stands. With it PRINTING, all
lines sent, the printer READY before and after, credit 0 and another token reported: its ready count rises by one, and
at 3 it is to be printed again under its token with the reprint mark. (Cites: R10, R154, R155, R156, R157, R158,
R162.) -/
def Obligations.SlipPrinting : Prop :=
  ∀ (n : StationNo) (i : Fin 4) (r : HeadReport) (s : State), validReport r = true → (s.st n).line.link ≠ .detached →
    r.lockKey = (s.st n).line.lockKey → (s.st n).slips.order = [i] →
    (∀ k : Fin 4, k ≠ i → (s.st n).slips.slots[k] = .free ∨ (s.st n).slips.slots[k] = .reserved) →
    let q := (s.st n).slips
    let reported := (s.heard n).updLine n fun l => { l with credit := r.credit }
    (∀ text, q.slots[i] = .queued text → text ≠ [] → r.printer = .ready → (s.st n).line.printer = .ready → 0 < r.credit →
      let next (k : Nat) := if k = 65535 then 1 else k + 1
      let tok := if (if q.reported then q.lastPrinted else r.token) = some q.token then next q.token else q.token
      let m := min r.credit text.length
      q.token ≤ 65535 → r.token ≠ some tok → exec (.headStatus n r) s = .next
        (((reported.updLine n fun l => { l with credit := r.credit - m }).updSlips n fun q => { q with
          slots := q.slots.set i (.printing text tok m false (if m = text.length then 1 else 0))
          token := next tok, lastPrinted := r.token, reported := true }).sending
            ((List.range m).map fun j => .desk n (.slipLine tok j (text.getD j []) (decide (j + 1 = text.length)))))) ∧
    (∀ tok, r.token = some tok → q.slots[i].token? = some tok → r.printer = (s.st n).line.printer →
      ((∃ text, q.slots[i] = .interrupted text tok) ∨ r.credit = 0) →
      exec (.headStatus n r) s = .next
        (((reported.updSlips n fun q => { q with slots := q.slots.set i .free, order := [], lastPrinted := some tok, reported := true }).updTallies n
          fun x => { x with printed := min 4294967295 (x.printed + 1) }).sending [])) ∧
    (∀ text tok sent rep ready, q.slots[i] = .printing text tok sent rep ready → r.token = some tok →
      r.printer = (s.st n).line.printer → printerFault r.printer = false →
      let lines := streamed text rep
      let m := min r.credit (lines.length - sent)
      exec (.headStatus n r) s = .next
        ((((reported.updLine n fun l => { l with credit := r.credit - m }).updSlips n fun q =>
          { q with slots := q.slots.set i .free, order := [], lastPrinted := some tok, reported := true }).updTallies n
            fun x => { x with printed := min 4294967295 (x.printed + 1) }).sending
          ((List.range m).map fun j =>
            .desk n (.slipLine tok (sent + j) (lines.getD (sent + j) []) (decide (sent + j + 1 = lines.length)))))) ∧
    (∀ text tok sent rep ready, q.slots[i] = .printing text tok sent rep ready → r.token ≠ some tok →
      (printerFault r.printer = true → printerFault (s.st n).line.printer = false → (s.st n).ctx.tx ≠ .closing →
        ∃ t, exec (.headStatus n r) s = .next t ∧ (t.st n).slips = { q with
          slots := q.slots.set i (.interrupted text tok), faultTimer := some 0, lastPrinted := r.token, reported := true } ∧
          (t.st n).tallies.printed = (s.st n).tallies.printed) ∧
      (sent = (streamed text rep).length → r.printer = .ready → (s.st n).line.printer = .ready → r.credit = 0 →
        exec (.headStatus n r) s = .next ((reported.updSlips n fun q => { q with
          slots := q.slots.set i (if 2 ≤ ready then .printing text tok 0 true 0 else .printing text tok sent rep (ready + 1))
          lastPrinted := r.token, reported := true }).sending []))) ∧
    ∀ text tok, q.slots[i] = .interrupted text tok → r.token ≠ some tok → r.printer = .ready → r.credit = 0 →
      (s.st n).line.credit = 0 → printerFault (s.st n).line.printer = true → (s.st n).ctx.tx ≠ .closing →
      ∃ t, exec (.headStatus n r) s = .next t ∧ (t.st n).slips = { q with
        slots := q.slots.set i (.printing text tok 0 true 0), faultTimer := none, lastPrinted := r.token, reported := true } ∧
        (t.st n).tallies.printed = (s.st n).tallies.printed

/-- O17. After ATTACH the link is CHECK, the silence timer runs from 0, the history is empty, the printer state is
PRINTER_OFFLINE and the credit view 0; the threshold and the lock key position are kept. When the silence timer of a
line in CHECK or ACTIVE has reached 3 s, SILENCE_TIMEOUT leaves the link DETACHED, the timer stopped, the printer
state PRINTER_OFFLINE and the credit view 0, with the history, the lock key position and the threshold kept. Where the
link was ACTIVE, by either command, and the context cleared if the station was IDLE (as TransactionInvariant has it):
the station is IDLE, and an open transaction leaves a cleared context; the WAITING queries of its AWAITING entries and
of its borrower check are LAPSED with decision VOID and countdown Q, and no other query and no service count changes;
a RESERVED slot is FREE; where the transaction was RESERVED with a GRANTED entry, or a RETURNED one with a fine above
0 or a hold routing, and the journal is ready, a SLIP_LOST record with the station's flags joins the page and the
slips-lost tally rises, and without such an entry neither journal nor tallies change; L0 alone is in service, or,
where it is masked, alone pending (an auto-ack set with L0, which ALERT_CONFIG refuses, is left out). (Cites: R4, R6,
R8, R9, R46, R106, R116, R135, R148, R161.) -/
def Obligations.AttachAndSilence : Prop :=
  (∀ (n : StationNo) (s : State), ∃ t, exec (.attach n) s = .next t ∧
    (t.st n).line = { (s.st n).line with
      link := .check, silence := some 0, history := [], printer := .offline, credit := 0 } ∧
    ((s.st n).line.link = .active → ((s.st n).ctx.tx = .idle → (s.st n).ctx = (s.st n).ctx.cleared) → s.headLost t n)) ∧
  ∀ (n : StationNo) (k : Nat) (s : State), (s.st n).line.link ≠ .detached → (s.st n).line.silence = some k → 3 ≤ k →
    ∃ t, exec (.silenceTimeout n) s = .next t ∧
      (t.st n).line = { (s.st n).line with link := .detached, silence := none, printer := .offline, credit := 0 } ∧
      ((s.st n).line.link = .active → ((s.st n).ctx.tx = .idle → (s.st n).ctx = (s.st n).ctx.cleared) → s.headLost t n)

/-- O18. When the timer of an OPEN transaction or a run has 0 seconds left: with an AWAITING entry the station enters
CLOSING, its timer stopped, and sends a DISPLAY with tone NONE, and nothing else changes; with none the close
completes, and, when no next action is held, the context is cleared, so that the station is IDLE with an empty list,
no record is written, and the slip is settled. With the transaction RESERVED and slot i the only RESERVED one: with
the credit view at 0, that slot is QUEUED with the slip's text at the newest handing position where an entry is
GRANTED, or RETURNED with a fine above 0 or a hold routing, and FREE where none is so; a slip handed to an empty queue
with a printer that takes lines and a credit above 0 is PRINTING at once. A SLIPLESS run, with no slot RESERVED and
the credit at 0, leaves the slip queue as it was. (Cites: R39, R41, R42, R151, R152.) -/
def Obligations.TimerExpiryCloses : Prop :=
  ∀ (n : StationNo) (s : State), ((s.st n).ctx.tx = .opened ∨ (s.st n).ctx.tx = .returns) →
    (s.st n).ctx.timer = .running 0 →
    ((s.st n).ctx.awaiting ≠ 0 → exec (.transactionTimerExpiry n) s = .next
      ((s.updCtx n fun c => { c with timer := .stopped, tx := .closing }).sending
        (s.toHead n [.display (if (s.st n).line.link = .check then none else some .closing) (s.st n).alerts.displayed 0
          .none]))) ∧
    ((s.st n).ctx.awaiting = 0 →
      ∃ t, exec (.transactionTimerExpiry n) s = .next t ∧
        ((s.st n).ctx.next = .none → (t.st n).ctx = (s.st n).ctx.cleared ∧ t.journal = s.journal ∧
          (∀ m, m ≠ n → t.st m = s.st m) ∧
          (∀ i : Fin 4, (s.st n).ctx.holding = some .reserved → (s.st n).slips.slots[i] = .reserved →
            (∀ k : Fin 4, k ≠ i → (s.st n).slips.slots[k] ≠ .reserved) →
            ((s.st n).line.credit = 0 → s.slipSettled t n i) ∧
            ((∃ x ∈ (s.st n).ctx.items, x.state = .granted) → (s.st n).slips.order = [] →
              (∀ k : Fin 4, (s.st n).slips.slots[k] = .free ∨ (s.st n).slips.slots[k] = .reserved) →
              printerFault (s.st n).line.printer = false → 0 < (s.st n).line.credit →
              (t.st n).slips.order = [i] ∧ ∃ tok sent ready, (t.st n).slips.slots[i] =
                .printing ((s.st n).ctx.slipText n s.mgmt.cabinet s.printHeader s.now) tok sent false ready)) ∧
          ((s.st n).ctx.holding = some .slipless → (∀ k : Fin 4, (s.st n).slips.slots[k] ≠ .reserved) →
            (s.st n).line.credit = 0 → (t.st n).slips = (s.st n).slips)))

/-- O19. With the fault timer at or above the hold time while the printer is in fault, SLIP_HOLD_EXPIRY frees the slot of
every QUEUED and INTERRUPTED slip in the handing order and takes it out of that order, the timer is at 0, and the
slips-lost tally is higher by their number (at most 4294967295); the other slots and their order, the token counter,
the last printed token and the hold time are kept. Where no slot stands twice in the order and the FILLING page has
room for all their records without sealing, no journal alarm about to change and the ALARM condition settled: one
SLIP_LOST record for each joins that page, oldest handing first, with the station and the slip's token (none for a
QUEUED slip) and without flags, and the other stations stay. With no FILLING page the overflow count rises by their
number, JOURNAL_OVERFLOWED is set and the discard stands. (Cites: R158, R159, R163, R171.) -/
def Obligations.HoldExpiryDiscardsSlip : Prop :=
  ∀ (n : StationNo) (k : Nat) (s : State), (s.st n).slips.faultTimer = some k → (s.st n).slips.holdTime ≤ k →
    printerFault (s.st n).line.printer = true →
      ∃ t, exec (.slipHoldExpiry n) s = .next t ∧ s.slipsDiscarded t n ∧ t.borrowers = s.borrowers ∧ t.loans = s.loans ∧
        t.queries = s.queries ∧ (t.st n).line = (s.st n).line

/-- O20. For every REPLY whose tag names an entry that is FREE, or whose generation, kind or target differs from the
entry's, the next state differs only in the stale count, whatever the trunk link is. R122 says that a matched reply
cannot be taken with the link DOWN; that a REPLY which answers its entry then changes nothing is the model's choice
(log entry 6). LINGER_END of a LAPSED entry with countdown 0 makes it FREE with its generation kept; no count changes
and nothing is sent or written. (Cites: R112, R120, R121, R122.) -/
def Obligations.StaleRepliesAndLingerEnd : Prop :=
  (∀ (m : ReplyMsg) (t : Tag) (s : State), m.tag = t.val →
    let answers (q : Question) : Prop :=
      m.kind = 0 ∧ q.kind = .borrowerLookup ∧ plainNumber 10 2 m.borrower = some q.target ∨
        m.kind = 1 ∧ q.kind = .chargeRequest ∧ plainNumber 12 3 m.item = some q.target ∨
        m.kind = 2 ∧ q.kind = .dischargeRequest ∧ plainNumber 12 3 m.item = some q.target
    let stands (q : Question) : Prop := (∃ k, s.queries[t].state = .waiting q k) ∨ ∃ k d, s.queries[t].state = .lapsed q k d
    (s.queries[t].state = .free ∨ m.gen ≠ s.queries[t].gen ∨ (∃ q : Question, stands q ∧ ¬ answers q) →
      exec (.reply m) s = .next ({ s with service := { s.service with
        stats := { s.service.stats with stale := min 4294967295 (s.service.stats.stale + 1) } } }.sending [])) ∧
    (s.service.linkUp = false → m.gen = s.queries[t].gen → (replyOutcome? m).isSome = true →
      (∃ q : Question, stands q ∧ answers q) → exec (.reply m) s = .next (s.sending []))) ∧
  ∀ (t : Tag) (q : Question) (d : LapseDecision) (s : State), s.queries[t].state = .lapsed q 0 d →
    exec (.lingerEnd t) s = .next ({ s with queries := s.queries.set t ⟨s.queries[t].gen, .free⟩ }.sending [])

/-- O21. With the link UP and the service ONLINE, a REPLY of the tag, generation, kind and target of a WAITING query whose
item entry, AWAITING at position i + 1, holds that query (outcome codes as log entry 22 reads them): the query is
FREE, the matched count one higher and the consecutive-timeout count 0. While the hold condition holds, the outcome is
parked on the entry and nothing else changes. Otherwise, with the journal ready: REFUSE in a charge that is not
CLOSING makes the entry REFUSED, decided ONLINE, with a REFUSAL record of reason SERVER and the reply's code, and
raises the refusals tally; GRANT without a class in OPEN makes it GRANTED, decided ONLINE, with the computed due time
and its CHARGE record, posts one item on loan (at most 255), takes the item off the pending loan list and raises the
charges tally; NOT_ON_LOAN in RETURNS makes it RETURNED without fine or borrower; ON_LOAN in RETURNS makes it RETURNED
with the fine f that the active bank gives for the reply's borrower, due time and class. (Cites: R20, R28, R29, R30,
R34, R91, R112, R113, R126.) -/
def Obligations.ItemRepliesDecide : Prop :=
  ∀ (m : ReplyMsg) (g : Tag) (q : Question) (k i : Nat) (x : Item) (s : State), s.service.linkUp = true →
    s.service.state = .online → m.tag = g.val → m.gen = s.queries[g].gen → s.queries[g].state = .waiting q k →
    plainNumber 12 3 m.item = some q.target →
    (m.kind = 1 ∧ q.kind = .chargeRequest ∨ m.kind = 2 ∧ q.kind = .dischargeRequest) →
    q.position = some (i + 1) → s.entry q.station i = some x → x.state = .awaiting →
    x.query = some (g, s.queries[g].gen) →
    let n := q.station
    ((s.st n).alerts.hold = true → ∀ o, (m.kind = 1 ∧ m.outcome = 2 ∧
          o = .grant (if m.presence.getLsbD 2 then some m.cls else none) ∨
        m.kind = 1 ∧ m.outcome = 3 ∧ o = .refuse m.reason ∨ m.kind = 2 ∧ m.outcome = 5 ∧ o = .notOnLoan ∨
        m.kind = 2 ∧ m.outcome = 4 ∧ ∃ b, plainNumber 10 2 m.borrower = some b ∧
          o = .onLoan ⟨b, m.day, m.minute, m.cls, decide (m.hold ≠ 0)⟩) →
      exec (.reply m) s = .next (((s.answeredQuery g).updItem n i fun x =>
        { x with waiting := some .reply, query := none, parked := some o }).sending [])) ∧
    ∀ p, s.ready p → (s.st n).alerts.hold = false →
      (m.kind = 1 → m.outcome = 3 → (s.st n).ctx.kind = some .charge → (s.st n).ctx.tx ≠ .closing →
        ∃ t r, exec (.reply m) s = .next t ∧
          t.entry n i = some { x with
            state := .refused, waiting := none, query := none, parked := none, decidedBy := some .online } ∧
          r.kind = .refusal ∧ r.station = some n ∧ r.decidedBy = .online ∧ r.borrower = (s.st n).ctx.borrower ∧
          r.item = some x.number ∧ r.reason = some (.server m.reason) ∧ t.journal = (s.recorded p r).journal ∧
          (t.st n).tallies = { (s.st n).tallies with refusals := min 4294967295 ((s.st n).tallies.refusals + 1) } ∧
          t.queries = (s.answeredQuery g).queries ∧ t.service = (s.answeredQuery g).service ∧
          t.borrowers = s.borrowers ∧ t.loans = s.loans ∧ ∀ y, y ≠ n → t.st y = s.st y) ∧
      (m.kind = 1 → m.outcome = 2 → m.presence.getLsbD 2 = false → (s.st n).ctx.kind = some .charge →
        (s.st n).ctx.tx = .opened → s.exception? x.number = none → ∀ b e c index rule, (s.st n).ctx.borrower = some b →
        s.borrower? b = some e → s.activeBank.calendar? = some c → s.ruleIndex? x.cls e.category = some index →
        s.rule? index = some rule →
        let due := (computeDue c rule s.now e.expiry).due
        ∃ t y r, exec (.reply m) s = .next t ∧ t.entry n i = some y ∧ y.number = x.number ∧ y.state = .granted ∧
          y.due = some due ∧ y.decidedBy = some .online ∧
          t.borrower? b = some { e with onLoan := min 255 (e.onLoan + 1), changed := true, inFlight := false } ∧
          t.loans = s.loans.filter (fun l => l.item != x.number) ∧
          r.kind = .charge ∧ r.station = some n ∧ r.decidedBy = .online ∧ r.borrower = some b ∧
          r.item = some x.number ∧ r.due = some due ∧ r.ruleIndex = some index ∧ r.bankGen = some s.generation ∧
          t.journal = (s.recorded p r).journal ∧
          (t.st n).tallies = { (s.st n).tallies with charges := min 4294967295 ((s.st n).tallies.charges + 1) } ∧
          t.queries = (s.answeredQuery g).queries ∧ t.service = (s.answeredQuery g).service ∧
          ∀ y, y ≠ n → t.st y = s.st y) ∧
      (m.kind = 2 → (s.st n).ctx.kind = some .discharge → (s.st n).ctx.tx = .returns →
        (m.outcome = 5 → ∃ t y, exec (.reply m) s = .next t ∧ t.entry n i = some y ∧ y.number = x.number ∧
          s.discharged t n p y .online none none none none ∧ t.loans = s.loans ∧
          t.queries = (s.answeredQuery g).queries ∧ t.service = (s.answeredQuery g).service) ∧
        ∀ b index f, m.outcome = 4 → plainNumber 10 2 m.borrower = some b → s.canFine = true →
          let cat := ((s.borrower? b).map (·.category)).getD 15
          let due : Time := ⟨m.day, min m.minute 1439⟩
          s.ruleIndex? (min m.cls 63) cat = some index → s.fineFrom index cat due s.now = some f →
          ∃ t y, exec (.reply m) s = .next t ∧ t.entry n i = some y ∧ y.number = x.number ∧
            s.discharged t n p y .online (some b) (some due) (some index) (some f) ∧ t.loans = s.loans ∧
            t.queries = (s.answeredQuery g).queries ∧ t.service = (s.answeredQuery g).service)

/-- O22. With the link UP and the service ONLINE, a REPLY of the tag, generation, kind and target of the WAITING query of
a borrower check in CHECKING, no hold reported. FOUND where the entry that stands is LEARNED or PROVISIONAL, or where
none stands and the table holds fewer than 4096: the borrower's entry is LEARNED with the reply's category (at most
15), manual block, expiry, balance (at most 16777215) and overdue count (at most 255), items on loan the reply's (at
most 255) plus the borrower's pending count (at most 255), its marks kept, or clear when new; it heads the recency
list; with no reason present the transaction is OPEN, its timer running. FOUND or UNKNOWN where the entry is LOADED
without a present reason: the table stays and the transaction is OPEN. UNKNOWN otherwise, with the journal ready: a
REFUSAL record UNKNOWN_BORROWER, decided ONLINE, the refusals tally one higher, the context cleared, the table as it
was. The query is FREE in every case. Outcome codes are as log entry 22 reads them. (Cites: R22, R54, R55, R58, R112,
R113, R163.) -/
def Obligations.LookupRepliesDecide : Prop :=
  ∀ (m : ReplyMsg) (g : Tag) (q : Question) (k b : Nat) (s : State), s.service.linkUp = true →
    s.service.state = .online → m.tag = g.val → m.gen = s.queries[g].gen → s.queries[g].state = .waiting q k →
    m.kind = 0 → q.kind = .borrowerLookup → q.target = b → plainNumber 10 2 m.borrower = some b →
    (s.st q.station).ctx.lookup = some (g, s.queries[g].gen) → (s.st q.station).ctx.borrower = some b →
    (s.st q.station).ctx.tx = .checking → (s.st q.station).ctx.kind = some .charge →
    (s.st q.station).alerts.hold = false →
    let n := q.station
    let opened (t : State) := exec (.reply m) s = .next t ∧ t.queries = (s.answeredQuery g).queries ∧
      (t.st n).ctx.tx = .opened ∧ (t.st n).ctx.lookup = none ∧ (t.st n).ctx.borrower = some b ∧
      (t.st n).ctx.timer = .running (s.st n).ctx.period ∧ t.journal = s.journal
    (∀ e : Borrower, m.outcome = 0 →
      (s.borrower? b = some e ∧ e.origin ≠ .loaded ∨
        s.borrower? b = none ∧ s.borrowers.length < 4096 ∧ e.changed = false ∧ e.inFlight = false) →
      let new : Borrower :=
        { number := b, origin := .learned, category := min 15 m.category
          manual := if m.presence.getLsbD 0 then some m.manual else none
          expiry := if m.presence.getLsbD 1 then some m.day else none
          balance := min 16777215 m.balance
          onLoan := min 255 (min 255 m.onLoan + s.loans.countP (fun l => l.borrower == b))
          overdue := min 255 m.overdue, changed := e.changed, inFlight := e.inFlight }
      s.reasons new = [] →
      ∃ t, opened t ∧ t.borrower? b = some new ∧ (∀ c, c ≠ b → t.borrower? c = s.borrower? c) ∧
        t.recency = b :: s.recency.filter (· != b)) ∧
    (∀ e, m.outcome = 0 ∨ m.outcome = 1 → s.borrower? b = some e → e.origin = .loaded → s.reasons e = [] →
      ∃ t, opened t ∧ t.borrowers = s.borrowers ∧ t.recency = s.recency) ∧
    ∀ p, m.outcome = 1 → s.ready p → (∀ e, s.borrower? b = some e → e.origin ≠ .loaded) →
      ∃ t r, exec (.reply m) s = .next t ∧ t.queries = (s.answeredQuery g).queries ∧ r.kind = .refusal ∧
        r.station = some n ∧ r.decidedBy = .online ∧ r.borrower = some b ∧ r.item = none ∧
        r.reason = some .unknownBorrower ∧ t.journal = (s.recorded p r).journal ∧
        (t.st n).tallies = { (s.st n).tallies with refusals := min 4294967295 ((s.st n).tallies.refusals + 1) } ∧
        (t.st n).ctx = (s.st n).ctx.cleared ∧ t.borrowers = s.borrowers ∧ t.recency = s.recency

/-- O23. With the link UP and the service ONLINE, a REPLY of the tag, generation, kind and target of a LAPSED query
(outcome codes as log entry 22 reads them, a DEDUCED reading). GRANT against GRANT, REFUSE against VOID, NOT_ON_LOAN
against FINE_PENDING or VOID, and UNKNOWN against REFUSED or VOID agree: the entry becomes FREE with its generation
kept, the matched and the too-late count rise, the consecutive-timeout count is 0, and nothing else changes. REFUSE
against GRANT (SERVER_REFUSED, with the server's code), GRANT against VOID (VOIDED_GRANT), UNKNOWN against ADMITTED
(UNKNOWN_ADMITTED), and ON_LOAN against FINE_PENDING while no fine can be computed (FINE_UNKNOWN) conflict: with the
journal ready, the CONFLICT record of the query's station joins the page, decided FALLBACK, with its detail, borrower
and item, the conflicts count rises, and the rest is as for an agreement. With no FILLING page and the ALARM condition
settled, the overflow count and JOURNAL_OVERFLOWED stand in the record's place. That a reply class above 63 raises no
CLASS_CLAMPED at FINE_UNKNOWN is the model's choice (log entry 56). ON_LOAN against FINE_PENDING with a fine that the
active bank gives for the reply's borrower, due time and class and the kept return time: its flags, CLASS_CLAMPED for
a class above 63 among them, raise their device flags; a fine of 0 agrees, and one above 0 conflicts as FINE_DIFFERS,
whose record carries the due time, the fine, the rule index, the bank generation and the flags. FOUND: a LOADED entry
stays and the reply agrees; a LEARNED or PROVISIONAL entry, or with none and fewer than 4096 a new one, is LEARNED
from the reply as at a timely one and heads the recency list; every station's transaction stays. (Cites: R54, R56,
R91, R108, R117, R118, R119, R163, R171.) -/
def Obligations.LateRepliesAreCompared : Prop :=
  ∀ (m : ReplyMsg) (t : Tag) (q : Question) (k : Nat) (d : LapseDecision) (s : State), m.tag = t.val →
    m.gen = s.queries[t].gen → s.queries[t].state = .lapsed q k d → s.service.state = .online →
    s.service.linkUp = true →
    (m.kind = 0 ∧ q.kind = .borrowerLookup ∧ plainNumber 10 2 m.borrower = some q.target ∨
      m.kind = 1 ∧ q.kind = .chargeRequest ∧ plainNumber 12 3 m.item = some q.target ∨
      m.kind = 2 ∧ q.kind = .dischargeRequest ∧ plainNumber 12 3 m.item = some q.target) →
    ((m.kind = 1 ∧ (m.outcome = 2 ∧ d = .grant ∨ m.outcome = 3 ∧ d = .void) ∨
        m.kind = 2 ∧ m.outcome = 5 ∧ (d = .void ∨ ∃ at_, d = .finePending at_) ∨
        m.kind = 0 ∧ m.outcome = 1 ∧ (d = .refused ∨ d = .void)) →
      exec (.reply m) s = .next ((s.answeredLate t).sending [])) ∧
    (∀ (b i : Nat) (f : FineResult) (at_ : Time), m.kind = 2 → m.outcome = 4 → d = .finePending at_ →
      plainNumber 10 2 m.borrower = some b → s.canFine = true →
      let cat := ((s.borrower? b).map (·.category)).getD 15
      let due : Time := ⟨m.day, min m.minute 1439⟩
      s.ruleIndex? (min m.cls 63) cat = some i → s.fineFrom i cat due at_ = some f →
      let flags := f.flags.union { classClamped := decide (63 < m.cls) }
      let raised := s.stick flags.sticky
      let r : Record := { s.record .conflict (some q.station) with
        decidedBy := .fallback, borrower := some b, item := some q.target, detail := some .fineDiffers, due := some due
        fine := some f.fine, ruleIndex := some i, bankGen := some s.generation, flags := flags }
      (f.fine = 0 → exec (.reply m) s = .next ((raised.answeredLate t).sending [])) ∧
      (0 < f.fine → (∀ p, s.ready p → exec (.reply m) s = .next (((raised.conflicted.recorded p r).answeredLate t).sending [])) ∧
        (s.journal.filling? = none → s.alarmsSettled →
          exec (.reply m) s = .next ((raised.conflicted.lost.answeredLate t).sending [])))) ∧
    (m.kind = 0 → m.outcome = 0 →
      (∀ e, s.borrower? q.target = some e → e.origin = .loaded → exec (.reply m) s = .next ((s.answeredLate t).sending [])) ∧
      ∀ e : Borrower, (s.borrower? q.target = some e ∧ e.origin ≠ .loaded ∨
          s.borrower? q.target = none ∧ s.borrowers.length < 4096 ∧ e.changed = false ∧ e.inFlight = false) →
        let new : Borrower :=
          { number := q.target, origin := .learned, category := min 15 m.category
            manual := if m.presence.getLsbD 0 then some m.manual else none
            expiry := if m.presence.getLsbD 1 then some m.day else none
            balance := min 16777215 m.balance
            onLoan := min 255 (min 255 m.onLoan + s.loans.countP (fun l => l.borrower == q.target))
            overdue := min 255 m.overdue, changed := e.changed, inFlight := e.inFlight }
        ∃ u, exec (.reply m) s = .next u ∧ u.borrower? q.target = some new ∧
          (∀ c, c ≠ q.target → u.borrower? c = s.borrower? c) ∧
          u.recency = q.target :: s.recency.filter (· != q.target) ∧ u.queries = (s.answeredLate t).queries ∧
          u.service = (s.answeredLate t).service ∧ u.journal = s.journal ∧ u.loans = s.loans ∧ u.sent = [] ∧
          ∀ n, u.st n = { s.st n with ctx := { (s.st n).ctx with
            tracked := (u.st n).ctx.tracked, view := (u.st n).ctx.view } }) ∧
    ∀ r : Record,
      (m.kind = 1 ∧ m.outcome = 3 ∧ d = .grant ∧ r = { s.record .conflict (some q.station) with
          decidedBy := .fallback, borrower := q.borrower, item := some q.target, detail := some .serverRefused
          reason := some (.server m.reason) } ∨
        m.kind = 1 ∧ m.outcome = 2 ∧ d = .void ∧ r = { s.record .conflict (some q.station) with
          decidedBy := .fallback, borrower := q.borrower, item := some q.target, detail := some .voidedGrant } ∨
        m.kind = 0 ∧ m.outcome = 1 ∧ d = .admitted ∧ r = { s.record .conflict (some q.station) with
          decidedBy := .fallback, borrower := some q.target, detail := some .unknownAdmitted } ∨
        m.kind = 2 ∧ m.outcome = 4 ∧ s.canFine = false ∧ (∃ at_, d = .finePending at_) ∧ ∃ b,
          plainNumber 10 2 m.borrower = some b ∧ r = { s.record .conflict (some q.station) with
            decidedBy := .fallback, borrower := some b, item := some q.target, detail := some .fineUnknown }) →
      (∀ p, s.ready p → exec (.reply m) s = .next (((s.conflicted.recorded p r).answeredLate t).sending [])) ∧
      (s.journal.filling? = none → s.alarmsSettled → exec (.reply m) s = .next
        ({ s.conflicted.answeredLate t with
          journal := { s.journal with overflow := min 4294967295 (s.journal.overflow + 1) }
          mgmt := { s.mgmt with sticky := { s.mgmt.sticky with journalOverflowed := true } } }.sending []))

/-- O24. When the countdown of a WAITING query has run out: the consecutive-timeout count rises by one, held at 255, the
timeouts count by one, and the fallbacks count by one where the station is not CLOSING or has no next action (a next
action that finds the query table full counts another, R110); an OFFLINE service stays so, any other is OFFLINE when
the count has reached the trip and DEGRADED below it; a move sends the SERVICE_STATE notice while the link is UP, and
a move to OFFLINE with the link UP starts the probe timer at the interval; the query is LAPSED with countdown Q and
decision GRANT for a charge, FINE_PENDING with the clock's reading for a discharge, and for a lookup ADMITTED where an
entry stands or the policy admits (log entry 38) and REFUSED otherwise. With the service OFFLINE and a CHARGE_REQUEST
whose item entry is AWAITING at a station whose hold condition holds, the item entry holds the lapse parked and
nothing else changes. Without a hold, with no run SENDING or AWAIT_RECEIPT and the journal ready, the station decides
by FALLBACK: an AWAITING charge item in OPEN, without an exception, is GRANTED with the computed due time, its CHARGE
record, one item on loan more (at most 255), its pending loan entry and the charges tally; an AWAITING discharge item
in RETURNS is RETURNED with FINE_PENDING, no fine and no posting, and its DISCHARGE record; a borrower check in
CHECKING opens the transaction from the entry that stands, where no reason is present, and with none it meets the
stranger policy: REFUSE gives a REFUSAL record STRANGER and a cleared context, ADMIT, with fewer than 4096 entries and
no reason present, a BORROWER_NEW record, a PROVISIONAL entry and an OPEN transaction. That the decided item carries
no OFFLINE_DECIDED, though the service may be OFFLINE by then, is the model's choice (log entry 55). (Cites: R20, R22,
R28, R29, R34, R55, R57, R92, R114, R115, R122, R123.) -/
def Obligations.PatienceExpiryLapses : Prop :=
  (∀ (t : Tag) (q : Question) (s : State), s.queries[t].state = .waiting q 0 →
    let count := min 255 (s.service.count + 1)
    let moved : ServiceState :=
      if s.service.state = .offline ∨ s.service.trip ≤ count then .offline else .degraded
    let decision : LapseDecision := match q.kind with
      | .chargeRequest => .grant
      | .dischargeRequest => .finePending s.now
      | .borrowerLookup =>
        if (s.borrower? q.target).isSome ∨ s.service.policy = .admits then .admitted else .refused
    ∃ u, exec (.queryPatienceExpiry t) s = .next u ∧ u.service.count = count ∧ u.service.state = moved ∧
      u.service.stats.timeouts = min 4294967295 (s.service.stats.timeouts + 1) ∧
      u.service.stats.matched = s.service.stats.matched ∧
      ((s.st q.station).ctx.tx ≠ .closing ∨ (s.st q.station).ctx.next = .none →
        u.service.stats.fallbacks = min 4294967295 (s.service.stats.fallbacks + 1)) ∧
      u.queries[t] = ⟨s.queries[t].gen, .lapsed q s.service.patience decision⟩ ∧
      (moved ≠ s.service.state → s.service.linkUp = true → .trunk (s.stamped (.serviceState moved count)) ∈ u.sent) ∧
      (moved ≠ s.service.state → moved = .offline → s.service.linkUp = true →
        u.service.probeTimer = some s.service.interval)) ∧
  (∀ (t : Tag) (q : Question) (p : Nat) (x : Item) (s : State), s.queries[t].state = .waiting q 0 →
    q.kind = .chargeRequest → q.position = some (p + 1) → s.entry q.station p = some x → x.state = .awaiting →
    x.query = some (t, s.queries[t].gen) → (s.st q.station).alerts.hold = true → s.service.state = .offline →
      exec (.queryPatienceExpiry t) s = .next
        (({ s with
            queries := s.queries.set t ⟨s.queries[t].gen, .lapsed q s.service.patience .grant⟩
            service := { s.service with
              count := min 255 (s.service.count + 1)
              stats := { s.service.stats with
                timeouts := min 4294967295 (s.service.stats.timeouts + 1)
                fallbacks := min 4294967295 (s.service.stats.fallbacks + 1) } } }.updItem q.station p fun x =>
          { x with waiting := some .reply, query := none, parked := some .lapse }).sending [])) ∧
  ∀ (t : Tag) (q : Question) (p : Fin 128) (s : State), s.queries[t].state = .waiting q 0 →
    (s.st q.station).alerts.hold = false → s.upload.run ≠ .sending → s.upload.run ≠ .awaitReceipt → s.ready p →
    let n := q.station
    let c := (s.st n).ctx
    let expiry := exec (.queryPatienceExpiry t) s
    (∀ (i : Nat) (x : Item), q.position = some (i + 1) → s.entry n i = some x → x.state = .awaiting →
      x.query = some (t, s.queries[t].gen) →
      (∀ b e cal index rule, q.kind = .chargeRequest → c.kind = some .charge → c.tx = .opened → s.exception? x.number = none →
        c.borrower = some b → s.borrower? b = some e → s.activeBank.calendar? = some cal →
        s.ruleIndex? x.cls e.category = some index → s.rule? index = some rule → s.loans.length < 512 →
        let d := computeDue cal rule s.now e.expiry
        ∃ u y r, expiry = .next u ∧ u.entry n i = some y ∧ y.number = x.number ∧ y.state = .granted ∧
          y.due = some d.due ∧ y.decidedBy = some .fallback ∧ y.flags = x.flags.union d.flags ∧
          r.kind = .charge ∧ r.station = some n ∧ r.decidedBy = .fallback ∧ r.borrower = some b ∧
          r.item = some x.number ∧ r.due = some d.due ∧ r.ruleIndex = some index ∧ r.bankGen = some s.generation ∧
          u.journal = (s.recorded p r).journal ∧
          u.borrower? b = some { e with onLoan := min 255 (e.onLoan + 1), changed := true, inFlight := false } ∧
          u.loans = (s.loans.filter fun l => l.item != x.number) ++ [⟨x.number, b, d.due, index, s.journal.counter⟩] ∧
          (u.st n).tallies = { (s.st n).tallies with charges := min 4294967295 ((s.st n).tallies.charges + 1) }) ∧
      (q.kind = .dischargeRequest → c.kind = some .discharge → c.tx = .returns →
        ∃ u y, expiry = .next u ∧ u.entry n i = some y ∧ y.number = x.number ∧
          s.discharged u n p y .fallback none none none none ∧ y.flags = x.flags.union { finePending := true } ∧
          u.loans = s.loans)) ∧
    ∀ b : Nat, q.kind = .borrowerLookup → q.target = b → c.lookup = some (t, s.queries[t].gen) → c.borrower = some b →
      c.tx = .checking → c.kind = some .charge →
      let opened (u : State) : Prop := (u.st n).ctx.tx = .opened ∧ (u.st n).ctx.lookup = none ∧
        (u.st n).ctx.borrower = some b ∧ (u.st n).ctx.timer = .running c.period
      (∀ e, s.borrower? b = some e → s.reasons e = [] →
        ∃ u, expiry = .next u ∧ opened u ∧ u.borrowers = s.borrowers ∧ u.journal = s.journal) ∧
      (s.borrower? b = none → s.service.policy = .refuse →
        ∃ u r, expiry = .next u ∧ r.kind = .refusal ∧ r.station = some n ∧ r.decidedBy = .fallback ∧
          r.borrower = some b ∧ r.reason = some .stranger ∧ u.journal = (s.recorded p r).journal ∧
          (u.st n).tallies = ((s.refusalCounted n).st n).tallies ∧ (u.st n).ctx = c.cleared ∧ u.borrowers = s.borrowers) ∧
      (let e : Borrower :=
        { number := b, origin := .provisional, category := 15, manual := none, expiry := none, balance := 0
          onLoan := min 255 (s.loans.countP fun l => l.borrower == b), overdue := 0, changed := true, inFlight := false }
       s.borrower? b = none → s.service.policy = .admits → s.borrowers.length < 4096 → s.reasons e = [] →
        ∃ u r, expiry = .next u ∧ r.kind = .borrowerNew ∧ r.station = some n ∧ r.decidedBy = .fallback ∧
          r.borrower = some b ∧ u.journal = (s.recorded p r).journal ∧ opened u ∧ u.borrower? b = some e ∧
          ∀ k, k ≠ b → u.borrower? k = s.borrower? k)

/-- O25. OFFLINE with the link UP and the probe timer at 0, PROBE_TIMER_EXPIRY raises the probe generation (mod 256) and
the probes count, sets the outstanding mark, restarts the timer at the interval and sends the probe. With the link UP,
a PROBE_ANSWER of the outstanding generation in a service that is not ONLINE clears the mark, stops the timer, sets
the count to 0, raises the matched count, and reports ONLINE; with no run PAUSED nothing else changes. A PAUSED run is
SENDING then, its first attempt counted among the blocks sent: an abandoned block that carries no page goes out as it
was (of a JOURNAL block without records this is the model's choice, log entry 31); where a page was abandoned, the
next block of the section carries page i, the only SEALED one, which is SENT again, under the same block number, final
where i ends the section; a run that paused before its first section sends block 0 of its slot. A PROBE_ANSWER of
another generation, or with the mark clear, raises the stale count only, whatever the trunk link is. R122 says that a
matched one cannot be taken with the link DOWN; that it then changes nothing is the model's choice (log entry 6).
(Cites: R121, R122, R123, R125, R169, R183, R192.) -/
def Obligations.ProbesOfTheLink : Prop :=
  ∀ s : State,
    (s.service.state = .offline → s.service.linkUp = true → s.service.probeTimer = some 0 →
      exec .probeTimerExpiry s = .next ({ s with service := { s.service with
        probeGen := (s.service.probeGen + 1) % 256, probeOut := true, probeTimer := some s.service.interval
        stats := { s.service.stats with probes := min 4294967295 (s.service.stats.probes + 1) } } }.sending
          [.trunk (.probe ((s.service.probeGen + 1) % 256))])) ∧
    (s.service.linkUp = true → s.service.probeOut = true → s.service.state ≠ .online →
      let answered := { s with service := { s.service with
        state := .online, count := 0, probeOut := false, probeTimer := none
        stats := { s.service.stats with matched := min 4294967295 (s.service.stats.matched + 1) } } }
      let notice : Out := .trunk (s.stamped (.serviceState .online 0))
      let sending (b : Block) : Upload := { s.upload with
        run := .sending, hand := some b, attempts := 1, wait := none
        counts := { s.upload.counts with sent := s.upload.counts.sent + 1 } }
      (s.upload.run ≠ .paused → exec (.probeAnswer s.service.probeGen) s = .next (answered.sending [notice])) ∧
      (s.upload.run = .paused →
        (∀ b, s.upload.sect ≠ none → s.upload.hand = some b → b.pageless →
          exec (.probeAnswer s.service.probeGen) s = .next
            ({ answered with upload := sending b }.sending [notice, .trunk (.block b b.check)])) ∧
        (∀ p i : Fin 128, s.upload.sect = some (.journal (some p)) → s.upload.hand = none →
          (∀ k : Fin 128, s.journal.pages[k].state = .sealed ↔ k = i) →
          ∃ b, b.contents = .journal (some i) s.journal.pages[i].records ∧ b.run = s.upload.runNumber ∧
            b.slot = s.upload.slot ∧ b.number = s.upload.blockNo ∧ b.final = decide (i = p) ∧
            exec (.probeAnswer s.service.probeGen) s = .next ({ answered with
              journal := { s.journal with pages := s.journal.pages.set i ⟨.sent, s.journal.pages[i].records⟩ }
              upload := sending b }.sending [notice, .trunk (.block b b.check)])) ∧
        (s.upload.sect = none → ∃ t b, exec (.probeAnswer s.service.probeGen) s = .next t ∧ t.service = answered.service ∧
          t.upload.run = .sending ∧ t.upload.hand = some b ∧ t.upload.attempts = 1 ∧ b.run = s.upload.runNumber ∧
          b.slot = s.upload.slot ∧ b.number = 0 ∧ t.sent.getLast? = some (.trunk (.block b b.check))))) ∧
    (s.service.linkUp = false → s.service.probeOut = true →
      exec (.probeAnswer s.service.probeGen) s = .next (s.sending [])) ∧
    ∀ g : Nat, (s.service.probeOut = false ∨ g ≠ s.service.probeGen) →
      exec (.probeAnswer g) s = .next ({ s with service := { s.service with
        stats := { s.service.stats with stale := min 4294967295 (s.service.stats.stale + 1) } } }.sending [])

/-- O26. With the link UP, TRUNK_LINK_DOWN makes the link DOWN and the service OFFLINE, stops the probe timer, clears the
outstanding mark and sends nothing; with no run SENDING or AWAIT_RECEIPT nothing else changes. A run in those states
with the service ONLINE and block b in hand pauses where it is neither stopped nor past its window: the patience
countdown stops, and the block is kept (of a JOURNAL block without records this is the model's choice, log entry 31),
or, where it carries a journal page, dropped with the page SEALED again. Where it is stopped or past its window, the
run ends: IDLE, its marks clear, its timers stopped, nothing in hand, the deferred program and configuration applied
and absent, a page in hand SEALED. With the link DOWN and the service OFFLINE, TRUNK_LINK_UP makes the link UP, sends
a probe of the next generation, starts the probe timer and sends the start-up notice when one is pending, which then
is absent. The order of the probe and the notice is the model's (log entry 41). (Cites: R123, R124, R125, R169, R181,
R192, R193, R194, R195, R205.) -/
def Obligations.TrunkLinkMoves : Prop :=
  ∀ s : State,
    (s.service.linkUp = true →
      let cut := { s with service := { s.service with
        linkUp := false, state := .offline, probeTimer := none, probeOut := false } }
      (s.upload.run ≠ .sending → s.upload.run ≠ .awaitReceipt → exec .trunkLinkDown s = .next (cut.sending [])) ∧
      (s.upload.run = .sending ∨ s.upload.run = .awaitReceipt → s.service.state = .online → ∀ b, s.upload.hand = some b →
        let left (hand : Option Block) : Upload :=
          if s.upload.stop = true ∨ s.upload.window = some 0 then s.upload.ended
          else { s.upload with run := .paused, wait := none, hand := hand }
        (b.pageless → exec .trunkLinkDown s = .next ({ cut with upload := left (some b) }.sending [])) ∧
        (∀ i rs, b.contents = .journal (some i) rs → exec .trunkLinkDown s = .next ({ cut with
          upload := left none
          journal := { s.journal with pages := s.journal.pages.set i ⟨.sealed, s.journal.pages[i].records⟩ } }.sending [])))) ∧
    (s.service.linkUp = false → s.service.state = .offline →
      exec .trunkLinkUp s = .next ({ s with
        service := { s.service with
          linkUp := true, probeGen := (s.service.probeGen + 1) % 256, probeOut := true
          probeTimer := some s.service.interval
          stats := { s.service.stats with probes := min 4294967295 (s.service.stats.probes + 1) } }
        mgmt := { s.mgmt with startUp := none } }.sending
          (.trunk (.probe ((s.service.probeGen + 1) % 256)) ::
            (s.mgmt.startUp.toList.map fun k => .trunk (s.stamped (.startUp k s.mgmt.cabinet s.mgmt.alarms .offline
              s.journal.free s.journal.counter s.upload.runNumber s.generation))))))

/-- O27. SECOND_TICK, and MINUTE_ARRIVAL at second 59, leave the clock one second later; at day 65535, minute 1439, second
59 the minute and the day stay, the clock is held and CLOCK_CLAMPED is set, and no minute arrives. MINUTE_ARRIVAL at
an earlier second changes nothing (log entry 5). At a minute arrival, in a run, the window timer falls by one (not
below 0) and the run state stays. In IDLE, mode NIGHTLY and the window start minute arriving, a run starts, SENDING
when the service is ONLINE and PAUSED otherwise, with the next run number, its trigger mark set and its window timer
at the window length; at any other minute, and in CONTINUOUS mode, it stays IDLE with its run number. (Cites: R86,
R182, R183, R193.) -/
def Obligations.SecondMovesClock : Prop :=
  ∀ s : State, s.clock.second ≤ 59 → s.clock.minute ≤ 1439 → s.clock.day ≤ 65535 →
    (∃ t, exec .secondTick s = .next t ∧ t.clock = s.clock.after ∧
      (s.clock.day = 65535 → s.clock.minute = 1439 → s.clock.second = 59 → t.mgmt.sticky.clockClamped = true ∧
        t.upload.run = s.upload.run ∧ t.upload.window = s.upload.window) ∧
      (s.clock.second = 59 → ¬ (s.clock.day = 65535 ∧ s.clock.minute = 1439) →
        (s.upload.run ≠ .idle → t.upload.run = s.upload.run ∧ t.upload.window = s.upload.window.map (· - 1)) ∧
        (s.upload.run = .idle →
          (s.upload.config.mode = .nightly ∧ s.clock.after.minute = s.upload.config.windowStart →
            t.upload.run = (if s.service.state = .online then .sending else .paused) ∧
              t.upload.runNumber = (s.upload.runNumber + 1) % 65536 ∧ t.upload.trigger = true ∧
              t.upload.stop = false ∧ t.upload.window = some s.upload.config.windowLength) ∧
          (s.upload.config.mode = .continuous ∨ s.clock.after.minute ≠ s.upload.config.windowStart →
            t.upload.run = .idle ∧ t.upload.runNumber = s.upload.runNumber)))) ∧
    (s.clock.second = 59 → exec .minuteArrival s = exec .secondTick s) ∧
    (s.clock.second < 59 → exec .minuteArrival s = .next (s.sending []))

/-- O28. SECOND_TICK within a minute lowers every running transaction timer, every WAITING and LAPSED countdown, the probe
timer and the receipt patience countdown by one (not below 0) and leaves a gated or stopped timer; a running silence
timer rises by one up to 3 and a running fault timer by one up to 3600; the clock moves on by one second. All else of
every station, of the service link and of the upload controller, the tables, the journal and the banks are as they
were, and nothing is sent. That a timer rests at 3 and at 3600, and at 0, until its own command takes it is the
model's choice (log entry 4). (Cites: R6, R42, R86, R114, R120, R125, R159, R188.) -/
def Obligations.SecondCountsTimersDown : Prop :=
  ∀ s : State, s.clock.second < 59 → ∃ t, exec .secondTick s = .next t ∧
    (∀ n, t.st n = { s.st n with
      line := { (s.st n).line with silence := (s.st n).line.silence.map fun k => min 3 (k + 1) }
      ctx := { (s.st n).ctx with timer := match (s.st n).ctx.timer with
        | .running k => .running (k - 1)
        | .gated k => .gated k
        | .stopped => .stopped }
      slips := { (s.st n).slips with faultTimer := (s.st n).slips.faultTimer.map fun k => min 3600 (k + 1) } }) ∧
    (∀ g : Tag, t.queries[g] = ⟨s.queries[g].gen, match s.queries[g].state with
      | .free => .free
      | .waiting q k => .waiting q (k - 1)
      | .lapsed q k d => .lapsed q (k - 1) d⟩) ∧
    t = { s with
      stations := t.stations, queries := t.queries
      service := { s.service with probeTimer := s.service.probeTimer.map (· - 1) }
      upload := { s.upload with wait := s.upload.wait.map (· - 1) }
      clock := { s.clock with second := s.clock.second + 1 }, sent := [] }

/-- O29. SEND_COMPLETION in SENDING moves the run to AWAIT_RECEIPT with its patience countdown. A RECEIPT taken in another
run state, one that meets a run PAUSED by the link going DOWN included, only adds a mismatch, and so does one of
another run, slot or block number. A matched REJECT, and a patience expiry, of a block that has attempts left resend
the same block with one more attempt, counted among the rejects or timeouts and the blocks sent, a journal page it
carries SENT; with its attempts used, a block that carries no page is given up and the run ends ABORTED_TIMEOUT, or
ABORTED_STOP when stopped, the deferred program and configuration applied. A matched ACCEPT of a run not stopped moves
the pass on, the accepted and sent counts one higher: the next block of the section with the next block number, or
block 0 of the next slot after a final block that is not that of slot STOP, is sent as attempt 1. An ACCEPT of the
final block of slot STOP in CONTINUOUS mode, with the trigger mark set, adds a pass and sends block 0 of the first
slot under the next run number. In a stopped run, an ACCEPT of a block that is not that final one ends the run
ABORTED_STOP; its effect, for a block without one of its own, is nothing else. An ACCEPT of the final block of slot
STOP in NIGHTLY mode ends the run COMPLETE with one pass more; its effect is that of its section: the entries of a
BORROWER_CHANGES block still in flight lose both marks, a TALLIES block lowers each tally by what it carried (not
below 0), a PENDING_LOANS, EMPTY or record-less JOURNAL block changes nothing, and a JOURNAL block frees its page
(another page FILLING, JOURNAL_LOW inactive, the alarms settled) and takes the pending loans of its records off the
list. (Cites: R62, R129, R170, R181, R183, R187, R188, R190, R191, R192, R194, R195.) -/
def Obligations.UploadBlockHandling : Prop :=
  ∀ s : State,
    (s.upload.run = .sending → exec .sendCompletion s = .next ({ s with upload := { s.upload with
      run := .awaitReceipt, wait := some s.upload.config.patience } }.sending [])) ∧
    (∀ m : ReceiptMsg, (s.upload.run ≠ .awaitReceipt ∨
        ∃ b, s.upload.hand = some b ∧ (m.run ≠ b.run ∨ m.slot ≠ b.slot ∨ m.block ≠ b.number)) → exec (.receipt m) s = .next ({ s with upload := { s.upload with
      counts := { s.upload.counts with mismatches := s.upload.counts.mismatches + 1 } } }.sending [])) ∧
    ∀ b : Block, s.upload.run = .awaitReceipt → s.upload.hand = some b →
      let page (x : State) := match b.contents with
        | .journal (some i) _ =>
          { x with journal := { x.journal with pages := x.journal.pages.set i ⟨.sent, x.journal.pages[i].records⟩ } }
        | _ => x
      let given (c : RunCounts) : State := { s with upload := { s.upload.ended with counts := c } }.sending (s.onTrunk
        [s.stamped (.uploadEnd (if s.upload.stop then .abortedStop else .abortedTimeout) s.upload.runNumber c)])
      (s.upload.config.attempts ≤ s.upload.attempts → b.pageless →
        (exec (.receipt ⟨b.run, b.slot, b.number, .reject⟩) s = .next
          (given { s.upload.counts with rejects := s.upload.counts.rejects + 1 })) ∧
        (s.upload.wait = some 0 → exec .receiptPatienceExpiry s = .next
          (given { s.upload.counts with timeouts := s.upload.counts.timeouts + 1 }))) ∧
      (s.upload.attempts < s.upload.config.attempts →
      (exec (.receipt ⟨b.run, b.slot, b.number, .reject⟩) s = .next ((page { s with upload := { s.upload with
        run := .sending, wait := none, attempts := s.upload.attempts + 1
        counts := { s.upload.counts with
          rejects := s.upload.counts.rejects + 1, sent := s.upload.counts.sent + 1 } } }).sending
          [.trunk (.block b b.check)])) ∧
      (s.upload.wait = some 0 → exec .receiptPatienceExpiry s = .next ((page { s with upload := { s.upload with
        run := .sending, wait := none, attempts := s.upload.attempts + 1
        counts := { s.upload.counts with
          timeouts := s.upload.counts.timeouts + 1, sent := s.upload.counts.sent + 1 } } }).sending
          [.trunk (.block b b.check)]))) ∧
      (let accept := exec (.receipt ⟨b.run, b.slot, b.number, .accept⟩) s
        let counts := { s.upload.counts with accepted := s.upload.counts.accepted + 1 }
        (s.upload.stop = false → (b.final = true → s.upload.slot ≠ s.upload.program.stop) →
          ∃ t c, accept = .next t ∧ t.upload.run = .sending ∧ t.upload.hand = some c ∧ t.upload.attempts = 1 ∧
            c.run = s.upload.runNumber ∧ c.slot = (if b.final then s.upload.slot + 1 else s.upload.slot) ∧
            c.number = (if b.final then 0 else s.upload.blockNo + 1) ∧
            t.upload.counts = { counts with sent := s.upload.counts.sent + 1 } ∧
            t.sent.getLast? = some (.trunk (.block c c.check))) ∧
        (b.final = true → s.upload.slot = s.upload.program.stop → s.upload.config.mode = .continuous →
          s.upload.trigger = true → ∃ t c, accept = .next t ∧ t.upload.run = .sending ∧ t.upload.hand = some c ∧
            t.upload.attempts = 1 ∧ t.upload.runNumber = (s.upload.runNumber + 1) % 65536 ∧ c.run = t.upload.runNumber ∧
            c.slot = min s.upload.program.start s.upload.program.stop ∧ c.number = 0 ∧
            t.upload.counts = { counts with passes := s.upload.counts.passes + 1, sent := s.upload.counts.sent + 1 } ∧
            t.sent.getLast? = some (.trunk (.block c c.check))) ∧
        (s.upload.stop = true → (b.final = true → s.upload.slot ≠ s.upload.program.stop) →
          (∃ ls, b.contents = .loans ls) ∨ b.contents = .empty ∨ (∃ rs, b.contents = .journal none rs) →
          accept = .next ({ s with upload := { s.upload.ended with counts := counts } }.sending
            (s.onTrunk [s.stamped (.uploadEnd .abortedStop s.upload.runNumber counts)]))) ∧
        (b.final = true → s.upload.slot = s.upload.program.stop → s.upload.config.mode = .nightly →
          let done := { counts with passes := s.upload.counts.passes + 1 }
          let ended (t : State) := accept = .next t ∧ t.sent = s.onTrunk [s.stamped (.uploadEnd .complete s.upload.runNumber done)] ∧
            t.upload = { s.upload.ended with counts := done }
          (∀ es, b.contents = .borrowers es → ∃ t, ended t ∧
            t.borrowers = s.borrowers.map (fun e => if e.inFlight = true ∧ (∃ x ∈ es, x.number = e.number)
              then { e with changed := false, inFlight := false } else e) ∧
            t = { s with borrowers := t.borrowers, upload := t.upload, sent := t.sent }) ∧
          (∀ ts, b.contents = .tallies ts → ∃ t, ended t ∧
            (∀ n, t.st n = { s.st n with tallies := (t.st n).tallies } ∧ (t.st n).tallies.values =
              List.zipWith (fun a c => a - c) (s.st n).tallies.values ((ts.getD n.val .zero).values)) ∧
            t = { s with stations := t.stations, upload := t.upload, sent := t.sent }) ∧
          ((∃ ls, b.contents = .loans ls) ∨ b.contents = .empty ∨ (∃ rs, b.contents = .journal none rs) →
            ∃ t, ended t ∧ t = { s with upload := t.upload, sent := t.sent }) ∧
          ∀ i rs p, b.contents = .journal (some i) rs → s.journal.filling? = some p → p ≠ i → s.evalJournal = s →
            s.journal.isLow = false → s.alarmsSettled → ∃ t, ended t ∧
              t.journal = { s.journal with pages := s.journal.pages.set i ⟨.free, []⟩ } ∧
              t.loans = s.loans.filter (fun l => !(s.journal.pages[i].records.any fun r => r.seq == l.chargeSeq)) ∧
              t = { s with journal := t.journal, loans := t.loans, upload := t.upload, sent := t.sent }))

/-- O30. WINDOW_END with the window timer at 0 ends a PAUSED run ABORTED_OFFLINE, and UPLOAD_STOP ends it ABORTED_STOP and
is answered DONE: the run is IDLE, its marks are clear, its window timer and countdown are stopped, no block is in
hand and no section copy is kept; the run number and the run counts stand. A deferred program, where one is held, is
then the program; each field that a deferred configuration carries is then that of the configuration, and a field it
lacks stands; both deferred values are absent. That the notice leaves before the response of UPLOAD_STOP is the
model's choice (log entry 49). (Cites: R181, R193, R194, R195.) -/
def Obligations.RunEndsWhilePaused : Prop :=
  ∀ (tok : Token) (s : State), s.upload.run = .paused →
    let u : Upload := { s.upload with
      run := .idle, trigger := false, stop := false, window := none, hand := none, sect := none, wait := none
      program := s.upload.defProgram.getD s.upload.program, config := s.upload.finalConfig
      defProgram := none, defConfig := none }
    (s.upload.window = some 0 → exec .windowEnd s = .next ({ s with upload := u }.sending
      (s.onTrunk [s.stamped (.uploadEnd .abortedOffline s.upload.runNumber s.upload.counts)]))) ∧
    (s.mgmt.restarting = false → exec (.uploadStop tok []) s = .next ({ s with upload := u }.sending
      (s.onTrunk [s.stamped (.uploadEnd .abortedStop s.upload.runNumber s.upload.counts),
        .response tok 0x4B .done []])))

/-- O31. POWER_ON with RETAIN not valid answers State.reset with the straps as the cabinet number; the queue, which is the
model's own, stays. (What State.reset is rests, beside the rules, on log entries 1, 28, 36 and 48: the straps, the
resting values that no rule names, L0 shown in service, and no restart in progress.) POWER_ON with RETAIN valid keeps
the borrower entries with their in-flight marks cleared, the recency list, the exception table, the badge list, both
banks with selector and generation, the pending loan list, the journal with its SENT pages SEALED, every tally, the
threshold, the timer period, the slip hold time and the COMMAND source of every station, the settings of the service
link, the low-water mark and the four lockout enables, the upload program and configuration with the deferred ones
applied, the upload run number, and the alert configuration of every station with a staged one applied; the clock is
UNSET at 0, every line DETACHED, every transaction IDLE, every query FREE with generation 0, every slip slot FREE, the
service OFFLINE with the link DOWN, the run IDLE, the groups released, the sticky flags empty, the start-up notice
pending, and nothing is sent. (Cites: R206, R71, R89, R132, R149, R162, R177, R181, R196, R201, R203, R205.) -/
def Obligations.PowerOn : Prop :=
  (∀ (straps : Byte) (s : State), exec (.powerOn false straps) s = .next { State.reset with
    pending := s.pending, mgmt := { State.reset.mgmt with cabinet := straps.toNat } }) ∧
  ∀ (straps : Byte) (s : State), ∃ t, exec (.powerOn true straps) s = .next t ∧
    t.borrowers = s.borrowers.map (fun e => { e with inFlight := false }) ∧ t.recency = s.recency ∧
    t.exceptions = s.exceptions ∧ t.badges = s.badges ∧ t.bankA = s.bankA ∧ t.bankB = s.bankB ∧ t.active = s.active ∧
    t.generation = s.generation ∧ t.loans = s.loans ∧ t.pending = s.pending ∧ t.sent = [] ∧
    t.journal.counter = s.journal.counter ∧ t.journal.overflow = s.journal.overflow ∧
    t.journal.lowMark = s.journal.lowMark ∧
    (∀ p : Fin 128, t.journal.pages[p].records = s.journal.pages[p].records ∧
      t.journal.pages[p].state = (if s.journal.pages[p].state = .sent then .sealed else s.journal.pages[p].state)) ∧
    t.clock = ⟨0, 0, 0, false, false⟩ ∧ t.service.state = .offline ∧ t.service.linkUp = false ∧ t.upload.run = .idle ∧
    t.upload.runNumber = s.upload.runNumber ∧
    (∀ g : Tag, t.queries[g] = ⟨0, .free⟩) ∧
    (∀ n, (t.st n).line.link = .detached ∧ (t.st n).ctx.tx = .idle ∧ (t.st n).tallies = (s.st n).tallies ∧
      (t.st n).ctx.lockCommand = (s.st n).ctx.lockCommand ∧ (t.st n).ctx.lockAlarm = t.mgmt.alarms.holds ∧
      ∀ i : Fin 4, (t.st n).slips.slots[i] = .free) ∧
    t.upload.program = s.upload.defProgram.getD s.upload.program ∧
    t.upload.config = s.upload.finalConfig ∧ t.upload.defProgram = none ∧ t.upload.defConfig = none ∧
    (∀ n, (t.st n).line.threshold = (s.st n).line.threshold ∧ (t.st n).ctx.period = (s.st n).ctx.period ∧
      (t.st n).slips.holdTime = (s.st n).slips.holdTime ∧
      (let r := (s.st n).alerts
       (t.st n).alerts.mask = (r.staged.bind (·.mask)).getD r.mask ∧
        (t.st n).alerts.holdSet = (r.staged.bind (·.holdSet)).getD r.holdSet ∧
        (t.st n).alerts.autoAck = (r.staged.bind (·.autoAck)).getD r.autoAck ∧
        (t.st n).alerts.mode = (r.staged.bind (·.mode)).getD r.mode ∧
        (t.st n).alerts.bottom = (r.staged.bind (·.bottom)).getD r.bottom ∧ (t.st n).alerts.staged = none)) ∧
    t.service.patience = s.service.patience ∧ t.service.trip = s.service.trip ∧
    t.service.interval = s.service.interval ∧ t.service.policy = s.service.policy ∧
    t.mgmt.alarms.rulesInvalid.enable = s.mgmt.alarms.rulesInvalid.enable ∧
    t.mgmt.alarms.clockUnset.enable = s.mgmt.alarms.clockUnset.enable ∧
    t.mgmt.alarms.journalLow.enable = s.mgmt.alarms.journalLow.enable ∧
    t.mgmt.alarms.journalFull.enable = s.mgmt.alarms.journalFull.enable ∧
    t.mgmt.snapTallies = none ∧ t.mgmt.snapService = none ∧ t.mgmt.snapJournal = none ∧ t.mgmt.sticky = {} ∧
    t.mgmt.startUp = some .powerOnRetained ∧ t.mgmt.lastReset = .powerOnRetained ∧ t.mgmt.cabinet = straps.toNat

/-- O32. With a restart in progress and no message held, RESTART_TAKES_EFFECT answers the next state of POWER_ON with
RETAIN valid but for the clock, which is as it was, the CLOCK_UNSET alarm, which follows that clock, the ALARM
condition and every station's ALARM source, which follow the alarms, and the reset kind RESTART of the last reset and
of the pending start-up notice. With messages held, they are taken in order on that state, each as its command is: one
held message gives what its command gives there. (Cites: R88, R198, R205, R206, R207.) -/
def Obligations.RestartKeepsClock : Prop :=
  ∀ (straps : Byte) (s : State), s.mgmt.restarting = true →
    (s.mgmt.held = [] → ∃ t u, exec (.powerOn true straps) s = .next t ∧ exec (.restartTakesEffect straps) s = .next u ∧
      let al := { t.mgmt.alarms with clockUnset := ⟨!s.clock.isSet, s.mgmt.alarms.clockUnset.enable⟩ }
      u = { t with
        clock := s.clock
        stations := t.stations.map fun x => { x with ctx := { x.ctx with lockAlarm := al.holds } }
        mgmt := { t.mgmt with
          alarms := al, alarmCond := al.holds, startUp := some .restart, lastReset := .restart } }) ∧
    ∃ u, exec (.restartTakesEffect straps) { s with mgmt := { s.mgmt with held := [] } } = .next u ∧
      exec (.restartTakesEffect straps) s = .next (s.mgmt.held.foldl State.takeCommand u) ∧
      (∀ i, s.mgmt.held = [i] → (commandOf i).isSome = true → exec (.restartTakesEffect straps) s = exec i u)

/-- O33. For each of the 36 management commands and an unknown command, taken while a restart is in progress, the next
state differs only in the list of held messages, which gains the message at its end; nothing is answered. An unknown
code changes nothing but the response UNKNOWN_COMMAND with an empty body. RESTART changes only the restart mark and is
answered DONE. For each of the 36 management commands, a body whose parse by the fields of R209 fails is answered
BAD_FIELD with the offset of the first refused field, and nothing changes; the answer of SHADOW_CLEAR and of the seven
loads carries the completeness of the shadow bank after the offset (log entry 16). The date lists take the window of
the shadow header. A command without fields refuses any body at offset 0, and a station field refuses at its offset a
value above 7, where all stations may be named one above 7 other than 255. (Cites: R72, R198, R199, R207, R209.) -/
def Obligations.MessagesHeldUnknownOrRefused : Prop :=
  ((∀ (i : Instr) (s : State), (commandOf i).isSome = true → i.wf = true → s.mgmt.restarting = true →
    exec i s = .next ({ s with mgmt := { s.mgmt with held := s.mgmt.held ++ [i] } }.sending [])) ∧
    ∀ (tok : Token) (code : Byte) (body : List Byte) (s : State), s.mgmt.restarting = false →
    (commandCodes.contains code = false →
      exec (.unknownCommand tok code body) s = .next (s.answered tok code .unknownCommand [])) ∧
    exec (.restart tok []) s = .next
      ({ s with mgmt := { s.mgmt with restarting := true } }.answered tok 0x6F .done [])) ∧
  (refusesBody .borrowerPut 0x10 (fun _ => borrowerPutBody) (fun _ => []) ∧
    refusesBody .borrowerDelete 0x11 (fun _ => Body.identifier .borrower) (fun _ => []) ∧
    refusesBody .borrowerRead 0x12 (fun _ => Body.identifier .borrower) (fun _ => []) ∧
    refusesBody .itemPut 0x14 (fun _ => itemPutBody) (fun _ => []) ∧
    refusesBody .itemDelete 0x15 (fun _ => Body.identifier .item) (fun _ => []) ∧
    refusesBody .badgeSet 0x18 (fun _ => Body.list 0 16 (Body.identifier .badge)) (fun _ => []) ∧
    refusesBody .shadowClear 0x20 (fun _ => noFields) (fun s => s.shadowBank.marks) ∧
    refusesBody .ruleLoad 0x21 (fun _ => ruleBody) (fun s => s.shadowBank.marks) ∧
    refusesBody .matrixLoad 0x22 (fun _ => matrixBody) (fun s => s.shadowBank.marks) ∧
    refusesBody .categoryLoad 0x23 (fun _ => categoryBody) (fun s => s.shadowBank.marks) ∧
    refusesBody .bankSettingsLoad 0x24 (fun _ => settingsBody) (fun s => s.shadowBank.marks) ∧
    refusesBody .calendarLoad 0x25 (fun _ => calendarBody) (fun s => s.shadowBank.marks) ∧
    refusesBody .closedDatesLoad 0x26 (fun s => datesBody s.shadowBank.header 64) (fun s => s.shadowBank.marks) ∧
    refusesBody .openDatesLoad 0x27 (fun s => datesBody s.shadowBank.header 16) (fun s => s.shadowBank.marks) ∧
    refusesBody .bankSwap 0x28 (fun _ => noFields) (fun _ => []) ∧
    refusesBody .clockSet 0x29 (fun _ => clockBody) (fun _ => []) ∧
    refusesBody .stationLock 0x30 (fun _ => Body.stations) (fun _ => []) ∧
    refusesBody .stationUnlock 0x31 (fun _ => Body.stations) (fun _ => [])) ∧
  (refusesBody .stationClear 0x32 (fun _ => Body.station) (fun _ => []) ∧
    refusesBody .deskConfig 0x33 (fun _ => deskConfigBody) (fun _ => []) ∧
    refusesBody .alertConfig 0x38 (fun _ => alertConfigBody) (fun _ => []) ∧
    refusesBody .alertPoll 0x39 (fun _ => Body.station) (fun _ => []) ∧
    refusesBody .alertClear 0x3A (fun _ => alertClearBody) (fun _ => []) ∧
    refusesBody .serviceConfig 0x40 (fun _ => serviceConfigBody) (fun _ => []) ∧
    refusesBody .uploadProgram 0x48 (fun _ => programBody) (fun _ => []) ∧
    refusesBody .uploadConfig 0x49 (fun _ => uploadConfigBody) (fun _ => []) ∧
    refusesBody .uploadTrigger 0x4A (fun _ => noFields) (fun _ => []) ∧
    refusesBody .uploadStop 0x4B (fun _ => noFields) (fun _ => []) ∧
    refusesBody .journalConfig 0x50 (fun _ => journalConfigBody) (fun _ => []) ∧
    refusesBody .journalClear 0x51 (fun _ => noFields) (fun _ => []) ∧
    refusesBody .alarmConfig 0x58 (fun _ => alarmConfigBody) (fun _ => []) ∧
    refusesBody .latch 0x60 (fun _ => groupBody) (fun _ => []) ∧
    refusesBody .snapshotRead 0x61 (fun _ => groupBody) (fun _ => []) ∧
    refusesBody .flagsReadClear 0x62 (fun _ => noFields) (fun _ => []) ∧
    refusesBody .statusRead 0x63 (fun _ => noFields) (fun _ => []) ∧
    refusesBody .restart 0x6F (fun _ => noFields) (fun _ => [])) ∧
  ∀ (v : Byte) (rest : List Byte), parseBody noFields (v :: rest) = .error 0 ∧
    (7 < v.toNat → parseBody Body.station (v :: rest) = .error 0 ∧
      (v.toNat ≠ 255 → parseBody Body.stations (v :: rest) = .error 0))

/-- O34. When the body carries the entry e: with an entry standing, e stands in its place, LOADED with both marks clear,
and the number leaves the recency list; with none and fewer than 4096 entries, e stands and the table is one longer;
with none and a full table, the least recent entry that is unchanged and has no charge transaction open is evicted
from the table and the recency list, and e stands; at each creation a station that carries the borrower UNTRACKED
becomes TRACKED and drops its view, and all else of the stations stays. With none, a full table and nothing to evict,
the command is answered TABLE_FULL and nothing changes. Every other number's entry is as it was. (Cites: R50, R51,
R52, R59, R64.) -/
def Obligations.BorrowerPutGivesEntry : Prop :=
  ∀ (tok : Token) (body : List Byte) (e : Borrower) (s : State), s.mgmt.restarting = false →
    parseBody borrowerPutBody body = .ok e →
    let tracks (t : State) := ∀ n, t.st n = { s.st n with ctx :=
      (if (s.st n).ctx.chargesFor e.number = true ∧ (s.st n).ctx.tracked = false then { (s.st n).ctx with tracked := true, view := none } else (s.st n).ctx) }
    e.origin = .loaded ∧ e.changed = false ∧ e.inFlight = false ∧
    ((s.borrower? e.number).isSome = true → ∃ t, exec (.borrowerPut tok body) s = .next t ∧
      t.borrower? e.number = some e ∧ (∀ b, b ≠ e.number → t.borrower? b = s.borrower? b) ∧
      t = { s with borrowers := t.borrowers, recency := s.recency.filter (· != e.number),
                   sent := s.onTrunk [.response tok 0x10 .done []] }) ∧
    (s.borrower? e.number = none → s.borrowers.length < 4096 → ∃ t, exec (.borrowerPut tok body) s = .next t ∧
      t.borrower? e.number = some e ∧ (∀ b, b ≠ e.number → t.borrower? b = s.borrower? b) ∧
      t.borrowers.length = s.borrowers.length + 1 ∧ tracks t ∧
      t = { s with borrowers := t.borrowers, stations := t.stations, sent := s.onTrunk [.response tok 0x10 .done []] }) ∧
    (s.borrower? e.number = none → 4096 ≤ s.borrowers.length →
      ∀ xs v ys, s.recency = xs ++ v :: ys → (∃ ev, s.borrower? v = some ev ∧ ev.changed = false) →
      (∀ n, (s.st n).ctx.chargesFor v = false) →
      (∀ w ∈ ys, ∀ ew, s.borrower? w = some ew → ew.changed = true ∨ ∃ n, (s.st n).ctx.chargesFor w = true) →
      ∃ t, exec (.borrowerPut tok body) s = .next t ∧ t.borrower? e.number = some e ∧ t.borrower? v = none ∧
        (∀ b, b ≠ e.number → b ≠ v → t.borrower? b = s.borrower? b) ∧ tracks t ∧
        t = { s with borrowers := t.borrowers, recency := s.recency.filter (· != v), stations := t.stations,
                     sent := s.onTrunk [.response tok 0x10 .done []] }) ∧
    (s.borrower? e.number = none → 4096 ≤ s.borrowers.length → s.evictee = none →
      exec (.borrowerPut tok body) s = .next (s.answered tok 0x10 .tableFull []))

/-- O35. When the body names borrower b: BORROWER_READ changes nothing; with an entry it answers DONE with, in order, the
number, the category, the manual block and the expiry each behind a presence byte, the balance, the items on loan, the
overdue count, the origin, both marks, each 1 for set and 0 for clear, which is the model's choice (log entry 18), and
for a LEARNED entry its position in the recency list from 1, behind a presence byte; without one it answers NOT_FOUND.
BORROWER_DELETE with an entry leaves none for b, keeps every other entry, the pending loan list and the order of the
recency list without b, and makes each station that carries b TRACKED in a charge transaction UNTRACKED with the
entry's category and items on loan in its view; every other station stays as it was; without an entry it answers
NOT_FOUND and changes nothing. (Cites: R59, R65, R66, R208, R209.) -/
def Obligations.BorrowerReadAndDelete : Prop :=
  ∀ (tok : Token) (body : List Byte) (b : Nat) (s : State), s.mgmt.restarting = false →
    parseBody (Body.identifier .borrower) body = .ok b →
    (s.borrower? b = none → exec (.borrowerRead tok body) s = .next (s.answered tok 0x12 .notFound []) ∧
      exec (.borrowerDelete tok body) s = .next (s.answered tok 0x11 .notFound [])) ∧
    ∀ e, s.borrower? b = some e →
      exec (.borrowerRead tok body) s = .next (s.answered tok 0x12 .done
        (digits 10 e.number ++ be 1 e.category ++
          ((match e.manual with | some v => 1 :: be 1 v | none => [0, 0]) : List Byte) ++
          ((match e.expiry with | some v => 1 :: be 2 v | none => [0, 0, 0]) : List Byte) ++
          be 3 e.balance ++ be 1 e.onLoan ++ be 1 e.overdue ++
          ([match e.origin with | .loaded => 0 | .learned => 1 | .provisional => 2] : List Byte) ++
          ([if e.changed then 1 else 0, if e.inFlight then 1 else 0] : List Byte) ++
          ((if e.origin = .learned then 1 :: be 2 (s.recency.idxOf e.number + 1) else [0, 0, 0]) : List Byte))) ∧
      ∃ t, exec (.borrowerDelete tok body) s = .next t ∧ t.borrower? b = none ∧
        (∀ c, c ≠ b → t.borrower? c = s.borrower? c) ∧ t.recency = s.recency.filter (· != b) ∧
        (∀ n, t.st n = { s.st n with ctx :=
          (if (s.st n).ctx.chargesFor b = true ∧ (s.st n).ctx.tracked = true then { (s.st n).ctx with tracked := false, view := some ⟨e.category, e.onLoan⟩ } else (s.st n).ctx) }) ∧
        t = { s with borrowers := t.borrowers, recency := t.recency, stations := t.stations,
                     sent := s.onTrunk [.response tok 0x11 .done []] }

/-- O36. When the body carries the exception entry e and an entry stands for its item or the table holds fewer than 1024,
the kind of e stands for its item afterwards; with 1024 entries and none for the item the command is answered
TABLE_FULL and nothing changes. ITEM_DELETE of an item with an entry leaves none, and without one is answered
NOT_FOUND and changes nothing. Every other item's entry, and all other state, is as it was. When the body carries the
badge numbers ks, at most 16, a number is in the list afterwards exactly when it is among ks, no number stands twice,
and nothing else changes. (Cites: R68, R70.) -/
def Obligations.ItemAndBadgeCommands : Prop :=
  (∀ (tok : Token) (body : List Byte) (s : State), s.mgmt.restarting = false →
    (∀ e, parseBody itemPutBody body = .ok e →
      ((s.exception? e.item).isSome = true ∨ s.exceptions.length < 1024 → ∃ t, exec (.itemPut tok body) s = .next t ∧
        t.exception? e.item = some e.kind ∧ (∀ k, k ≠ e.item → t.exception? k = s.exception? k) ∧
        t = { s with exceptions := t.exceptions, sent := s.onTrunk [.response tok 0x14 .done []] }) ∧
      (s.exception? e.item = none → 1024 ≤ s.exceptions.length →
        exec (.itemPut tok body) s = .next (s.answered tok 0x14 .tableFull []))) ∧
    ∀ item, parseBody (Body.identifier .item) body = .ok item →
      ((s.exception? item).isSome = true → ∃ t, exec (.itemDelete tok body) s = .next t ∧ t.exception? item = none ∧
        (∀ k, k ≠ item → t.exception? k = s.exception? k) ∧
        t = { s with exceptions := t.exceptions, sent := s.onTrunk [.response tok 0x15 .done []] }) ∧
      (s.exception? item = none → exec (.itemDelete tok body) s = .next (s.answered tok 0x15 .notFound []))) ∧
  ∀ (tok : Token) (body : List Byte) (ks : List Nat) (s : State), s.mgmt.restarting = false →
    parseBody (Body.list 0 16 (Body.identifier .badge)) body = .ok ks →
      ∃ t, exec (.badgeSet tok body) s = .next t ∧ (∀ k, k ∈ t.badges ↔ k ∈ ks) ∧ t.badges.Nodup ∧
        t = { s with badges := t.badges, sent := s.onTrunk [.response tok 0x18 .done []] }

/-- O37. After SHADOW_CLEAR the shadow bank holds no rule record, matrix row, category record, settings or header and two
empty date lists, so all its marks are clear; the answer is DONE with completeness 0, 0, 0, no settings, no header,
whatever the shadow bank held; the active bank, the selector, the generation and all other state are as they were.
(Cites: R79.) -/
def Obligations.ShadowClearEmptiesShadow : Prop :=
  ∀ (tok : Token) (s : State), s.mgmt.restarting = false → ∃ t, exec (.shadowClear tok []) s = .next t ∧
    (∀ i : Fin 32, t.shadowBank.rules[i] = none) ∧ (∀ i : Fin 64, t.shadowBank.matrix[i] = none) ∧
    (∀ i : Fin 16, t.shadowBank.categories[i] = none) ∧ t.shadowBank.settings = none ∧ t.shadowBank.header = none ∧
    t.shadowBank.closedDates = [] ∧ t.shadowBank.openDates = [] ∧ t.activeBank = s.activeBank ∧
    t.active = s.active ∧ t.generation = s.generation ∧
    t = { s with bankA := t.bankA, bankB := t.bankB, sent := s.onTrunk [.response tok 0x20 .done [0, 0, 0, 0, 0]] }

/-- O38. When the body carries the part: the part stands at its index afterwards, so its mark is set; every other part of
the shadow bank, the whole active bank, the selector and all other state are as they were, and the answer is DONE with
the completeness that the shadow bank then has: the rule, row and category marks counted, and whether the settings and
the header are loaded. (Cites: R72, R73, R74, R75, R76, R209.) -/
def Obligations.RecordLoadsWriteShadow : Prop :=
  ∀ (tok : Token) (body : List Byte) (s : State), s.mgmt.restarting = false →
    (∀ i r, parseBody ruleBody body = .ok (i, r) → ∃ t, exec (.ruleLoad tok body) s = .next t ∧
      i < 32 ∧ (∀ j : Fin 32, t.shadowBank.rules[j] = if j.val = i then some r else s.shadowBank.rules[j]) ∧
      t.shadowBank = { s.shadowBank with rules := t.shadowBank.rules } ∧ t.activeBank = s.activeBank ∧
      t = { s with bankA := t.bankA, bankB := t.bankB, sent := s.onTrunk [.response tok 0x21 .done t.shadowBank.marks] }) ∧
    (∀ i cells, parseBody matrixBody body = .ok (i, cells) → ∃ t, exec (.matrixLoad tok body) s = .next t ∧
      i < 64 ∧ cells.length = 16 ∧
      (∀ j : Fin 64, t.shadowBank.matrix[j] = if j.val = i then some cells else s.shadowBank.matrix[j]) ∧
      t.shadowBank = { s.shadowBank with matrix := t.shadowBank.matrix } ∧ t.activeBank = s.activeBank ∧
      t = { s with bankA := t.bankA, bankB := t.bankB, sent := s.onTrunk [.response tok 0x22 .done t.shadowBank.marks] }) ∧
    (∀ i k, parseBody categoryBody body = .ok (i, k) → ∃ t, exec (.categoryLoad tok body) s = .next t ∧
      i < 16 ∧ (∀ j : Fin 16, t.shadowBank.categories[j] = if j.val = i then some k else s.shadowBank.categories[j]) ∧
      t.shadowBank = { s.shadowBank with categories := t.shadowBank.categories } ∧ t.activeBank = s.activeBank ∧
      t = { s with bankA := t.bankA, bankB := t.bankB, sent := s.onTrunk [.response tok 0x23 .done t.shadowBank.marks] }) ∧
    ∀ x, parseBody settingsBody body = .ok x → ∃ t, exec (.bankSettingsLoad tok body) s = .next t ∧
      t.shadowBank = { s.shadowBank with settings := some x } ∧ t.activeBank = s.activeBank ∧
      t = { s with bankA := t.bankA, bankB := t.bankB, sent := s.onTrunk [.response tok 0x24 .done t.shadowBank.marks] }

/-- O39. When the body carries the header h: h is the shadow header afterwards, and a day number stays in a date list, in
its order, unless a header was loaded before, the base day changed and it lies outside the new window; the answer is
DONE with the completeness and the numbers of dates removed from the two lists. When the body carries day numbers of
the window: the list holds exactly those, in ascending order, each once, and the answer is DONE with the completeness.
Every other part of the shadow bank, the active bank and all other state are as they were. (Cites: R72, R77, R78,
R209.) -/
def Obligations.CalendarLoadsWriteShadow : Prop :=
  ∀ (tok : Token) (body : List Byte) (s : State), s.mgmt.restarting = false →
    (∀ h, parseBody calendarBody body = .ok h → ∃ t, exec (.calendarLoad tok body) s = .next t ∧
      let stays (d : Nat) := decide ((s.shadowBank.header.map (·.base)).getD h.base = h.base ∨
        (h.base ≤ d ∧ d < h.base + 512))
      let removed (ds : List Nat) : Byte := byte (ds.length - (ds.filter stays).length)
      t.shadowBank = { s.shadowBank with
        header := some h
        closedDates := s.shadowBank.closedDates.filter stays, openDates := s.shadowBank.openDates.filter stays } ∧
      t.activeBank = s.activeBank ∧
      t = { s with bankA := t.bankA, bankB := t.bankB, sent := s.onTrunk [.response tok 0x25 .done (t.shadowBank.marks ++
        [removed s.shadowBank.closedDates, removed s.shadowBank.openDates])] }) ∧
    (∀ ds, parseBody (datesBody s.shadowBank.header 64) body = .ok ds → ∃ t,
      exec (.closedDatesLoad tok body) s = .next t ∧ (∀ d, d ∈ t.shadowBank.closedDates ↔ d ∈ ds) ∧
      t.shadowBank.closedDates.Pairwise (· < ·) ∧
      t.shadowBank = { s.shadowBank with closedDates := t.shadowBank.closedDates } ∧ t.activeBank = s.activeBank ∧
      t = { s with bankA := t.bankA, bankB := t.bankB, sent := s.onTrunk [.response tok 0x26 .done t.shadowBank.marks] }) ∧
    ∀ ds, parseBody (datesBody s.shadowBank.header 16) body = .ok ds → ∃ t,
      exec (.openDatesLoad tok body) s = .next t ∧ (∀ d, d ∈ t.shadowBank.openDates ↔ d ∈ ds) ∧
      t.shadowBank.openDates.Pairwise (· < ·) ∧
      t.shadowBank = { s.shadowBank with openDates := t.shadowBank.openDates } ∧ t.activeBank = s.activeBank ∧
      t = { s with bankA := t.bankA, bankB := t.bankB, sent := s.onTrunk [.response tok 0x27 .done t.shadowBank.marks] }

/-- O40. With a complete shadow bank the selector names the other bank, the generation rises by one (255 wrapping to 0),
both banks keep their contents, RULES_INVALID is inactive and the answer is DONE; the borrower table, the loans, the
clock and the badges are as they were. Where RULES_INVALID was inactive: with the journal ready, a DEVICE_EVENT record
BANK_SWAPPED of station DEVICE with the new generation joins the page, and with no FILLING page and the alarms settled
it is lost to the overflow count while the swap stands. With an incomplete shadow bank nothing changes. (Cites: R80,
R82, R164, R171.) -/
def Obligations.BankSwapExchangesBanks : Prop :=
  ∀ (tok : Token) (s : State), s.mgmt.restarting = false →
    (s.shadowBank.complete = true → ∃ t, exec (.bankSwap tok []) s = .next t ∧ t.activeBank = s.shadowBank ∧
      t.shadowBank = s.activeBank ∧ t.bankA = s.bankA ∧ t.bankB = s.bankB ∧
      t.generation = (s.generation + 1) % 256 ∧ t.mgmt.alarms.rulesInvalid.active = false ∧
      t.borrowers = s.borrowers ∧ t.loans = s.loans ∧ t.clock = s.clock ∧ t.badges = s.badges ∧
      t.answers tok 0x28 .done ∧
      (s.mgmt.alarms.rulesInvalid.active = false →
        (∀ p, s.ready p → t.journal = (s.recorded p { s.record .deviceEvent none with
          detail := some .bankSwapped, bankGen := some ((s.generation + 1) % 256) }).journal) ∧
        (s.journal.filling? = none → s.alarmsSettled → t.journal = s.lost.journal))) ∧
    (s.shadowBank.complete = false → exec (.bankSwap tok []) s = .next (s.answered tok 0x28 .bankIncomplete []))

/-- O41. When the body carries day, minute and second, the clock holds them afterwards, SET and running, the CLOCK_UNSET
alarm is inactive, DONE is answered, and the exception table, the badges, the banks and the query table are as they
were; with a second other than 0, no minute arrives, and the borrower table and the upload controller are as they were
too. With such a second, and CLOCK_UNSET inactive before: with the journal ready, a DEVICE_EVENT record CLOCK_SET of
station DEVICE, stamped with the new day and minute, joins the page, and with no FILLING page and the alarms settled
it is lost to the overflow count while the clock is set. (Cites: R87, R88, R164, R171, R182.) -/
def Obligations.ClockSetSetsClock : Prop :=
  ∀ (tok : Token) (body : List Byte) (d m k : Nat) (s : State), s.mgmt.restarting = false →
    parseBody clockBody body = .ok (d, m, k) → ∃ t, exec (.clockSet tok body) s = .next t ∧
      d ≤ 65535 ∧ m ≤ 1439 ∧ k ≤ 59 ∧ t.clock = ⟨d, m, k, true, false⟩ ∧ t.mgmt.alarms.clockUnset.active = false ∧
      t.exceptions = s.exceptions ∧ t.badges = s.badges ∧ t.bankA = s.bankA ∧
      t.bankB = s.bankB ∧ t.queries = s.queries ∧
      (k ≠ 0 → t.borrowers = s.borrowers ∧ t.upload = s.upload) ∧ t.answers tok 0x29 .done ∧
      (k ≠ 0 → s.mgmt.alarms.clockUnset.active = false →
        (∀ p, s.ready p → t.journal = (s.recorded p { s.record .deviceEvent none with
          day := d, minute := m, detail := some .clockSet }).journal) ∧
        (s.journal.filling? = none → s.alarmsSettled → t.journal = s.lost.journal))

/-- O42. When the body names the stations ns, one station or all eight: COMMAND is asserted, or released, at each of them
and unchanged at the others, whatever the link state, and the answer is DONE. When every named station already stands
so, nothing changes but the answer. (Cites: R45.) -/
def Obligations.StationLocksAreSet : Prop :=
  ∀ (tok : Token) (body : List Byte) (ns : List StationNo) (on : Bool) (s : State), s.mgmt.restarting = false →
    parseBody Body.stations body = .ok ns →
    let c : Instr := if on then .stationLock tok body else .stationUnlock tok body
    let code : Byte := if on then 0x30 else 0x31
    ((∃ n, ns = [n]) ∨ ns = List.finRange 8) ∧
    (∃ t, exec c s = .next t ∧ (∀ n, (t.st n).ctx.lockCommand = if n ∈ ns then on else (s.st n).ctx.lockCommand) ∧
      t.answers tok code .done) ∧
    ((∀ n ∈ ns, (s.st n).ctx.lockCommand = on) → exec c s = .next (s.answered tok code .done []))

/-- O43. When the body names station n, whose context is cleared if it is IDLE (an invariant of the model, stated as
TransactionInvariant): its context is cleared, so that it is IDLE with an empty list, while its lock sources and timer
period stay; its history is empty, its link is ACTIVE if it was CHECK and unchanged otherwise, its silence timer,
printer state, threshold, lock key and credit are kept; its tallies are as they were, no slip slot is RESERVED where
at most one was, no journal record is written, every other station is as it was, and DONE is answered. (Cites: R18,
R46, R47, R48.) -/
def Obligations.StationClearEffect : Prop :=
  ∀ (tok : Token) (body : List Byte) (n : StationNo) (s : State), s.mgmt.restarting = false →
    parseBody Body.station body = .ok n → ((s.st n).ctx.tx = .idle → (s.st n).ctx = (s.st n).ctx.cleared) →
    ∃ t, exec (.stationClear tok body) s = .next t ∧ (t.st n).ctx = (s.st n).ctx.cleared ∧
      (t.st n).line = { (s.st n).line with
        history := [], link := if (s.st n).line.link = .check then .active else (s.st n).line.link } ∧
      (t.st n).tallies = (s.st n).tallies ∧ t.journal = s.journal ∧
      ((∀ i k : Fin 4, (s.st n).slips.slots[i] = .reserved → (s.st n).slips.slots[k] = .reserved → i = k) →
        ∀ i : Fin 4, (t.st n).slips.slots[i] ≠ .reserved) ∧
      (∀ m, m ≠ n → t.st m = s.st m) ∧ t.answers tok 0x32 .done

/-- O44. When the body names the stations ns with three quantities, and no named station's fault timer has reached the new
hold time: each named station holds T at most 8, the period within 5 to 600 and the hold time within 60 to 3600 as the
nearest values to those carried, every other setting and station is as it was, and the answer is CLAMPED when a value
was moved and DONE otherwise. When the body names one station whose fault timer runs at or above the new hold time in
a printer fault: that station holds the three new values, and its QUEUED and INTERRUPTED slips are discarded at the
command, with their records, tally and restarted timer as at a hold expiry; the answer is the same. The body of
CLAMPED is the model's encoding (log entry 19). (Cites: R16, R43, R159, R160, R163, R199.) -/
def Obligations.DeskConfigClamps : Prop :=
  ∀ (tok : Token) (body : List Byte) (ns : List StationNo) (a b c : Nat) (s : State), s.mgmt.restarting = false →
    parseBody deskConfigBody body = .ok (ns, a, b, c) →
    let hold := max 60 (min 3600 c)
    let answer : Result := if a ≤ 8 ∧ 5 ≤ b ∧ b ≤ 600 ∧ 60 ≤ c ∧ c ≤ 3600 then .done else .clamped
    ((∀ n ∈ ns, ∀ k, (s.st n).slips.faultTimer = some k → k < hold) →
      ∃ t, exec (.deskConfig tok body) s = .next t ∧
        (∀ n, t.st n = if n ∈ ns then
            { s.st n with
              line := { (s.st n).line with threshold := min 8 a }
              ctx := { (s.st n).ctx with period := max 5 (min 600 b) }
              slips := { (s.st n).slips with holdTime := hold } }
          else s.st n) ∧
        t = { s with stations := t.stations, sent := t.sent } ∧
        t.answers tok 0x33 answer) ∧
    ∀ (n : StationNo) (k : Nat), ns = [n] → (s.st n).slips.faultTimer = some k → hold ≤ k →
      printerFault (s.st n).line.printer = true →
      let configured := ((s.updLine n fun l => { l with threshold := min 8 a }).updCtx n fun c =>
        { c with period := max 5 (min 600 b) }).updSlips n fun q => { q with holdTime := hold }
      ∃ t, exec (.deskConfig tok body) s = .next t ∧ configured.slipsDiscarded t n ∧
        (t.st n).line = (configured.st n).line ∧ (t.st n).ctx.period = max 5 (min 600 b) ∧
        (t.st n).slips.holdTime = hold ∧ t.answers tok 0x33 answer

/-- O45. When the body names one station n with the fields f: at a station that is not IDLE, f becomes the staged
configuration, replacing any earlier one, the answer is DEFERRED and nothing else changes; at an IDLE station whose
resolver is quiet, whose sets are empty and which has nothing staged, the fields present replace its settings, FIXED
gives the order with lowest level L7, ROTATING the order with the bottom level lowest, a bottom level without a mode
sets the order in ROTATING mode only, and the answer is DONE. (Cites: R144, R145.) -/
def Obligations.AlertConfigStagedOrApplied : Prop :=
  ∀ (tok : Token) (body : List Byte) (n : StationNo) (f : AlertFields) (s : State), s.mgmt.restarting = false →
    parseBody alertConfigBody body = .ok ([n], f) →
    ((s.st n).ctx.tx ≠ .idle → ∃ bytes, exec (.alertConfig tok body) s = .next
      ((s.updAlerts n fun r => { r with staged := some f }).answered tok 0x38 .deferred bytes)) ∧
    ((s.st n).ctx.tx = .idle → (s.st n).alerts.quiet = true → (s.st n).alerts.pending = .empty →
      (s.st n).alerts.inService = .empty → (s.st n).alerts.staged = none →
      exec (.alertConfig tok body) s = .next
        ((s.updAlerts n fun r => { r with
          mask := f.mask.getD r.mask, holdSet := f.holdSet.getD r.holdSet, autoAck := f.autoAck.getD r.autoAck
          mode := f.mode.getD r.mode, bottom := f.bottom.getD r.bottom
          lowest :=
            if f.mode = some .fixed then .l7
            else if f.mode = some .rotating then f.bottom.getD r.bottom
            else if r.mode = .rotating then f.bottom.getD r.lowest else r.lowest }).answered tok 0x38 .done []))

/-- O46. ALERT_POLL changes nothing and answers DONE with the pending, in-service, mask, hold and auto-ack sets, the
priority mode, the bottom level, the lowest level of the order, the displayed level with its message index (255 and 0
where none is displayed, the model's choice, log entry 54), the L5 origin behind a presence byte and whether a
configuration is staged. ALERT_CLEAR of a level in neither set answers NOT_FOUND and changes nothing; of L6 or L7 when
it alone stands, in one set or in both, at a station with no hold reported and not CLOSING, it leaves both sets empty
and the transaction as it was, and DONE is answered. Of L0 when it alone stands at a station with a station fault,
unmasked, the hold condition as it gives it and not CLOSING, L0 is in service again and the transaction as it was (an
auto-ack set with L0, which ALERT_CONFIG refuses, is left out). Of L1 to L4, or L5 of an origin other than ITEM, in a
charge transaction: the borrower is refused, with a DISPLAY of tone REFUSE; the context is cleared, a single RESERVED
slot is FREE, and none of L1 to L5 stands in a set; of L5 with origin ITEM, standing alone at a station HELD from OPEN
with no outcome parked: every entry waiting for OVERRIDE is REFUSED, the other entries stay, both sets are empty, the
hold ends and the transaction is OPEN. Neither writes a record nor counts in a tally; that such an entry has no
decided-by is the model's choice (log entry 26). (Cites: R23, R27, R135, R141, R146, R147, R208, R209.) -/
def Obligations.AlertPollAndClear : Prop :=
  ∀ (tok : Token) (body : List Byte) (n : StationNo) (s : State), s.mgmt.restarting = false →
    (parseBody Body.station body = .ok n →
      let r := (s.st n).alerts
      exec (.alertPoll tok body) s = .next (s.answered tok 0x39 .done
        ([r.pending, r.inService, r.mask, r.holdSet, r.autoAck].flatMap (fun x => be 1 x.bits) ++
          ([match r.mode with | .fixed => 0 | .rotating => 1, levelByte (some r.bottom), levelByte (some r.lowest),
            levelByte r.displayed, byte ((r.displayed.map fun l => r.index[l.idx]).getD 0)] : List Byte) ++
          ((match r.origin with | some .borrower => [1, 0] | some .item => [1, 1] | none => [0, 0]) : List Byte) ++
          ([if r.staged.isSome then 1 else 0] : List Byte)))) ∧
    ∀ l, parseBody alertClearBody body = .ok (n, l) →
      ((s.st n).alerts.pending.mem l = false → (s.st n).alerts.inService.mem l = false →
        exec (.alertClear tok body) s = .next (s.answered tok 0x3A .notFound [])) ∧
      (((s.st n).alerts.pending.mem l = true ∨ (s.st n).alerts.inService.mem l = true) → (l = .l6 ∨ l = .l7) →
        (s.st n).alerts.pending.erase l = .empty → (s.st n).alerts.inService.erase l = .empty →
        (s.st n).alerts.hold = false → (s.st n).ctx.tx ≠ .closing →
        ∃ t, exec (.alertClear tok body) s = .next t ∧ (t.st n).alerts.pending = .empty ∧
          (t.st n).alerts.inService = .empty ∧ (t.st n).ctx = (s.st n).ctx ∧ t.answers tok 0x3A .done) ∧
      (((s.st n).alerts.pending.mem l = true ∨ (s.st n).alerts.inService.mem l = true) →
        let cleared (t : State) : Prop := exec (.alertClear tok body) s = .next t ∧ t.answers tok 0x3A .done ∧
          t.journal = s.journal ∧ (t.st n).tallies = (s.st n).tallies ∧ t.borrowers = s.borrowers ∧ t.loans = s.loans
        (l = .l0 → (s.st n).alerts.pending.erase .l0 = .empty → (s.st n).alerts.inService.erase .l0 = .empty →
          (s.st n).line.fault = true → (s.st n).alerts.mask.mem .l0 = false → (s.st n).alerts.autoAck.mem .l0 = false →
          (s.st n).alerts.hold = (s.st n).alerts.holdSet.mem .l0 → (s.st n).ctx.tx ≠ .closing →
          ∃ t, cleared t ∧ (t.st n).alerts.pending = .empty ∧
            (t.st n).alerts.inService = LevelSet.empty.insert .l0 ∧ (t.st n).ctx = (s.st n).ctx) ∧
        (∀ r, l.reason? = some r → ¬ (l = .l5 ∧ (s.st n).alerts.origin = some .item) → (s.st n).ctx.kind = some .charge →
          ∃ t, cleared t ∧ (t.st n).ctx = (s.st n).ctx.cleared ∧
            (∀ i : Fin 4, (s.st n).slips.slots[i] = .reserved → (∀ k : Fin 4, k ≠ i → (s.st n).slips.slots[k] ≠ .reserved) →
              (t.st n).slips = { (s.st n).slips with slots := (s.st n).slips.slots.set i .free }) ∧
            (∀ b ∈ [Level.l1, .l2, .l3, .l4, .l5], (t.st n).alerts.pending.mem b = false ∧
              (t.st n).alerts.inService.mem b = false) ∧
            ((s.st n).line.link = .active →
              t.sent.head? = some (.desk n (.display (some .idle) (s.st n).alerts.displayed 0 .refuse)))) ∧
        (l = .l5 → (s.st n).alerts.origin = some .item → (s.st n).alerts.pending.erase .l5 = .empty →
          (s.st n).alerts.inService.erase .l5 = .empty → (s.st n).alerts.hold = true → (s.st n).ctx.tx = .held →
          (s.st n).ctx.interrupted = some .opened → (∀ x ∈ (s.st n).ctx.items, x.parked = none) →
          ∃ t, cleared t ∧ (t.st n).ctx.items = (s.st n).ctx.items.map (fun x => if x.waitsOverride then
              { x with state := .refused, waiting := none, query := none, parked := none, decidedBy := none } else x) ∧
            (t.st n).ctx.tx = .opened ∧ (t.st n).alerts.pending = .empty ∧ (t.st n).alerts.inService = .empty ∧
            (t.st n).alerts.hold = false))

/-- O47. When the body carries the fields f: Q, the trip and the probe interval become the values carried held within 1 to
30, 1 to 15 and 10 to 300, the policy the one carried, an absent field leaves its setting; a service that is not
DEGRADED, or whose count is below the new trip, keeps its state and nothing else changes; a DEGRADED service whose
count is at or above it is OFFLINE. The answer is CLAMPED when a value was moved and DONE otherwise. (Cites: R122,
R130, R199.) -/
def Obligations.ServiceConfigSettles : Prop :=
  ∀ (tok : Token) (body : List Byte) (f : ServiceFields) (s : State), s.mgmt.restarting = false →
    parseBody serviceConfigBody body = .ok f →
    let q := f.patience.map fun v => max 1 (min 30 v)
    let p := f.trip.map fun v => max 1 (min 15 v)
    let i := f.interval.map fun v => max 10 (min 300 v)
    let patience := q.getD s.service.patience
    let trip := p.getD s.service.trip
    let interval := i.getD s.service.interval
    let policy := f.policy.getD s.service.policy
    let result : Result := if q = f.patience ∧ p = f.trip ∧ i = f.interval then .done else .clamped
    (∃ t, exec (.serviceConfig tok body) s = .next t ∧ t.service.patience = patience ∧ t.service.trip = trip ∧
      t.service.interval = interval ∧ t.service.policy = policy ∧ t.service.count = s.service.count ∧
      t.service.state = (if s.service.state = .degraded ∧ trip ≤ s.service.count then .offline else s.service.state) ∧
      t.answers tok 0x40 result) ∧
    ((s.service.state ≠ .degraded ∨ s.service.count < trip) → ∃ bytes, exec (.serviceConfig tok body) s = .next
      ({ s with service := { s.service with
        patience := patience, trip := trip, interval := interval, policy := policy } }.answered tok 0x40 result bytes))

/-- O48. When the body carries the program p: in IDLE it replaces the program and is answered DONE; in a run it becomes
the deferred program and is answered DEFERRED. When it carries the configuration fields f: in IDLE the fields present,
held within their ranges, replace the settings, and the answer is CLAMPED when a value was moved and DONE otherwise;
in a run they become the deferred configuration, replacing an earlier one whole, and are answered DEFERRED. Nothing
else changes. (Cites: R179, R180, R181.) -/
def Obligations.UploadLoads : Prop :=
  ∀ (tok : Token) (body : List Byte) (s : State), s.mgmt.restarting = false →
    (∀ p, parseBody programBody body = .ok p →
      (s.upload.run = .idle → exec (.uploadProgram tok body) s = .next
        ({ s with upload := { s.upload with program := p } }.answered tok 0x48 .done [])) ∧
      (s.upload.run ≠ .idle → ∃ bytes, exec (.uploadProgram tok body) s = .next
        ({ s with upload := { s.upload with defProgram := some p } }.answered tok 0x48 .deferred bytes))) ∧
    ∀ f, parseBody uploadConfigBody body = .ok f →
      let start := f.windowStart.map fun v => min 1439 v
      let length := f.windowLength.map fun v => max 30 (min 720 v)
      let patience := f.patience.map fun v => max 1 (min 60 v)
      let attempts := f.attempts.map fun v => max 1 (min 8 v)
      let result : Result := if start = f.windowStart ∧ length = f.windowLength ∧ patience = f.patience ∧
        attempts = f.attempts then .done else .clamped
      (s.upload.run = .idle → ∃ bytes, exec (.uploadConfig tok body) s = .next
        ({ s with upload := { s.upload with config := {
          mode := f.mode.getD s.upload.config.mode, windowStart := start.getD s.upload.config.windowStart
          windowLength := length.getD s.upload.config.windowLength
          patience := patience.getD s.upload.config.patience
          attempts := attempts.getD s.upload.config.attempts } } }.answered tok 0x49 result bytes)) ∧
      (s.upload.run ≠ .idle → ∃ bytes, exec (.uploadConfig tok body) s = .next
        ({ s with upload := { s.upload with
          defConfig := some ⟨f.mode, start, length, patience, attempts⟩ } }.answered tok 0x49 .deferred bytes))

/-- O49. In IDLE with the service not ONLINE: the run is PAUSED, the run number one higher (65535 wrapping to 0), the
counts 0, the trigger mark set and the stop mark clear, the slot the first of the pass, the window timer at the window
length in NIGHTLY mode and stopped in CONTINUOUS mode, and the answer DONE. In a run nothing changes and the answer is
RUN_IN_PROGRESS, and UPLOAD_STOP in IDLE is answered NOT_FOUND. In IDLE with the service ONLINE the run is SENDING,
with the same run number, marks and first slot, and block 0 of that slot's section is sent as attempt 1: for
BORROWER_CHANGES the first 32 entries with the changed mark in ascending order (the table within its bounds), which
are now in flight; for PENDING_LOANS the first 32 entries of the list; for TALLIES the tallies of the eight stations;
for EMPTY nothing; for JOURNAL, with page p the only page not FREE and FILLING, its records when it holds any, after
which it is SENT, numbered from its first record, and none, numbered from the counter, when it holds none. The block
is final when nothing of its section is left. (Cites: R168, R169, R182, R183, R184, R185, R186, R187, R188, R194.) -/
def Obligations.UploadTriggerStarts : Prop :=
  ∀ (tok : Token) (s : State), s.mgmt.restarting = false →
    (s.upload.run = .idle → s.service.state ≠ .online → exec (.uploadTrigger tok []) s = .next
      ({ s with upload := { s.upload with
        run := .paused, runNumber := (s.upload.runNumber + 1) % 65536, counts := ⟨0, 0, 0, 0, 0, 0⟩, trigger := true
        stop := false, slot := min s.upload.program.start s.upload.program.stop, blockNo := 0, sect := none, hand := none
        window := if s.upload.config.mode = UploadMode.nightly then some s.upload.config.windowLength else none } }.answered
          tok 0x4A .done [])) ∧
    (s.upload.run ≠ .idle → exec (.uploadTrigger tok []) s = .next (s.answered tok 0x4A .runInProgress [])) ∧
    (s.upload.run = .idle → exec (.uploadStop tok []) s = .next (s.answered tok 0x4B .notFound [])) ∧
    (s.upload.run = .idle → s.service.state = .online → ∃ t b, exec (.uploadTrigger tok []) s = .next t ∧
      t.upload.run = .sending ∧ t.upload.hand = some b ∧ t.upload.attempts = 1 ∧ t.upload.counts = ⟨0, 1, 0, 0, 0, 0⟩ ∧
      t.upload.runNumber = (s.upload.runNumber + 1) % 65536 ∧ t.upload.trigger = true ∧ t.upload.stop = false ∧
      t.upload.slot = min s.upload.program.start s.upload.program.stop ∧ b.run = t.upload.runNumber ∧
      b.slot = t.upload.slot ∧ b.number = 0 ∧ .trunk (.block b b.check) ∈ t.sent ∧ t.answers tok 0x4A .done ∧
      ∀ kind, s.upload.program.slots[min s.upload.program.start s.upload.program.stop]? = some kind →
        b.kind = kind ∧
        (kind = .borrowerChanges → s.borrowersOk →
          let es := s.borrowers.filter (·.changed)
          b.contents = .borrowers (es.take 32) ∧ b.final = decide (es.length ≤ 32) ∧
            t.borrowers = s.borrowers.map fun e => if e ∈ es.take 32 then { e with inFlight := true } else e) ∧
        (kind = .pendingLoans → b.contents = .loans (s.loans.take 32) ∧ b.final = decide (s.loans.length ≤ 32) ∧
          t.loans = s.loans) ∧
        (kind = .tallies → b.contents = .tallies (s.stations.toList.map (·.tallies)) ∧ b.final = true) ∧
        (kind = .empty → b.contents = .empty ∧ b.final = true) ∧
        (kind = .journal → ∀ p : Fin 128, s.journal.filling? = some p →
          (∀ i : Fin 128, i ≠ p → s.journal.pages[i].state = .free) →
          let rs := s.journal.pages[p].records
          b.final = true ∧
          (∀ r rest, rs = r :: rest → b.contents = .journal (some p) rs ∧ b.firstSeq = some r.seq ∧
            t.journal.pages[p] = ⟨.sent, rs⟩ ∧ t.journal.pages[p + 1].state = .filling) ∧
          (rs = [] → s.evalJournal = s → s.alarmsSettled →
            b.contents = .journal none [] ∧ b.firstSeq = some s.journal.counter ∧ t.journal = s.journal)))

/-- O50. When the body carries the fields of JOURNAL_CONFIG, the mark carried becomes the low-water mark held at 32, each
enable carried its enable, and an absent field leaves its setting. JOURNAL_CLEAR in IDLE, with both journal alarms
inactive, a mark of at most 32 and the ALARM condition settled, leaves page 0 FILLING with the single record
JOURNAL_CLEARED, numbered by the counter, which moves on by one, every other page FREE and the pending loan list
empty; the overflow count, the mark, the tallies and the borrower table are as they were. In a run it is answered
RUN_IN_PROGRESS and changes nothing. ALARM_CONFIG: when the body carries its two fields, each one present becomes its
alarm's enable and an absent one leaves it; both alarms stay active or inactive as they were; the journal alarms'
enables are kept; when the resulting condition is the one that stood, nothing else changes but the DONE answer, and
when it is not, the ALARM condition afterwards is what the alarms give and every station's ALARM source follows it.
JOURNAL_CONFIG settles the condition too. (Cites: R44, R174, R175, R203.) -/
def Obligations.JournalAndAlarmCommands : Prop :=
  (∀ (tok : Token) (body : List Byte) (s : State), s.mgmt.restarting = false →
    (∀ m a b, parseBody journalConfigBody body = .ok (m, a, b) → ∃ t, exec (.journalConfig tok body) s = .next t ∧
      t.journal.lowMark = (m.map fun v => min 32 v).getD s.journal.lowMark ∧
      t.mgmt.alarms.journalLow.enable = a.getD s.mgmt.alarms.journalLow.enable ∧
      t.mgmt.alarms.journalFull.enable = b.getD s.mgmt.alarms.journalFull.enable ∧ t.alarmsSettled) ∧
    (s.upload.run = .idle → s.mgmt.alarms.journalFull.active = false → s.mgmt.alarms.journalLow.active = false →
      s.journal.lowMark ≤ 32 → s.alarmsSettled → ∃ t r, exec (.journalClear tok []) s = .next t ∧
        t.journal.pages[(0 : Fin 128)] = ⟨.filling, [r]⟩ ∧ r.seq = s.journal.counter ∧ r.kind = .deviceEvent ∧
        r.station = none ∧ r.detail = some .journalCleared ∧ (∀ i : Fin 128, i ≠ 0 → t.journal.pages[i] = ⟨.free, []⟩) ∧
        t.journal.counter = (s.journal.counter + 1) % 4294967296 ∧ t.journal.overflow = s.journal.overflow ∧
        t.journal.lowMark = s.journal.lowMark ∧
        t = { s with journal := t.journal, loans := [], sent := s.onTrunk [.response tok 0x51 .done []] }) ∧
    (s.upload.run ≠ .idle → exec (.journalClear tok []) s = .next (s.answered tok 0x51 .runInProgress []))) ∧
  ∀ (tok : Token) (body : List Byte) (a b : Option Bool) (s : State), s.mgmt.restarting = false →
    parseBody alarmConfigBody body = .ok (a, b) →
    let al := { s.mgmt.alarms with
      rulesInvalid := { s.mgmt.alarms.rulesInvalid with enable := a.getD s.mgmt.alarms.rulesInvalid.enable }
      clockUnset := { s.mgmt.alarms.clockUnset with enable := b.getD s.mgmt.alarms.clockUnset.enable } }
    (∃ t, exec (.alarmConfig tok body) s = .next t ∧ t.mgmt.alarms.rulesInvalid = al.rulesInvalid ∧
      t.mgmt.alarms.clockUnset = al.clockUnset ∧
      t.mgmt.alarms.journalLow.enable = s.mgmt.alarms.journalLow.enable ∧
      t.mgmt.alarms.journalFull.enable = s.mgmt.alarms.journalFull.enable ∧ t.alarmsSettled ∧
      (al.holds ≠ s.mgmt.alarmCond → ∀ n, (t.st n).ctx.lockAlarm = t.mgmt.alarmCond)) ∧
    (al.holds = s.mgmt.alarmCond → exec (.alarmConfig tok body) s = .next
      ({ s with mgmt := { s.mgmt with alarms := al } }.answered tok 0x58 .done []))

/-- O51. When the body names a group: LATCH of a held group answers HELD and changes nothing; of a released one, the group
is held with the values as they stand, and nothing else changes. SNAPSHOT_READ of a released group answers NOT_FOUND
and changes nothing; of a held one it releases that group only and answers DONE with the copy held: the nine tallies
of each station in order, the eight statistics, or the page counts by state, the FILLING page's record count, the
oldest and the next sequence number and the overflow count. FLAGS_READ_CLEAR empties the sticky flags and nothing
else, its body the set as it stood; STATUS_READ changes nothing and answers DONE with the list of R202 in its order;
codes of two-valued fields, 0 for the first named, and 1 for LOCKED and for a held group are the model's choice (log
entry 18). (Cites: R109, R131, R176, R200, R201, R202, R209.) -/
def Obligations.SnapshotGroups : Prop :=
  ∀ (tok : Token) (body : List Byte) (g : Group) (s : State), s.mgmt.restarting = false →
    (parseBody groupBody body = .ok g →
      (s.mgmt.isHeld g = true → exec (.latch tok body) s = .next (s.answered tok 0x60 .held []) ∧
        ∃ t bytes, exec (.snapshotRead tok body) s = .next t ∧
          t = { s with mgmt := t.mgmt, sent := s.onTrunk [.response tok 0x61 .done bytes] } ∧
          (∀ ts, g = .stationTallies → s.mgmt.snapTallies = some ts → bytes = ts.flatMap fun x => x.values.flatMap (be 4)) ∧
          (∀ c, g = .serviceStats → s.mgmt.snapService = some c → bytes =
            [c.sent, c.matched, c.timeouts, c.tooLate, c.stale, c.conflicts, c.fallbacks, c.probes].flatMap (be 4)) ∧
          (∀ j, g = .journalState → s.mgmt.snapJournal = some j → bytes =
            [j.free, j.sealed, j.sent, j.filling].flatMap (be 1) ++ [j.oldest, j.next, j.overflow].flatMap (be 4)) ∧
          t.mgmt = { s.mgmt with
            snapTallies := if g = .stationTallies then none else s.mgmt.snapTallies
            snapService := if g = .serviceStats then none else s.mgmt.snapService
            snapJournal := if g = .journalState then none else s.mgmt.snapJournal }) ∧
      (s.mgmt.isHeld g = false → exec (.snapshotRead tok body) s = .next (s.answered tok 0x61 .notFound []) ∧
        ∃ t, exec (.latch tok body) s = .next t ∧
          t = { s with mgmt := t.mgmt, sent := s.onTrunk [.response tok 0x60 .done []] } ∧
          t.mgmt = { s.mgmt with
            snapTallies := if g = .stationTallies then some (s.stations.toList.map (·.tallies)) else s.mgmt.snapTallies
            snapService := if g = .serviceStats then some s.service.stats else s.mgmt.snapService
            snapJournal := if g = .journalState then some s.journalSnap else s.mgmt.snapJournal })) ∧
    exec (.flagsReadClear tok []) s = .next
      ({ s with mgmt := { s.mgmt with sticky := {} } }.answered tok 0x62 .done (be 2 s.mgmt.sticky.bits)) ∧
    exec (.statusRead tok []) s = .next (s.answered tok 0x63 .done
      (let two (b : Bool) : Byte := if b then 0 else 1
       let yes (b : Bool) : Byte := if b then 1 else 0
       let clock : List Byte :=
        [BitVec.ofNat 8 s.mgmt.cabinet, match s.mgmt.lastReset with | .powerOnRetained => 0 | .powerOnCleared => 1 | .restart => 2] ++
          be 2 s.clock.day ++ be 2 s.clock.minute ++ [BitVec.ofNat 8 s.clock.second, two s.clock.isSet, two s.clock.held]
       let alarms : List Byte :=
        [s.mgmt.alarms.rulesInvalid, s.mgmt.alarms.clockUnset, s.mgmt.alarms.journalLow, s.mgmt.alarms.journalFull].flatMap
          fun a => [two a.active, two a.enable]
       let banks : List Byte := [match s.active with | .a => 0 | .b => 1, BitVec.ofNat 8 s.generation] ++ s.shadowBank.marks
       let service : List Byte := [match s.service.state with | .online => 0 | .degraded => 1 | .offline => 2,
        two s.service.linkUp, BitVec.ofNat 8 s.service.count]
       let run : List Byte :=
        [match s.upload.run with | .idle => 0 | .sending => 1 | .awaitReceipt => 2 | .paused => 3] ++ be 2 s.upload.runNumber
       let station (t : Station) : List Byte := [match t.line.link with | .detached => 0 | .check => 1 | .active => 2,
        match t.ctx.tx with | .idle => 0 | .checking => 1 | .opened => 2 | .held => 3 | .closing => 4 | .returns => 5,
        yes (t.ctx.lockCommand || t.ctx.lockAlarm || t.ctx.lockKeySrc),
        BitVec.ofNat 8 (t.ctx.lockCommand.toNat + 2 * t.ctx.lockAlarm.toNat + 4 * t.ctx.lockKeySrc.toNat)]
       clock ++ alarms ++ be 2 s.mgmt.sticky.bits ++ banks ++ service ++ run ++ s.stations.toList.flatMap station ++
        [yes s.mgmt.snapTallies.isSome, yes s.mgmt.snapService.isSome, yes s.mgmt.snapJournal.isSome]))

/-- O52. For every calendar and rule: a DAYS loan falls due at the close minute of the first OPEN day among the 15 from
the charge day plus the period, or at minute 1439 of the last of them, with CALENDAR_GAP, where none is OPEN. An HOURS
loan that fits before the close of an OPEN charge day falls due within it; otherwise its remaining minutes run from
the opening of the first OPEN day among the next 14, cut at that day's close, and with none OPEN it falls due at
minute 1439 of the 14th, with CALENDAR_GAP. A due day above 65535 is held at (65535, 1439) with CALENDAR_GAP. A due
day after the expiry day moves back, with EXPIRY_CAPPED, to the close of the last OPEN day from the charge day to the
expiry day, or to the charge day, at its close minute when it is OPEN and at 1439 otherwise; one that is not after it
stays. Every due day lies from the charge day to the charge day plus the period in days (0 for HOURS) plus 14, its
minute at most 1439 (a charge day of at most 65535, closing minutes of at most 1439). The fine is 0 where the units
late n are within the grace; otherwise n times the rate times the multiplier, divided by 256 and rounded down, then
rounded to the unit by the mode, held at the item cap with FINE_CAPPED; late exactly when n is at least 1; N_SATURATED
exactly when the hours late pass 65535. So every fine is 0, or the cap (R105), or a whole multiple of the unit smaller
than the cap; and for an expiry day at or after the charge day the due day is at most it, with EXPIRY_CAPPED exactly
when it moved. (Cites: R83, R94, R95, R96, R97, R98, R99, R100, R101, R102, R103, R104.) -/
def Obligations.DueDatesAndFines : Prop :=
  (∀ (c : Calendar) (r : Rule) (at_ : Time),
    let u := computeDue c r at_ none
    let held (d m : Nat) : Time := if 65535 < d then ⟨65535, 1439⟩ else ⟨d, m⟩
    (r.unit = .days →
      (∀ d, c.opensFirst (at_.day + r.period) 15 d → u.due = held d (c.closeMinute d) ∧
        u.flags.calendarGap = decide (65535 < d)) ∧
      (c.shut (at_.day + r.period) 15 → u.due = held (at_.day + r.period + 14) 1439 ∧ u.flags.calendarGap = true)) ∧
    (r.unit = .hours →
      let left := c.closeMinute at_.day - at_.minute
      let now := c.opens at_.day && decide (at_.minute < c.closeMinute at_.day)
      (now = true → 60 * r.period ≤ left → u.due = held at_.day (at_.minute + 60 * r.period)) ∧
      ((now = true → left < 60 * r.period) →
        let rest := if now then 60 * r.period - left else 60 * r.period
        (∀ d, c.opensFirst (at_.day + 1) 14 d →
          u.due = held d (min (c.openMinute d + rest) (c.closeMinute d))) ∧
        (c.shut (at_.day + 1) 14 → u.due = held (at_.day + 14) 1439 ∧ u.flags.calendarGap = true))) ∧
    ∀ e, let v := computeDue c r at_ (some e)
      (u.due.day ≤ e → v = u) ∧
      (e < u.due.day → v.flags.expiryCapped = true ∧ v.flags.calendarGap = u.flags.calendarGap ∧
        (∀ d, at_.day ≤ d → d ≤ e → c.opens d = true → (∀ x, d < x → x ≤ e → c.opens x = false) →
          v.due = ⟨d, c.closeMinute d⟩) ∧
        (c.shut at_.day (e + 1 - at_.day) →
          v.due = ⟨at_.day, if c.opens at_.day then c.closeMinute at_.day else 1439⟩))) ∧
  (∀ (c : Calendar) (r : Rule) (at_ : Time) (expiry : Option Nat), at_.day ≤ 65535 →
    (∀ w : Fin 7, (c.header.hours[w]).2 ≤ 1439) →
    let d := (computeDue c r at_ expiry).due
    at_.day ≤ d.day ∧ d.day ≤ at_.day + (if r.unit = .days then r.period else 0) + 14 ∧ d.minute ≤ 1439) ∧
  (∀ (c : Calendar) (r : Rule) (k : Category) (st : Settings) (due ret : Time),
    let f := computeFine c r k st due ret
    let n := c.late r due ret
    f.fine = (if n ≤ r.grace then 0 else min r.cap (fineOf n r k st)) ∧ f.late = decide (1 ≤ n) ∧
      f.flags.fineCapped = (decide (r.grace < n) && decide (r.cap < fineOf n r k st)) ∧
      (f.flags.nSaturated = true ↔ r.unit = .hours ∧
        65535 * 60 < ((ret.day : Int) - due.day) * 1440 + ((ret.minute : Int) - due.minute)) ∧
      (f.fine = 0 ∨ f.fine = r.cap ∨ (f.fine < r.cap ∧ ∃ m, f.fine = m * st.unit)) ∧
      (f.flags.fineCapped = true → f.fine = r.cap)) ∧
  ∀ (c : Calendar) (r : Rule) (at_ : Time) (e : Nat), at_.day ≤ e →
    (computeDue c r at_ (some e)).due.day ≤ e ∧
      ((computeDue c r at_ (some e)).flags.expiryCapped = true ↔ e < (computeDue c r at_ none).due.day)

/-- O53. For every well-formed SCAN, KEY, HEAD_STATUS or ATTACH of line n, the bytes of its frame decode on line n to that
command: no bit of the layout is dropped. For every cabinet number and every well-formed REPLY, PROBE_ANSWER, RECEIPT,
unknown command or management command, the bytes of the message to that cabinet decode there to that command. (Cites:
R1, R197, R198, R208.) -/
def Obligations.ArrivalsRoundTrip : Prop :=
  (∀ (n : StationNo) (i : Instr) (bytes : List Byte), i.wf = true → lineOf i = some n → deskBytes i = some bytes →
    decodeDesk n bytes = some i) ∧
  ∀ (cabinet : Nat) (i : Instr) (bytes : List Byte), cabinet < 256 → i.wf = true → trunkBytes cabinet i = some bytes →
    decodeTrunk cabinet bytes = some i

/-- O54. From every state whose borrower table holds at most 4096 entries, in rising order of number without repeats, with
balances of at most 16777215 and counts of at most 255, a step that answers a next state answers one whose table is so
too. The rising order is the model's form of the table. (Cites: R49, R51, R54, R60, R61, R64.) -/
def Obligations.BorrowerTableInvariant : Prop :=
  ∀ s t : State, s.borrowersOk → step s = .next t → t.borrowersOk

/-- O55. From every state whose pending loan list holds at most 512 entries with no item twice, a step that answers a next
state answers one whose list is so too. (Cites: R126, R127, R128, R129.) -/
def Obligations.LoanListInvariant : Prop :=
  ∀ s t : State, s.loansOk → step s = .next t → t.loansOk

/-- O56. From every state in which the ALARM lock condition last reported to the stations is the one that the four alarms
and their lockout enables give, a step that answers a next state answers one of which the same is true, whatever
records and journal alarms the reports themselves set off. (Cites: R203.) -/
def Obligations.AlarmConditionInvariant : Prop :=
  ∀ s t : State, s.alarmsSettled → step s = .next t → t.alarmsSettled

/-- O57. From every state in which the context of each IDLE station is cleared (no list, no kind, no borrower, no query,
no next action, the timer stopped: R41, R46, with the resting values of log entry 28) and each item list holds at most
12 entries, no item twice and at most 4 AWAITING, no level is pending and in service at once, and the hold condition
stands as the in-service set gives it, a step that answers a next state answers one of which the same is true. (Cites:
R19, R20, R26, R33, R41, R46, R134, R137, R139.) -/
def Obligations.TransactionInvariant : Prop :=
  ∀ s t : State, s.transactionsOk → step s = .next t → t.transactionsOk

/-- O58. From every state in which each station has one RESERVED slot while its transaction holds a reservation and none
otherwise, holds one in a charge transaction and none in IDLE, lists its occupied slots once each in handing order,
and has no slip PRINTING or INTERRUPTED but the head slip, a step that answers a next state answers one of which the
same is true. (Cites: R150, R151, R152, R154, R156, R159.) -/
def Obligations.SlipInvariant : Prop :=
  ∀ s t : State, s.slipsOk → step s = .next t → t.slipsOk

/-- O59. From every state in which at most one journal page is FILLING, every page holds at most 64 records, a FILLING one
fewer than 64 and a FREE one none, the sequence counter is below 4294967296, the overflow count at most 4294967295 and
the low-water mark at most 32, a step that answers a next state answers one of which the same is true. (Cites: R165,
R166, R167, R168, R170, R171, R174, R177.) -/
def Obligations.JournalInvariant : Prop :=
  ∀ s t : State, s.journalOk → step s = .next t → t.journalOk

/-- O60. State.reset, the state after a power-on with RETAIN not valid (log entry 1), has an empty borrower table and loan
list, every station IDLE with a cleared context and every slip slot FREE, and one FILLING page without records, and so
meets the invariants of the tables, the transactions, the slips and the journal, and its ALARM condition stands as its
alarms give it. (Cites: R48, R71, R88, R132, R162, R177, R203.) -/
def Obligations.ResetMeetsInvariants : Prop :=
  State.reset.borrowersOk ∧ State.reset.loansOk ∧ State.reset.alarmsSettled ∧ State.reset.transactionsOk ∧
    State.reset.slipsOk ∧ State.reset.journalOk
end

