-- ==== Sys2Proof/Laws/Calendar.lean ====
section
/-! SUPPORT. Laws/Calendar.lean: what the searches of the calendar find (R83, R93 to R100). -/

namespace Sys2Proof.Machine

/-- R83: a classification is OPEN as the four tests give it. -/
theorem Calendar.classify_isOpen (c : Calendar) (d : Nat) : (c.classify d).isOpen = c.opens d := by
  show _ = (!c.header.inWindow d || _)
  unfold Calendar.classify
  cases c.header.inWindow d <;> cases c.closedDates.contains d <;> cases c.openDates.contains d <;>
    cases c.header.weekly.getLsbD (c.header.weekdayOf d).val <;> rfl

/-- R94, R97: the search forward finds the first OPEN day of its range. -/
theorem Calendar.firstOpen_found {c : Calendar} {d : Nat} :
    ∀ {k a : Nat}, c.opensFirst a k d → (c.firstOpen k a).1 = some d
  | 0, a, h => by obtain ⟨h1, h2, -⟩ := h; omega
  | k + 1, a, h => by
    obtain ⟨h1, h2, h3, h4⟩ := h
    simp only [Calendar.firstOpen, classify_isOpen]
    rcases Nat.eq_or_lt_of_le h1 with rfl | hlt
    · simp [h3]
    · simp only [h4 a (Nat.le_refl a) hlt, Bool.false_eq_true, if_false]
      exact firstOpen_found ⟨hlt, by omega, h3, fun x hx => h4 x (by omega)⟩

/-- R95, R97: the search forward finds nothing where no day of its range is OPEN. -/
theorem Calendar.firstOpen_shut {c : Calendar} : ∀ {k a : Nat}, c.shut a k → (c.firstOpen k a).1 = none
  | 0, _, _ => rfl
  | k + 1, a, h => by
    simp only [Calendar.firstOpen, classify_isOpen, h a (Nat.le_refl a) (by omega), Bool.false_eq_true, if_false]
    exact firstOpen_shut fun x h1 h2 => h x (by omega) (by omega)

/-- R98: the search backward finds the last OPEN day of its range. -/
theorem Calendar.lastOpen_found {c : Calendar} {a d : Nat} (ha : a ≤ d) (ho : c.opens d = true) :
    ∀ {k : Nat}, d < a + k → (∀ x, d < x → x < a + k → c.opens x = false) → (c.lastOpen a k).1 = some d
  | 0, hk, _ => by omega
  | k + 1, hk, h => by
    simp only [Calendar.lastOpen, classify_isOpen]
    rcases Nat.eq_or_lt_of_le (Nat.lt_succ_iff.mp (show d < (a + k) + 1 by omega)) with rfl | hlt
    · simp [ho]
    · simp only [h (a + k) hlt (by omega), Bool.false_eq_true, if_false]
      exact lastOpen_found ha ho hlt fun x h1 h2 => h x h1 (by omega)

/-- R98: the search backward finds nothing where no day of its range is OPEN. -/
theorem Calendar.lastOpen_shut {c : Calendar} {a : Nat} : ∀ {k : Nat}, c.shut a k → (c.lastOpen a k).1 = none
  | 0, _ => rfl
  | k + 1, h => by
    simp only [Calendar.lastOpen, classify_isOpen, h (a + k) (by omega) (by omega), Bool.false_eq_true, if_false]
    exact lastOpen_shut fun x h1 h2 => h x h1 (by omega)

end Sys2Proof.Machine
end

