-- ==== Sys2Proof/Laws/State.lean ====
section
/-! SUPPORT. Laws/State.lean: for every update of State, that each field it does not name is unchanged, and what the
field it names becomes. Each `_keeps` lemma is a conjunction of one equation a field, which simp splits. -/

namespace Sys2Proof.Machine

variable (s : State)

/-! ### What an update leaves -/

@[simp] theorem State.upd_keeps (n : StationNo) (f : Station → Station) :
    (s.upd n f).pending = s.pending ∧ (s.upd n f).sent = s.sent ∧ (s.upd n f).borrowers = s.borrowers ∧ (s.upd n
    f).recency = s.recency ∧ (s.upd n f).exceptions = s.exceptions ∧ (s.upd n f).badges = s.badges ∧ (s.upd n
    f).bankA = s.bankA ∧ (s.upd n f).bankB = s.bankB ∧ (s.upd n f).active = s.active ∧ (s.upd n f).generation =
    s.generation ∧ (s.upd n f).clock = s.clock ∧ (s.upd n f).service = s.service ∧ (s.upd n f).queries =
    s.queries ∧ (s.upd n f).loans = s.loans ∧ (s.upd n f).journal = s.journal ∧ (s.upd n f).upload = s.upload ∧
    (s.upd n f).mgmt = s.mgmt :=
  ⟨rfl, rfl, rfl, rfl, rfl, rfl, rfl, rfl, rfl, rfl, rfl, rfl, rfl, rfl, rfl, rfl, rfl⟩

@[simp] theorem State.updLine_keeps (n : StationNo) (f : Line → Line) :
    (s.updLine n f).pending = s.pending ∧ (s.updLine n f).sent = s.sent ∧ (s.updLine n f).borrowers =
    s.borrowers ∧ (s.updLine n f).recency = s.recency ∧ (s.updLine n f).exceptions = s.exceptions ∧ (s.updLine n
    f).badges = s.badges ∧ (s.updLine n f).bankA = s.bankA ∧ (s.updLine n f).bankB = s.bankB ∧ (s.updLine n
    f).active = s.active ∧ (s.updLine n f).generation = s.generation ∧ (s.updLine n f).clock = s.clock ∧
    (s.updLine n f).service = s.service ∧ (s.updLine n f).queries = s.queries ∧ (s.updLine n f).loans = s.loans
    ∧ (s.updLine n f).journal = s.journal ∧ (s.updLine n f).upload = s.upload ∧ (s.updLine n f).mgmt = s.mgmt :=
  ⟨rfl, rfl, rfl, rfl, rfl, rfl, rfl, rfl, rfl, rfl, rfl, rfl, rfl, rfl, rfl, rfl, rfl⟩

@[simp] theorem State.updCtx_keeps (n : StationNo) (f : Ctx → Ctx) :
    (s.updCtx n f).pending = s.pending ∧ (s.updCtx n f).sent = s.sent ∧ (s.updCtx n f).borrowers = s.borrowers ∧
    (s.updCtx n f).recency = s.recency ∧ (s.updCtx n f).exceptions = s.exceptions ∧ (s.updCtx n f).badges =
    s.badges ∧ (s.updCtx n f).bankA = s.bankA ∧ (s.updCtx n f).bankB = s.bankB ∧ (s.updCtx n f).active =
    s.active ∧ (s.updCtx n f).generation = s.generation ∧ (s.updCtx n f).clock = s.clock ∧ (s.updCtx n
    f).service = s.service ∧ (s.updCtx n f).queries = s.queries ∧ (s.updCtx n f).loans = s.loans ∧ (s.updCtx n
    f).journal = s.journal ∧ (s.updCtx n f).upload = s.upload ∧ (s.updCtx n f).mgmt = s.mgmt :=
  ⟨rfl, rfl, rfl, rfl, rfl, rfl, rfl, rfl, rfl, rfl, rfl, rfl, rfl, rfl, rfl, rfl, rfl⟩

@[simp] theorem State.updAlerts_keeps (n : StationNo) (f : Resolver → Resolver) :
    (s.updAlerts n f).pending = s.pending ∧ (s.updAlerts n f).sent = s.sent ∧ (s.updAlerts n f).borrowers =
    s.borrowers ∧ (s.updAlerts n f).recency = s.recency ∧ (s.updAlerts n f).exceptions = s.exceptions ∧
    (s.updAlerts n f).badges = s.badges ∧ (s.updAlerts n f).bankA = s.bankA ∧ (s.updAlerts n f).bankB = s.bankB
    ∧ (s.updAlerts n f).active = s.active ∧ (s.updAlerts n f).generation = s.generation ∧ (s.updAlerts n
    f).clock = s.clock ∧ (s.updAlerts n f).service = s.service ∧ (s.updAlerts n f).queries = s.queries ∧
    (s.updAlerts n f).loans = s.loans ∧ (s.updAlerts n f).journal = s.journal ∧ (s.updAlerts n f).upload =
    s.upload ∧ (s.updAlerts n f).mgmt = s.mgmt :=
  ⟨rfl, rfl, rfl, rfl, rfl, rfl, rfl, rfl, rfl, rfl, rfl, rfl, rfl, rfl, rfl, rfl, rfl⟩

@[simp] theorem State.updSlips_keeps (n : StationNo) (f : SlipQueue → SlipQueue) :
    (s.updSlips n f).pending = s.pending ∧ (s.updSlips n f).sent = s.sent ∧ (s.updSlips n f).borrowers =
    s.borrowers ∧ (s.updSlips n f).recency = s.recency ∧ (s.updSlips n f).exceptions = s.exceptions ∧
    (s.updSlips n f).badges = s.badges ∧ (s.updSlips n f).bankA = s.bankA ∧ (s.updSlips n f).bankB = s.bankB ∧
    (s.updSlips n f).active = s.active ∧ (s.updSlips n f).generation = s.generation ∧ (s.updSlips n f).clock =
    s.clock ∧ (s.updSlips n f).service = s.service ∧ (s.updSlips n f).queries = s.queries ∧ (s.updSlips n
    f).loans = s.loans ∧ (s.updSlips n f).journal = s.journal ∧ (s.updSlips n f).upload = s.upload ∧ (s.updSlips
    n f).mgmt = s.mgmt :=
  ⟨rfl, rfl, rfl, rfl, rfl, rfl, rfl, rfl, rfl, rfl, rfl, rfl, rfl, rfl, rfl, rfl, rfl⟩

@[simp] theorem State.updTallies_keeps (n : StationNo) (f : Tallies → Tallies) :
    (s.updTallies n f).pending = s.pending ∧ (s.updTallies n f).sent = s.sent ∧ (s.updTallies n f).borrowers =
    s.borrowers ∧ (s.updTallies n f).recency = s.recency ∧ (s.updTallies n f).exceptions = s.exceptions ∧
    (s.updTallies n f).badges = s.badges ∧ (s.updTallies n f).bankA = s.bankA ∧ (s.updTallies n f).bankB =
    s.bankB ∧ (s.updTallies n f).active = s.active ∧ (s.updTallies n f).generation = s.generation ∧
    (s.updTallies n f).clock = s.clock ∧ (s.updTallies n f).service = s.service ∧ (s.updTallies n f).queries =
    s.queries ∧ (s.updTallies n f).loans = s.loans ∧ (s.updTallies n f).journal = s.journal ∧ (s.updTallies n
    f).upload = s.upload ∧ (s.updTallies n f).mgmt = s.mgmt :=
  ⟨rfl, rfl, rfl, rfl, rfl, rfl, rfl, rfl, rfl, rfl, rfl, rfl, rfl, rfl, rfl, rfl, rfl⟩

@[simp] theorem State.updItem_keeps (n : StationNo) (i : Nat) (f : Item → Item) :
    (s.updItem n i f).pending = s.pending ∧ (s.updItem n i f).sent = s.sent ∧ (s.updItem n i f).borrowers =
    s.borrowers ∧ (s.updItem n i f).recency = s.recency ∧ (s.updItem n i f).exceptions = s.exceptions ∧
    (s.updItem n i f).badges = s.badges ∧ (s.updItem n i f).bankA = s.bankA ∧ (s.updItem n i f).bankB = s.bankB
    ∧ (s.updItem n i f).active = s.active ∧ (s.updItem n i f).generation = s.generation ∧ (s.updItem n i
    f).clock = s.clock ∧ (s.updItem n i f).service = s.service ∧ (s.updItem n i f).queries = s.queries ∧
    (s.updItem n i f).loans = s.loans ∧ (s.updItem n i f).journal = s.journal ∧ (s.updItem n i f).upload =
    s.upload ∧ (s.updItem n i f).mgmt = s.mgmt :=
  ⟨rfl, rfl, rfl, rfl, rfl, rfl, rfl, rfl, rfl, rfl, rfl, rfl, rfl, rfl, rfl, rfl, rfl⟩

@[simp] theorem State.tallyRefusal_keeps (n : StationNo) :
    (s.tallyRefusal n).pending = s.pending ∧ (s.tallyRefusal n).sent = s.sent ∧ (s.tallyRefusal n).borrowers =
    s.borrowers ∧ (s.tallyRefusal n).recency = s.recency ∧ (s.tallyRefusal n).exceptions = s.exceptions ∧
    (s.tallyRefusal n).badges = s.badges ∧ (s.tallyRefusal n).bankA = s.bankA ∧ (s.tallyRefusal n).bankB =
    s.bankB ∧ (s.tallyRefusal n).active = s.active ∧ (s.tallyRefusal n).generation = s.generation ∧
    (s.tallyRefusal n).clock = s.clock ∧ (s.tallyRefusal n).service = s.service ∧ (s.tallyRefusal n).queries =
    s.queries ∧ (s.tallyRefusal n).loans = s.loans ∧ (s.tallyRefusal n).journal = s.journal ∧ (s.tallyRefusal
    n).upload = s.upload ∧ (s.tallyRefusal n).mgmt = s.mgmt :=
  ⟨rfl, rfl, rfl, rfl, rfl, rfl, rfl, rfl, rfl, rfl, rfl, rfl, rfl, rfl, rfl, rfl, rfl⟩

@[simp] theorem State.mapCtx_keeps (f : Ctx → Ctx) :
    (s.mapCtx f).pending = s.pending ∧ (s.mapCtx f).sent = s.sent ∧ (s.mapCtx f).borrowers = s.borrowers ∧
    (s.mapCtx f).recency = s.recency ∧ (s.mapCtx f).exceptions = s.exceptions ∧ (s.mapCtx f).badges = s.badges ∧
    (s.mapCtx f).bankA = s.bankA ∧ (s.mapCtx f).bankB = s.bankB ∧ (s.mapCtx f).active = s.active ∧ (s.mapCtx
    f).generation = s.generation ∧ (s.mapCtx f).clock = s.clock ∧ (s.mapCtx f).service = s.service ∧ (s.mapCtx
    f).queries = s.queries ∧ (s.mapCtx f).loans = s.loans ∧ (s.mapCtx f).journal = s.journal ∧ (s.mapCtx
    f).upload = s.upload ∧ (s.mapCtx f).mgmt = s.mgmt :=
  ⟨rfl, rfl, rfl, rfl, rfl, rfl, rfl, rfl, rfl, rfl, rfl, rfl, rfl, rfl, rfl, rfl, rfl⟩

@[simp] theorem State.emit_keeps (o : Out) :
    (s.emit o).pending = s.pending ∧ (s.emit o).stations = s.stations ∧ (s.emit o).borrowers = s.borrowers ∧
    (s.emit o).recency = s.recency ∧ (s.emit o).exceptions = s.exceptions ∧ (s.emit o).badges = s.badges ∧
    (s.emit o).bankA = s.bankA ∧ (s.emit o).bankB = s.bankB ∧ (s.emit o).active = s.active ∧ (s.emit
    o).generation = s.generation ∧ (s.emit o).clock = s.clock ∧ (s.emit o).service = s.service ∧ (s.emit
    o).queries = s.queries ∧ (s.emit o).loans = s.loans ∧ (s.emit o).journal = s.journal ∧ (s.emit o).upload =
    s.upload ∧ (s.emit o).mgmt = s.mgmt :=
  ⟨rfl, rfl, rfl, rfl, rfl, rfl, rfl, rfl, rfl, rfl, rfl, rfl, rfl, rfl, rfl, rfl, rfl⟩

@[simp] theorem State.fresh_keeps :
    (s.fresh).pending = s.pending ∧ (s.fresh).stations = s.stations ∧ (s.fresh).borrowers = s.borrowers ∧
    (s.fresh).recency = s.recency ∧ (s.fresh).exceptions = s.exceptions ∧ (s.fresh).badges = s.badges ∧
    (s.fresh).bankA = s.bankA ∧ (s.fresh).bankB = s.bankB ∧ (s.fresh).active = s.active ∧ (s.fresh).generation =
    s.generation ∧ (s.fresh).clock = s.clock ∧ (s.fresh).service = s.service ∧ (s.fresh).queries = s.queries ∧
    (s.fresh).loans = s.loans ∧ (s.fresh).journal = s.journal ∧ (s.fresh).upload = s.upload ∧ (s.fresh).mgmt =
    s.mgmt :=
  ⟨rfl, rfl, rfl, rfl, rfl, rfl, rfl, rfl, rfl, rfl, rfl, rfl, rfl, rfl, rfl, rfl, rfl⟩

@[simp] theorem State.sending_keeps (o : List Out) :
    (s.sending o).pending = s.pending ∧ (s.sending o).stations = s.stations ∧ (s.sending o).borrowers =
    s.borrowers ∧ (s.sending o).recency = s.recency ∧ (s.sending o).exceptions = s.exceptions ∧ (s.sending
    o).badges = s.badges ∧ (s.sending o).bankA = s.bankA ∧ (s.sending o).bankB = s.bankB ∧ (s.sending o).active
    = s.active ∧ (s.sending o).generation = s.generation ∧ (s.sending o).clock = s.clock ∧ (s.sending o).service
    = s.service ∧ (s.sending o).queries = s.queries ∧ (s.sending o).loans = s.loans ∧ (s.sending o).journal =
    s.journal ∧ (s.sending o).upload = s.upload ∧ (s.sending o).mgmt = s.mgmt :=
  ⟨rfl, rfl, rfl, rfl, rfl, rfl, rfl, rfl, rfl, rfl, rfl, rfl, rfl, rfl, rfl, rfl, rfl⟩

@[simp] theorem State.stick_keeps (f : StickyFlags) :
    (s.stick f).pending = s.pending ∧ (s.stick f).sent = s.sent ∧ (s.stick f).stations = s.stations ∧ (s.stick
    f).borrowers = s.borrowers ∧ (s.stick f).recency = s.recency ∧ (s.stick f).exceptions = s.exceptions ∧
    (s.stick f).badges = s.badges ∧ (s.stick f).bankA = s.bankA ∧ (s.stick f).bankB = s.bankB ∧ (s.stick
    f).active = s.active ∧ (s.stick f).generation = s.generation ∧ (s.stick f).clock = s.clock ∧ (s.stick
    f).service = s.service ∧ (s.stick f).queries = s.queries ∧ (s.stick f).loans = s.loans ∧ (s.stick f).journal
    = s.journal ∧ (s.stick f).upload = s.upload :=
  ⟨rfl, rfl, rfl, rfl, rfl, rfl, rfl, rfl, rfl, rfl, rfl, rfl, rfl, rfl, rfl, rfl, rfl⟩

@[simp] theorem State.setAlarms_keeps (f : Alarms → Alarms) :
    (s.setAlarms f).pending = s.pending ∧ (s.setAlarms f).sent = s.sent ∧ (s.setAlarms f).stations = s.stations
    ∧ (s.setAlarms f).borrowers = s.borrowers ∧ (s.setAlarms f).recency = s.recency ∧ (s.setAlarms f).exceptions
    = s.exceptions ∧ (s.setAlarms f).badges = s.badges ∧ (s.setAlarms f).bankA = s.bankA ∧ (s.setAlarms f).bankB
    = s.bankB ∧ (s.setAlarms f).active = s.active ∧ (s.setAlarms f).generation = s.generation ∧ (s.setAlarms
    f).clock = s.clock ∧ (s.setAlarms f).service = s.service ∧ (s.setAlarms f).queries = s.queries ∧
    (s.setAlarms f).loans = s.loans ∧ (s.setAlarms f).journal = s.journal ∧ (s.setAlarms f).upload = s.upload :=
  ⟨rfl, rfl, rfl, rfl, rfl, rfl, rfl, rfl, rfl, rfl, rfl, rfl, rfl, rfl, rfl, rfl, rfl⟩

@[simp] theorem State.setBorrower_keeps (e : Borrower) :
    (s.setBorrower e).pending = s.pending ∧ (s.setBorrower e).sent = s.sent ∧ (s.setBorrower e).stations =
    s.stations ∧ (s.setBorrower e).recency = s.recency ∧ (s.setBorrower e).exceptions = s.exceptions ∧
    (s.setBorrower e).badges = s.badges ∧ (s.setBorrower e).bankA = s.bankA ∧ (s.setBorrower e).bankB = s.bankB
    ∧ (s.setBorrower e).active = s.active ∧ (s.setBorrower e).generation = s.generation ∧ (s.setBorrower
    e).clock = s.clock ∧ (s.setBorrower e).service = s.service ∧ (s.setBorrower e).queries = s.queries ∧
    (s.setBorrower e).loans = s.loans ∧ (s.setBorrower e).journal = s.journal ∧ (s.setBorrower e).upload =
    s.upload ∧ (s.setBorrower e).mgmt = s.mgmt :=
  ⟨rfl, rfl, rfl, rfl, rfl, rfl, rfl, rfl, rfl, rfl, rfl, rfl, rfl, rfl, rfl, rfl, rfl⟩

@[simp] theorem State.dropBorrower_keeps (b : Nat) :
    (s.dropBorrower b).pending = s.pending ∧ (s.dropBorrower b).sent = s.sent ∧ (s.dropBorrower b).stations =
    s.stations ∧ (s.dropBorrower b).exceptions = s.exceptions ∧ (s.dropBorrower b).badges = s.badges ∧
    (s.dropBorrower b).bankA = s.bankA ∧ (s.dropBorrower b).bankB = s.bankB ∧ (s.dropBorrower b).active =
    s.active ∧ (s.dropBorrower b).generation = s.generation ∧ (s.dropBorrower b).clock = s.clock ∧
    (s.dropBorrower b).service = s.service ∧ (s.dropBorrower b).queries = s.queries ∧ (s.dropBorrower b).loans =
    s.loans ∧ (s.dropBorrower b).journal = s.journal ∧ (s.dropBorrower b).upload = s.upload ∧ (s.dropBorrower
    b).mgmt = s.mgmt :=
  ⟨rfl, rfl, rfl, rfl, rfl, rfl, rfl, rfl, rfl, rfl, rfl, rfl, rfl, rfl, rfl, rfl⟩

@[simp] theorem State.touch_keeps (b : Nat) :
    (s.touch b).pending = s.pending ∧ (s.touch b).sent = s.sent ∧ (s.touch b).stations = s.stations ∧ (s.touch
    b).borrowers = s.borrowers ∧ (s.touch b).exceptions = s.exceptions ∧ (s.touch b).badges = s.badges ∧
    (s.touch b).bankA = s.bankA ∧ (s.touch b).bankB = s.bankB ∧ (s.touch b).active = s.active ∧ (s.touch
    b).generation = s.generation ∧ (s.touch b).clock = s.clock ∧ (s.touch b).service = s.service ∧ (s.touch
    b).queries = s.queries ∧ (s.touch b).loans = s.loans ∧ (s.touch b).journal = s.journal ∧ (s.touch b).upload
    = s.upload ∧ (s.touch b).mgmt = s.mgmt :=
  ⟨rfl, rfl, rfl, rfl, rfl, rfl, rfl, rfl, rfl, rfl, rfl, rfl, rfl, rfl, rfl, rfl, rfl⟩

@[simp] theorem State.dropException_keeps (i : Nat) :
    (s.dropException i).pending = s.pending ∧ (s.dropException i).sent = s.sent ∧ (s.dropException i).stations =
    s.stations ∧ (s.dropException i).borrowers = s.borrowers ∧ (s.dropException i).recency = s.recency ∧
    (s.dropException i).badges = s.badges ∧ (s.dropException i).bankA = s.bankA ∧ (s.dropException i).bankB =
    s.bankB ∧ (s.dropException i).active = s.active ∧ (s.dropException i).generation = s.generation ∧
    (s.dropException i).clock = s.clock ∧ (s.dropException i).service = s.service ∧ (s.dropException i).queries
    = s.queries ∧ (s.dropException i).loans = s.loans ∧ (s.dropException i).journal = s.journal ∧
    (s.dropException i).upload = s.upload ∧ (s.dropException i).mgmt = s.mgmt :=
  ⟨rfl, rfl, rfl, rfl, rfl, rfl, rfl, rfl, rfl, rfl, rfl, rfl, rfl, rfl, rfl, rfl, rfl⟩

@[simp] theorem State.dropLoan_keeps (i : Nat) :
    (s.dropLoan i).pending = s.pending ∧ (s.dropLoan i).sent = s.sent ∧ (s.dropLoan i).stations = s.stations ∧
    (s.dropLoan i).borrowers = s.borrowers ∧ (s.dropLoan i).recency = s.recency ∧ (s.dropLoan i).exceptions =
    s.exceptions ∧ (s.dropLoan i).badges = s.badges ∧ (s.dropLoan i).bankA = s.bankA ∧ (s.dropLoan i).bankB =
    s.bankB ∧ (s.dropLoan i).active = s.active ∧ (s.dropLoan i).generation = s.generation ∧ (s.dropLoan i).clock
    = s.clock ∧ (s.dropLoan i).service = s.service ∧ (s.dropLoan i).queries = s.queries ∧ (s.dropLoan i).journal
    = s.journal ∧ (s.dropLoan i).upload = s.upload ∧ (s.dropLoan i).mgmt = s.mgmt :=
  ⟨rfl, rfl, rfl, rfl, rfl, rfl, rfl, rfl, rfl, rfl, rfl, rfl, rfl, rfl, rfl, rfl, rfl⟩

@[simp] theorem State.dropLoanOf_keeps (k : Nat) :
    (s.dropLoanOf k).pending = s.pending ∧ (s.dropLoanOf k).sent = s.sent ∧ (s.dropLoanOf k).stations =
    s.stations ∧ (s.dropLoanOf k).borrowers = s.borrowers ∧ (s.dropLoanOf k).recency = s.recency ∧ (s.dropLoanOf
    k).exceptions = s.exceptions ∧ (s.dropLoanOf k).badges = s.badges ∧ (s.dropLoanOf k).bankA = s.bankA ∧
    (s.dropLoanOf k).bankB = s.bankB ∧ (s.dropLoanOf k).active = s.active ∧ (s.dropLoanOf k).generation =
    s.generation ∧ (s.dropLoanOf k).clock = s.clock ∧ (s.dropLoanOf k).service = s.service ∧ (s.dropLoanOf
    k).queries = s.queries ∧ (s.dropLoanOf k).journal = s.journal ∧ (s.dropLoanOf k).upload = s.upload ∧
    (s.dropLoanOf k).mgmt = s.mgmt :=
  ⟨rfl, rfl, rfl, rfl, rfl, rfl, rfl, rfl, rfl, rfl, rfl, rfl, rfl, rfl, rfl, rfl, rfl⟩

@[simp] theorem State.dropLoansOf_keeps (rs : List Record) :
    (s.dropLoansOf rs).pending = s.pending ∧ (s.dropLoansOf rs).sent = s.sent ∧ (s.dropLoansOf rs).stations =
    s.stations ∧ (s.dropLoansOf rs).borrowers = s.borrowers ∧ (s.dropLoansOf rs).recency = s.recency ∧
    (s.dropLoansOf rs).exceptions = s.exceptions ∧ (s.dropLoansOf rs).badges = s.badges ∧ (s.dropLoansOf
    rs).bankA = s.bankA ∧ (s.dropLoansOf rs).bankB = s.bankB ∧ (s.dropLoansOf rs).active = s.active ∧
    (s.dropLoansOf rs).generation = s.generation ∧ (s.dropLoansOf rs).clock = s.clock ∧ (s.dropLoansOf
    rs).service = s.service ∧ (s.dropLoansOf rs).queries = s.queries ∧ (s.dropLoansOf rs).journal = s.journal ∧
    (s.dropLoansOf rs).upload = s.upload ∧ (s.dropLoansOf rs).mgmt = s.mgmt :=
  ⟨rfl, rfl, rfl, rfl, rfl, rfl, rfl, rfl, rfl, rfl, rfl, rfl, rfl, rfl, rfl, rfl, rfl⟩

@[simp] theorem State.updUpload_keeps (f : Upload → Upload) :
    (s.updUpload f).pending = s.pending ∧ (s.updUpload f).sent = s.sent ∧ (s.updUpload f).stations = s.stations
    ∧ (s.updUpload f).borrowers = s.borrowers ∧ (s.updUpload f).recency = s.recency ∧ (s.updUpload f).exceptions
    = s.exceptions ∧ (s.updUpload f).badges = s.badges ∧ (s.updUpload f).bankA = s.bankA ∧ (s.updUpload f).bankB
    = s.bankB ∧ (s.updUpload f).active = s.active ∧ (s.updUpload f).generation = s.generation ∧ (s.updUpload
    f).clock = s.clock ∧ (s.updUpload f).service = s.service ∧ (s.updUpload f).queries = s.queries ∧
    (s.updUpload f).loans = s.loans ∧ (s.updUpload f).journal = s.journal ∧ (s.updUpload f).mgmt = s.mgmt :=
  ⟨rfl, rfl, rfl, rfl, rfl, rfl, rfl, rfl, rfl, rfl, rfl, rfl, rfl, rfl, rfl, rfl, rfl⟩

@[simp] theorem State.countUpload_keeps (f : RunCounts → RunCounts) :
    (s.countUpload f).pending = s.pending ∧ (s.countUpload f).sent = s.sent ∧ (s.countUpload f).stations =
    s.stations ∧ (s.countUpload f).borrowers = s.borrowers ∧ (s.countUpload f).recency = s.recency ∧
    (s.countUpload f).exceptions = s.exceptions ∧ (s.countUpload f).badges = s.badges ∧ (s.countUpload f).bankA
    = s.bankA ∧ (s.countUpload f).bankB = s.bankB ∧ (s.countUpload f).active = s.active ∧ (s.countUpload
    f).generation = s.generation ∧ (s.countUpload f).clock = s.clock ∧ (s.countUpload f).service = s.service ∧
    (s.countUpload f).queries = s.queries ∧ (s.countUpload f).loans = s.loans ∧ (s.countUpload f).journal =
    s.journal ∧ (s.countUpload f).mgmt = s.mgmt :=
  ⟨rfl, rfl, rfl, rfl, rfl, rfl, rfl, rfl, rfl, rfl, rfl, rfl, rfl, rfl, rfl, rfl, rfl⟩

@[simp] theorem State.markInFlight_keeps (es : List Borrower) :
    (s.markInFlight es).pending = s.pending ∧ (s.markInFlight es).sent = s.sent ∧ (s.markInFlight es).stations =
    s.stations ∧ (s.markInFlight es).recency = s.recency ∧ (s.markInFlight es).exceptions = s.exceptions ∧
    (s.markInFlight es).badges = s.badges ∧ (s.markInFlight es).bankA = s.bankA ∧ (s.markInFlight es).bankB =
    s.bankB ∧ (s.markInFlight es).active = s.active ∧ (s.markInFlight es).generation = s.generation ∧
    (s.markInFlight es).clock = s.clock ∧ (s.markInFlight es).service = s.service ∧ (s.markInFlight es).queries
    = s.queries ∧ (s.markInFlight es).loans = s.loans ∧ (s.markInFlight es).journal = s.journal ∧
    (s.markInFlight es).upload = s.upload ∧ (s.markInFlight es).mgmt = s.mgmt :=
  ⟨rfl, rfl, rfl, rfl, rfl, rfl, rfl, rfl, rfl, rfl, rfl, rfl, rfl, rfl, rfl, rfl, rfl⟩

@[simp] theorem State.clearMarks_keeps (es : List Borrower) :
    (s.clearMarks es).pending = s.pending ∧ (s.clearMarks es).sent = s.sent ∧ (s.clearMarks es).stations =
    s.stations ∧ (s.clearMarks es).recency = s.recency ∧ (s.clearMarks es).exceptions = s.exceptions ∧
    (s.clearMarks es).badges = s.badges ∧ (s.clearMarks es).bankA = s.bankA ∧ (s.clearMarks es).bankB = s.bankB
    ∧ (s.clearMarks es).active = s.active ∧ (s.clearMarks es).generation = s.generation ∧ (s.clearMarks
    es).clock = s.clock ∧ (s.clearMarks es).service = s.service ∧ (s.clearMarks es).queries = s.queries ∧
    (s.clearMarks es).loans = s.loans ∧ (s.clearMarks es).journal = s.journal ∧ (s.clearMarks es).upload =
    s.upload ∧ (s.clearMarks es).mgmt = s.mgmt :=
  ⟨rfl, rfl, rfl, rfl, rfl, rfl, rfl, rfl, rfl, rfl, rfl, rfl, rfl, rfl, rfl, rfl, rfl⟩

@[simp] theorem State.updService_keeps (f : Service → Service) :
    (s.updService f).pending = s.pending ∧ (s.updService f).sent = s.sent ∧ (s.updService f).stations =
    s.stations ∧ (s.updService f).borrowers = s.borrowers ∧ (s.updService f).recency = s.recency ∧ (s.updService
    f).exceptions = s.exceptions ∧ (s.updService f).badges = s.badges ∧ (s.updService f).bankA = s.bankA ∧
    (s.updService f).bankB = s.bankB ∧ (s.updService f).active = s.active ∧ (s.updService f).generation =
    s.generation ∧ (s.updService f).clock = s.clock ∧ (s.updService f).queries = s.queries ∧ (s.updService
    f).loans = s.loans ∧ (s.updService f).journal = s.journal ∧ (s.updService f).upload = s.upload ∧
    (s.updService f).mgmt = s.mgmt :=
  ⟨rfl, rfl, rfl, rfl, rfl, rfl, rfl, rfl, rfl, rfl, rfl, rfl, rfl, rfl, rfl, rfl, rfl⟩

@[simp] theorem State.countService_keeps (f : ServiceStats → ServiceStats) :
    (s.countService f).pending = s.pending ∧ (s.countService f).sent = s.sent ∧ (s.countService f).stations =
    s.stations ∧ (s.countService f).borrowers = s.borrowers ∧ (s.countService f).recency = s.recency ∧
    (s.countService f).exceptions = s.exceptions ∧ (s.countService f).badges = s.badges ∧ (s.countService
    f).bankA = s.bankA ∧ (s.countService f).bankB = s.bankB ∧ (s.countService f).active = s.active ∧
    (s.countService f).generation = s.generation ∧ (s.countService f).clock = s.clock ∧ (s.countService
    f).queries = s.queries ∧ (s.countService f).loans = s.loans ∧ (s.countService f).journal = s.journal ∧
    (s.countService f).upload = s.upload ∧ (s.countService f).mgmt = s.mgmt :=
  ⟨rfl, rfl, rfl, rfl, rfl, rfl, rfl, rfl, rfl, rfl, rfl, rfl, rfl, rfl, rfl, rfl, rfl⟩

@[simp] theorem State.setQuery_keeps (t : Tag) (e : QueryEntry) :
    (s.setQuery t e).pending = s.pending ∧ (s.setQuery t e).sent = s.sent ∧ (s.setQuery t e).stations =
    s.stations ∧ (s.setQuery t e).borrowers = s.borrowers ∧ (s.setQuery t e).recency = s.recency ∧ (s.setQuery t
    e).exceptions = s.exceptions ∧ (s.setQuery t e).badges = s.badges ∧ (s.setQuery t e).bankA = s.bankA ∧
    (s.setQuery t e).bankB = s.bankB ∧ (s.setQuery t e).active = s.active ∧ (s.setQuery t e).generation =
    s.generation ∧ (s.setQuery t e).clock = s.clock ∧ (s.setQuery t e).service = s.service ∧ (s.setQuery t
    e).loans = s.loans ∧ (s.setQuery t e).journal = s.journal ∧ (s.setQuery t e).upload = s.upload ∧ (s.setQuery
    t e).mgmt = s.mgmt :=
  ⟨rfl, rfl, rfl, rfl, rfl, rfl, rfl, rfl, rfl, rfl, rfl, rfl, rfl, rfl, rfl, rfl, rfl⟩

@[simp] theorem State.freeQuery_keeps (t : Tag) :
    (s.freeQuery t).pending = s.pending ∧ (s.freeQuery t).sent = s.sent ∧ (s.freeQuery t).stations = s.stations
    ∧ (s.freeQuery t).borrowers = s.borrowers ∧ (s.freeQuery t).recency = s.recency ∧ (s.freeQuery t).exceptions
    = s.exceptions ∧ (s.freeQuery t).badges = s.badges ∧ (s.freeQuery t).bankA = s.bankA ∧ (s.freeQuery t).bankB
    = s.bankB ∧ (s.freeQuery t).active = s.active ∧ (s.freeQuery t).generation = s.generation ∧ (s.freeQuery
    t).clock = s.clock ∧ (s.freeQuery t).service = s.service ∧ (s.freeQuery t).loans = s.loans ∧ (s.freeQuery
    t).journal = s.journal ∧ (s.freeQuery t).upload = s.upload ∧ (s.freeQuery t).mgmt = s.mgmt :=
  ⟨rfl, rfl, rfl, rfl, rfl, rfl, rfl, rfl, rfl, rfl, rfl, rfl, rfl, rfl, rfl, rfl, rfl⟩

/-! ### What it makes of the field it names -/

@[simp] theorem State.emit_sent (o : Out) : (s.emit o).sent = s.sent ++ [o] := rfl

@[simp] theorem State.fresh_sent : (s.fresh).sent = [] := rfl

@[simp] theorem State.sending_sent (o : List Out) : (s.sending o).sent = o := rfl

@[simp] theorem State.setBorrower_borrowers (e : Borrower) : (s.setBorrower e).borrowers = putBorrower e s.borrowers := rfl

@[simp] theorem State.touch_recency (b : Nat) : (s.touch b).recency = b :: s.recency.filter (· != b) := rfl

@[simp] theorem State.updUpload_upload (f : Upload → Upload) : (s.updUpload f).upload = f s.upload := rfl

@[simp] theorem State.updService_service (f : Service → Service) : (s.updService f).service = f s.service := rfl

@[simp] theorem State.setQuery_queries (t : Tag) (e : QueryEntry) : (s.setQuery t e).queries = s.queries.set t e := rfl

@[simp] theorem State.setAlarms_mgmt_alarms (f : Alarms → Alarms) : (s.setAlarms f).mgmt.alarms = f s.mgmt.alarms := rfl

@[simp] theorem State.dropLoan_loans (i : Nat) : (s.dropLoan i).loans = s.loans.filter fun l => l.item != i := rfl


@[simp] theorem State.st_updateSent (o : List Out) (n : StationNo) : State.st { s with sent := o } n = s.st n := rfl

/-! ### Reading a station back -/

@[simp] theorem State.st_upd_same (n : StationNo) (f : Station → Station) : (s.upd n f).st n = f (s.st n) := by
  simp [State.st, State.upd]

@[simp] theorem State.st_upd_other {n m : StationNo} (h : m ≠ n) (f : Station → Station) :
    (s.upd n f).st m = s.st m := by
  have : n.val ≠ m.val := fun e => h (Fin.ext e.symm)
  simp [State.st, State.upd, this]

/-- A station after an update of one of them. -/
theorem State.st_upd (n m : StationNo) (f : Station → Station) :
    (s.upd n f).st m = if m = n then f (s.st n) else s.st m := by
  by_cases h : m = n
  · subst h; simp
  · simp [h]

@[simp] theorem State.updLine_same (n : StationNo) (f : Line → Line) :
    (s.updLine n f).st n = { s.st n with line := f (s.st n).line } := by
  simp [State.updLine]

@[simp] theorem State.updLine_other {n m : StationNo} (h : m ≠ n) (f : Line → Line) :
    (s.updLine n f).st m = s.st m := by
  simp [State.updLine, h]

/-- Of every station, `updLine` changes no part but `line`. -/
@[simp] theorem State.updLine_parts (n m : StationNo) (f : Line → Line) :
    ((s.updLine n f).st m).ctx = (s.st m).ctx ∧
    ((s.updLine n f).st m).alerts = (s.st m).alerts ∧
    ((s.updLine n f).st m).slips = (s.st m).slips ∧
    ((s.updLine n f).st m).tallies = (s.st m).tallies := by
  rw [State.updLine, State.st_upd]; split <;> simp_all

@[simp] theorem State.updCtx_same (n : StationNo) (f : Ctx → Ctx) :
    (s.updCtx n f).st n = { s.st n with ctx := f (s.st n).ctx } := by
  simp [State.updCtx]

@[simp] theorem State.updCtx_other {n m : StationNo} (h : m ≠ n) (f : Ctx → Ctx) :
    (s.updCtx n f).st m = s.st m := by
  simp [State.updCtx, h]

/-- Of every station, `updCtx` changes no part but `ctx`. -/
@[simp] theorem State.updCtx_parts (n m : StationNo) (f : Ctx → Ctx) :
    ((s.updCtx n f).st m).line = (s.st m).line ∧
    ((s.updCtx n f).st m).alerts = (s.st m).alerts ∧
    ((s.updCtx n f).st m).slips = (s.st m).slips ∧
    ((s.updCtx n f).st m).tallies = (s.st m).tallies := by
  rw [State.updCtx, State.st_upd]; split <;> simp_all

@[simp] theorem State.updAlerts_same (n : StationNo) (f : Resolver → Resolver) :
    (s.updAlerts n f).st n = { s.st n with alerts := f (s.st n).alerts } := by
  simp [State.updAlerts]

@[simp] theorem State.updAlerts_other {n m : StationNo} (h : m ≠ n) (f : Resolver → Resolver) :
    (s.updAlerts n f).st m = s.st m := by
  simp [State.updAlerts, h]

/-- Of every station, `updAlerts` changes no part but `alerts`. -/
@[simp] theorem State.updAlerts_parts (n m : StationNo) (f : Resolver → Resolver) :
    ((s.updAlerts n f).st m).line = (s.st m).line ∧
    ((s.updAlerts n f).st m).ctx = (s.st m).ctx ∧
    ((s.updAlerts n f).st m).slips = (s.st m).slips ∧
    ((s.updAlerts n f).st m).tallies = (s.st m).tallies := by
  rw [State.updAlerts, State.st_upd]; split <;> simp_all

@[simp] theorem State.updSlips_same (n : StationNo) (f : SlipQueue → SlipQueue) :
    (s.updSlips n f).st n = { s.st n with slips := f (s.st n).slips } := by
  simp [State.updSlips]

@[simp] theorem State.updSlips_other {n m : StationNo} (h : m ≠ n) (f : SlipQueue → SlipQueue) :
    (s.updSlips n f).st m = s.st m := by
  simp [State.updSlips, h]

/-- Of every station, `updSlips` changes no part but `slips`. -/
@[simp] theorem State.updSlips_parts (n m : StationNo) (f : SlipQueue → SlipQueue) :
    ((s.updSlips n f).st m).line = (s.st m).line ∧
    ((s.updSlips n f).st m).ctx = (s.st m).ctx ∧
    ((s.updSlips n f).st m).alerts = (s.st m).alerts ∧
    ((s.updSlips n f).st m).tallies = (s.st m).tallies := by
  rw [State.updSlips, State.st_upd]; split <;> simp_all

@[simp] theorem State.updTallies_same (n : StationNo) (f : Tallies → Tallies) :
    (s.updTallies n f).st n = { s.st n with tallies := f (s.st n).tallies } := by
  simp [State.updTallies]

@[simp] theorem State.updTallies_other {n m : StationNo} (h : m ≠ n) (f : Tallies → Tallies) :
    (s.updTallies n f).st m = s.st m := by
  simp [State.updTallies, h]

/-- Of every station, `updTallies` changes no part but `tallies`. -/
@[simp] theorem State.updTallies_parts (n m : StationNo) (f : Tallies → Tallies) :
    ((s.updTallies n f).st m).line = (s.st m).line ∧
    ((s.updTallies n f).st m).ctx = (s.st m).ctx ∧
    ((s.updTallies n f).st m).alerts = (s.st m).alerts ∧
    ((s.updTallies n f).st m).slips = (s.st m).slips := by
  rw [State.updTallies, State.st_upd]; split <;> simp_all

@[simp] theorem State.updItem_same (n : StationNo) (i : Nat) (f : Item → Item) :
    (s.updItem n i f).st n = { s.st n with ctx := { (s.st n).ctx with items := (s.st n).ctx.items.modify i f } } := by
  simp [State.updItem]

@[simp] theorem State.mapCtx_st (f : Ctx → Ctx) (n : StationNo) :
    (s.mapCtx f).st n = { s.st n with ctx := f (s.st n).ctx } := by
  simp [State.mapCtx, State.st]

/-! ### Sending -/

/-- A frame for a head changes `sent` only, and no state at all while the line is DETACHED. -/
theorem State.sendDesk_cases (n : StationNo) (f : DeskOut) :
    s.sendDesk n f = s ∧ (s.st n).line.link = .detached ∨ s.sendDesk n f = s.emit (.desk n f) := by
  unfold State.sendDesk; split
  · exact .inl ⟨rfl, ‹_›⟩
  · exact .inr rfl

/-- A message for the trunk changes `sent` only, and no state at all while the link is DOWN. -/
theorem State.sendTrunk_cases (m : TrunkOut) :
    s.sendTrunk m = s ∧ s.service.linkUp = false ∨ s.sendTrunk m = s.emit (.trunk m) := by
  unfold State.sendTrunk; split
  · exact .inr rfl
  · exact .inl ⟨rfl, by simp_all⟩

@[simp] theorem State.sendDesk_keeps (n : StationNo) (f : DeskOut) :
    (s.sendDesk n f).pending = s.pending ∧ (s.sendDesk n f).stations = s.stations ∧ (s.sendDesk n f).borrowers =
    s.borrowers ∧ (s.sendDesk n f).recency = s.recency ∧ (s.sendDesk n f).exceptions = s.exceptions ∧
    (s.sendDesk n f).badges = s.badges ∧ (s.sendDesk n f).bankA = s.bankA ∧ (s.sendDesk n f).bankB = s.bankB ∧
    (s.sendDesk n f).active = s.active ∧ (s.sendDesk n f).generation = s.generation ∧ (s.sendDesk n f).clock =
    s.clock ∧ (s.sendDesk n f).service = s.service ∧ (s.sendDesk n f).queries = s.queries ∧ (s.sendDesk n
    f).loans = s.loans ∧ (s.sendDesk n f).journal = s.journal ∧ (s.sendDesk n f).upload = s.upload ∧ (s.sendDesk
    n f).mgmt = s.mgmt := by
  simp only [State.sendDesk]; split <;> simp

@[simp] theorem State.sendDesk_st (n : StationNo) (f : DeskOut) (k : StationNo) : (s.sendDesk n f).st k = s.st k := by
  simp [State.st]

@[simp] theorem State.display_keeps (n : StationNo) (t : Tone) (i : Nat) :
    (s.display n t i).pending = s.pending ∧ (s.display n t i).stations = s.stations ∧ (s.display n t
    i).borrowers = s.borrowers ∧ (s.display n t i).recency = s.recency ∧ (s.display n t i).exceptions =
    s.exceptions ∧ (s.display n t i).badges = s.badges ∧ (s.display n t i).bankA = s.bankA ∧ (s.display n t
    i).bankB = s.bankB ∧ (s.display n t i).active = s.active ∧ (s.display n t i).generation = s.generation ∧
    (s.display n t i).clock = s.clock ∧ (s.display n t i).service = s.service ∧ (s.display n t i).queries =
    s.queries ∧ (s.display n t i).loans = s.loans ∧ (s.display n t i).journal = s.journal ∧ (s.display n t
    i).upload = s.upload ∧ (s.display n t i).mgmt = s.mgmt := by
  simp only [State.display, State.sendDesk]; split <;> simp

@[simp] theorem State.display_st (n : StationNo) (t : Tone) (i : Nat) (k : StationNo) : (s.display n t i).st k = s.st k := by
  simp [State.st]

@[simp] theorem State.tone_keeps (n : StationNo) (t : Tone) :
    (s.tone n t).pending = s.pending ∧ (s.tone n t).stations = s.stations ∧ (s.tone n t).borrowers = s.borrowers
    ∧ (s.tone n t).recency = s.recency ∧ (s.tone n t).exceptions = s.exceptions ∧ (s.tone n t).badges = s.badges
    ∧ (s.tone n t).bankA = s.bankA ∧ (s.tone n t).bankB = s.bankB ∧ (s.tone n t).active = s.active ∧ (s.tone n
    t).generation = s.generation ∧ (s.tone n t).clock = s.clock ∧ (s.tone n t).service = s.service ∧ (s.tone n
    t).queries = s.queries ∧ (s.tone n t).loans = s.loans ∧ (s.tone n t).journal = s.journal ∧ (s.tone n
    t).upload = s.upload ∧ (s.tone n t).mgmt = s.mgmt := by
  simp only [State.tone, State.display, State.sendDesk]; split <;> simp

@[simp] theorem State.tone_st (n : StationNo) (t : Tone) (k : StationNo) : (s.tone n t).st k = s.st k := by
  simp [State.st]

@[simp] theorem State.sendTrunk_keeps (m : TrunkOut) :
    (s.sendTrunk m).pending = s.pending ∧ (s.sendTrunk m).stations = s.stations ∧ (s.sendTrunk m).borrowers =
    s.borrowers ∧ (s.sendTrunk m).recency = s.recency ∧ (s.sendTrunk m).exceptions = s.exceptions ∧ (s.sendTrunk
    m).badges = s.badges ∧ (s.sendTrunk m).bankA = s.bankA ∧ (s.sendTrunk m).bankB = s.bankB ∧ (s.sendTrunk
    m).active = s.active ∧ (s.sendTrunk m).generation = s.generation ∧ (s.sendTrunk m).clock = s.clock ∧
    (s.sendTrunk m).service = s.service ∧ (s.sendTrunk m).queries = s.queries ∧ (s.sendTrunk m).loans = s.loans
    ∧ (s.sendTrunk m).journal = s.journal ∧ (s.sendTrunk m).upload = s.upload ∧ (s.sendTrunk m).mgmt = s.mgmt := by
  simp only [State.sendTrunk]; split <;> simp

@[simp] theorem State.sendTrunk_st (m : TrunkOut) (k : StationNo) : (s.sendTrunk m).st k = s.st k := by
  simp [State.st]

@[simp] theorem State.notice_keeps (x : Notice) :
    (s.notice x).pending = s.pending ∧ (s.notice x).stations = s.stations ∧ (s.notice x).borrowers = s.borrowers
    ∧ (s.notice x).recency = s.recency ∧ (s.notice x).exceptions = s.exceptions ∧ (s.notice x).badges = s.badges
    ∧ (s.notice x).bankA = s.bankA ∧ (s.notice x).bankB = s.bankB ∧ (s.notice x).active = s.active ∧ (s.notice
    x).generation = s.generation ∧ (s.notice x).clock = s.clock ∧ (s.notice x).service = s.service ∧ (s.notice
    x).queries = s.queries ∧ (s.notice x).loans = s.loans ∧ (s.notice x).journal = s.journal ∧ (s.notice
    x).upload = s.upload ∧ (s.notice x).mgmt = s.mgmt := by
  simp only [State.notice, State.sendTrunk]; split <;> simp

@[simp] theorem State.notice_st (x : Notice) (k : StationNo) : (s.notice x).st k = s.st k := by
  simp [State.st]

end Sys2Proof.Machine
end

