-- ==== Sys2Proof/Laws/Frames.lean ====
section
/-! SUPPORT. Laws/Frames.lean: for each operation shared by the meanings, the fields of State that it leaves alone,
said once so that a proof about a command never unfolds the operation to know what it cannot reach. -/

namespace Sys2Proof.Machine

variable (s : State)

/-! ### Journal, alarms and locks -/

@[simp] theorem State.evalFull_keeps :
    (s.evalFull).pending = s.pending ∧ (s.evalFull).stations = s.stations ∧ (s.evalFull).borrowers = s.borrowers
    ∧ (s.evalFull).recency = s.recency ∧ (s.evalFull).exceptions = s.exceptions ∧ (s.evalFull).badges = s.badges
    ∧ (s.evalFull).bankA = s.bankA ∧ (s.evalFull).bankB = s.bankB ∧ (s.evalFull).active = s.active ∧
    (s.evalFull).generation = s.generation ∧ (s.evalFull).clock = s.clock ∧ (s.evalFull).service = s.service ∧
    (s.evalFull).queries = s.queries ∧ (s.evalFull).loans = s.loans ∧ (s.evalFull).journal = s.journal ∧
    (s.evalFull).upload = s.upload ∧ (s.evalFull).mgmt.snapTallies = s.mgmt.snapTallies ∧
    (s.evalFull).mgmt.snapService = s.mgmt.snapService ∧ (s.evalFull).mgmt.snapJournal = s.mgmt.snapJournal ∧
    (s.evalFull).mgmt.startUp = s.mgmt.startUp ∧ (s.evalFull).mgmt.lastReset = s.mgmt.lastReset ∧
    (s.evalFull).mgmt.restarting = s.mgmt.restarting ∧ (s.evalFull).mgmt.held = s.mgmt.held ∧
    (s.evalFull).mgmt.cabinet = s.mgmt.cabinet := by
  simp only [State.evalFull]; split <;> simp [State.setAlarms]

@[simp] theorem State.evalLow_keeps :
    (s.evalLow).pending = s.pending ∧ (s.evalLow).stations = s.stations ∧ (s.evalLow).borrowers = s.borrowers ∧
    (s.evalLow).recency = s.recency ∧ (s.evalLow).exceptions = s.exceptions ∧ (s.evalLow).badges = s.badges ∧
    (s.evalLow).bankA = s.bankA ∧ (s.evalLow).bankB = s.bankB ∧ (s.evalLow).active = s.active ∧
    (s.evalLow).generation = s.generation ∧ (s.evalLow).clock = s.clock ∧ (s.evalLow).service = s.service ∧
    (s.evalLow).queries = s.queries ∧ (s.evalLow).loans = s.loans ∧ (s.evalLow).journal = s.journal ∧
    (s.evalLow).upload = s.upload ∧ (s.evalLow).mgmt.snapTallies = s.mgmt.snapTallies ∧
    (s.evalLow).mgmt.snapService = s.mgmt.snapService ∧ (s.evalLow).mgmt.snapJournal = s.mgmt.snapJournal ∧
    (s.evalLow).mgmt.startUp = s.mgmt.startUp ∧ (s.evalLow).mgmt.lastReset = s.mgmt.lastReset ∧
    (s.evalLow).mgmt.restarting = s.mgmt.restarting ∧ (s.evalLow).mgmt.held = s.mgmt.held ∧
    (s.evalLow).mgmt.cabinet = s.mgmt.cabinet := by
  simp only [State.evalLow]; split <;> simp [State.setAlarms]

@[simp] theorem State.evalJournal_keeps :
    (s.evalJournal).pending = s.pending ∧ (s.evalJournal).stations = s.stations ∧ (s.evalJournal).borrowers =
    s.borrowers ∧ (s.evalJournal).recency = s.recency ∧ (s.evalJournal).exceptions = s.exceptions ∧
    (s.evalJournal).badges = s.badges ∧ (s.evalJournal).bankA = s.bankA ∧ (s.evalJournal).bankB = s.bankB ∧
    (s.evalJournal).active = s.active ∧ (s.evalJournal).generation = s.generation ∧ (s.evalJournal).clock =
    s.clock ∧ (s.evalJournal).service = s.service ∧ (s.evalJournal).queries = s.queries ∧ (s.evalJournal).loans
    = s.loans ∧ (s.evalJournal).journal = s.journal ∧ (s.evalJournal).upload = s.upload ∧
    (s.evalJournal).mgmt.snapTallies = s.mgmt.snapTallies ∧ (s.evalJournal).mgmt.snapService =
    s.mgmt.snapService ∧ (s.evalJournal).mgmt.snapJournal = s.mgmt.snapJournal ∧ (s.evalJournal).mgmt.startUp =
    s.mgmt.startUp ∧ (s.evalJournal).mgmt.lastReset = s.mgmt.lastReset ∧ (s.evalJournal).mgmt.restarting =
    s.mgmt.restarting ∧ (s.evalJournal).mgmt.held = s.mgmt.held ∧ (s.evalJournal).mgmt.cabinet = s.mgmt.cabinet := by
  simp [State.evalJournal]

/-- R167, R171: what a record offered to the journal can change: the journal, the alarms and sticky flags, what is sent. -/
@[simp] theorem State.offer_keeps (r : Record) :
    ((s.offer r).2).pending = s.pending ∧ ((s.offer r).2).stations = s.stations ∧ ((s.offer r).2).borrowers =
    s.borrowers ∧ ((s.offer r).2).recency = s.recency ∧ ((s.offer r).2).exceptions = s.exceptions ∧ ((s.offer
    r).2).badges = s.badges ∧ ((s.offer r).2).bankA = s.bankA ∧ ((s.offer r).2).bankB = s.bankB ∧ ((s.offer
    r).2).active = s.active ∧ ((s.offer r).2).generation = s.generation ∧ ((s.offer r).2).clock = s.clock ∧
    ((s.offer r).2).service = s.service ∧ ((s.offer r).2).queries = s.queries ∧ ((s.offer r).2).loans = s.loans
    ∧ ((s.offer r).2).upload = s.upload ∧ ((s.offer r).2).mgmt.snapTallies = s.mgmt.snapTallies ∧ ((s.offer
    r).2).mgmt.snapService = s.mgmt.snapService ∧ ((s.offer r).2).mgmt.snapJournal = s.mgmt.snapJournal ∧
    ((s.offer r).2).mgmt.startUp = s.mgmt.startUp ∧ ((s.offer r).2).mgmt.lastReset = s.mgmt.lastReset ∧
    ((s.offer r).2).mgmt.restarting = s.mgmt.restarting ∧ ((s.offer r).2).mgmt.held = s.mgmt.held ∧ ((s.offer
    r).2).mgmt.cabinet = s.mgmt.cabinet := by
  simp only [State.offer]; split <;> simp [State.stick]

@[simp] theorem State.deviceEvent_keeps (d : Detail) (g : Option Nat) :
    (s.deviceEvent d g).pending = s.pending ∧ (s.deviceEvent d g).stations = s.stations ∧ (s.deviceEvent d
    g).borrowers = s.borrowers ∧ (s.deviceEvent d g).recency = s.recency ∧ (s.deviceEvent d g).exceptions =
    s.exceptions ∧ (s.deviceEvent d g).badges = s.badges ∧ (s.deviceEvent d g).bankA = s.bankA ∧ (s.deviceEvent
    d g).bankB = s.bankB ∧ (s.deviceEvent d g).active = s.active ∧ (s.deviceEvent d g).generation = s.generation
    ∧ (s.deviceEvent d g).clock = s.clock ∧ (s.deviceEvent d g).service = s.service ∧ (s.deviceEvent d
    g).queries = s.queries ∧ (s.deviceEvent d g).loans = s.loans ∧ (s.deviceEvent d g).upload = s.upload ∧
    (s.deviceEvent d g).mgmt.snapTallies = s.mgmt.snapTallies ∧ (s.deviceEvent d g).mgmt.snapService =
    s.mgmt.snapService ∧ (s.deviceEvent d g).mgmt.snapJournal = s.mgmt.snapJournal ∧ (s.deviceEvent d
    g).mgmt.startUp = s.mgmt.startUp ∧ (s.deviceEvent d g).mgmt.lastReset = s.mgmt.lastReset ∧ (s.deviceEvent d
    g).mgmt.restarting = s.mgmt.restarting ∧ (s.deviceEvent d g).mgmt.held = s.mgmt.held ∧ (s.deviceEvent d
    g).mgmt.cabinet = s.mgmt.cabinet := by
  simp [State.deviceEvent]

@[simp] theorem State.changeSource_keeps (n : StationNo) (f : Ctx → Ctx) :
    (s.changeSource n f).pending = s.pending ∧ (s.changeSource n f).borrowers = s.borrowers ∧ (s.changeSource n
    f).recency = s.recency ∧ (s.changeSource n f).exceptions = s.exceptions ∧ (s.changeSource n f).badges =
    s.badges ∧ (s.changeSource n f).bankA = s.bankA ∧ (s.changeSource n f).bankB = s.bankB ∧ (s.changeSource n
    f).active = s.active ∧ (s.changeSource n f).generation = s.generation ∧ (s.changeSource n f).clock = s.clock
    ∧ (s.changeSource n f).service = s.service ∧ (s.changeSource n f).queries = s.queries ∧ (s.changeSource n
    f).loans = s.loans ∧ (s.changeSource n f).upload = s.upload ∧ (s.changeSource n f).mgmt.snapTallies =
    s.mgmt.snapTallies ∧ (s.changeSource n f).mgmt.snapService = s.mgmt.snapService ∧ (s.changeSource n
    f).mgmt.snapJournal = s.mgmt.snapJournal ∧ (s.changeSource n f).mgmt.startUp = s.mgmt.startUp ∧
    (s.changeSource n f).mgmt.lastReset = s.mgmt.lastReset ∧ (s.changeSource n f).mgmt.restarting =
    s.mgmt.restarting ∧ (s.changeSource n f).mgmt.held = s.mgmt.held ∧ (s.changeSource n f).mgmt.cabinet =
    s.mgmt.cabinet := by
  simp only [State.changeSource]; split <;> simp

/-- A fold over stations keeps what each of its steps keeps. -/
theorem foldl_keeps {α β : Type} (p : State → β) (f : State → α → State) (h : ∀ s a, p (f s a) = p s) (xs : List α)
    (s : State) : p (xs.foldl f s) = p s := by
  induction xs generalizing s with
  | nil => rfl
  | cons a xs ih => rw [List.foldl_cons, ih, h]

@[simp] theorem State.reportAlarm_keeps (on : Bool) :
    (s.reportAlarm on).pending = s.pending ∧ (s.reportAlarm on).borrowers = s.borrowers ∧ (s.reportAlarm
    on).recency = s.recency ∧ (s.reportAlarm on).exceptions = s.exceptions ∧ (s.reportAlarm on).badges =
    s.badges ∧ (s.reportAlarm on).bankA = s.bankA ∧ (s.reportAlarm on).bankB = s.bankB ∧ (s.reportAlarm
    on).active = s.active ∧ (s.reportAlarm on).generation = s.generation ∧ (s.reportAlarm on).clock = s.clock ∧
    (s.reportAlarm on).service = s.service ∧ (s.reportAlarm on).queries = s.queries ∧ (s.reportAlarm on).loans =
    s.loans ∧ (s.reportAlarm on).upload = s.upload ∧ (s.reportAlarm on).mgmt.snapTallies = s.mgmt.snapTallies ∧
    (s.reportAlarm on).mgmt.snapService = s.mgmt.snapService ∧ (s.reportAlarm on).mgmt.snapJournal =
    s.mgmt.snapJournal ∧ (s.reportAlarm on).mgmt.startUp = s.mgmt.startUp ∧ (s.reportAlarm on).mgmt.lastReset =
    s.mgmt.lastReset ∧ (s.reportAlarm on).mgmt.restarting = s.mgmt.restarting ∧ (s.reportAlarm on).mgmt.held =
    s.mgmt.held ∧ (s.reportAlarm on).mgmt.cabinet = s.mgmt.cabinet := by
  simp only [State.reportAlarm]
  refine ⟨foldl_keeps (·.pending) _ (by simp) _ s, foldl_keeps (·.borrowers) _ (by simp) _ s, foldl_keeps (·.recency) _ (by simp) _ s, foldl_keeps (·.exceptions) _ (by simp) _ s, foldl_keeps (·.badges) _ (by simp) _ s, foldl_keeps (·.bankA) _ (by simp) _ s, foldl_keeps (·.bankB) _ (by simp) _ s, foldl_keeps (·.active) _ (by simp) _ s, foldl_keeps (·.generation) _ (by simp) _ s, foldl_keeps (·.clock) _ (by simp) _ s, foldl_keeps (·.service) _ (by simp) _ s, foldl_keeps (·.queries) _ (by simp) _ s, foldl_keeps (·.loans) _ (by simp) _ s, foldl_keeps (·.upload) _ (by simp) _ s, foldl_keeps (·.mgmt.snapTallies) _ (by simp) _ s, foldl_keeps (·.mgmt.snapService) _ (by simp) _ s, foldl_keeps (·.mgmt.snapJournal) _ (by simp) _ s, foldl_keeps (·.mgmt.startUp) _ (by simp) _ s, foldl_keeps (·.mgmt.lastReset) _ (by simp) _ s, foldl_keeps (·.mgmt.restarting) _ (by simp) _ s, foldl_keeps (·.mgmt.held) _ (by simp) _ s, foldl_keeps (·.mgmt.cabinet) _ (by simp) _ s⟩

@[simp] theorem State.settleLocks_keeps (k : Nat) :
    (State.settleLocks k s).pending = s.pending ∧ (State.settleLocks k s).borrowers = s.borrowers ∧
    (State.settleLocks k s).recency = s.recency ∧ (State.settleLocks k s).exceptions = s.exceptions ∧
    (State.settleLocks k s).badges = s.badges ∧ (State.settleLocks k s).bankA = s.bankA ∧ (State.settleLocks k
    s).bankB = s.bankB ∧ (State.settleLocks k s).active = s.active ∧ (State.settleLocks k s).generation =
    s.generation ∧ (State.settleLocks k s).clock = s.clock ∧ (State.settleLocks k s).service = s.service ∧
    (State.settleLocks k s).queries = s.queries ∧ (State.settleLocks k s).loans = s.loans ∧ (State.settleLocks k
    s).upload = s.upload ∧ (State.settleLocks k s).mgmt.snapTallies = s.mgmt.snapTallies ∧ (State.settleLocks k
    s).mgmt.snapService = s.mgmt.snapService ∧ (State.settleLocks k s).mgmt.snapJournal = s.mgmt.snapJournal ∧
    (State.settleLocks k s).mgmt.startUp = s.mgmt.startUp ∧ (State.settleLocks k s).mgmt.lastReset =
    s.mgmt.lastReset ∧ (State.settleLocks k s).mgmt.restarting = s.mgmt.restarting ∧ (State.settleLocks k
    s).mgmt.held = s.mgmt.held ∧ (State.settleLocks k s).mgmt.cabinet = s.mgmt.cabinet := by
  induction k generalizing s with
  | zero => simp [State.settleLocks]
  | succ k ih =>
    simp only [State.settleLocks]; split
    · simp
    · simp [ih]

/-- R203: what bringing the ALARM lock condition up to date can change. -/
@[simp] theorem State.settle_keeps :
    (s.settle).pending = s.pending ∧ (s.settle).borrowers = s.borrowers ∧ (s.settle).recency = s.recency ∧
    (s.settle).exceptions = s.exceptions ∧ (s.settle).badges = s.badges ∧ (s.settle).bankA = s.bankA ∧
    (s.settle).bankB = s.bankB ∧ (s.settle).active = s.active ∧ (s.settle).generation = s.generation ∧
    (s.settle).clock = s.clock ∧ (s.settle).service = s.service ∧ (s.settle).queries = s.queries ∧
    (s.settle).loans = s.loans ∧ (s.settle).upload = s.upload ∧ (s.settle).mgmt.snapTallies = s.mgmt.snapTallies
    ∧ (s.settle).mgmt.snapService = s.mgmt.snapService ∧ (s.settle).mgmt.snapJournal = s.mgmt.snapJournal ∧
    (s.settle).mgmt.startUp = s.mgmt.startUp ∧ (s.settle).mgmt.lastReset = s.mgmt.lastReset ∧
    (s.settle).mgmt.restarting = s.mgmt.restarting ∧ (s.settle).mgmt.held = s.mgmt.held ∧
    (s.settle).mgmt.cabinet = s.mgmt.cabinet := by
  simp [State.settle]

/-- What a record written, with all that its taking sets off, can change. -/
@[simp] theorem State.write_keeps (r : Record) :
    ((s.write r).2).pending = s.pending ∧ ((s.write r).2).borrowers = s.borrowers ∧ ((s.write r).2).recency =
    s.recency ∧ ((s.write r).2).exceptions = s.exceptions ∧ ((s.write r).2).badges = s.badges ∧ ((s.write
    r).2).bankA = s.bankA ∧ ((s.write r).2).bankB = s.bankB ∧ ((s.write r).2).active = s.active ∧ ((s.write
    r).2).generation = s.generation ∧ ((s.write r).2).clock = s.clock ∧ ((s.write r).2).service = s.service ∧
    ((s.write r).2).queries = s.queries ∧ ((s.write r).2).loans = s.loans ∧ ((s.write r).2).upload = s.upload ∧
    ((s.write r).2).mgmt.snapTallies = s.mgmt.snapTallies ∧ ((s.write r).2).mgmt.snapService =
    s.mgmt.snapService ∧ ((s.write r).2).mgmt.snapJournal = s.mgmt.snapJournal ∧ ((s.write r).2).mgmt.startUp =
    s.mgmt.startUp ∧ ((s.write r).2).mgmt.lastReset = s.mgmt.lastReset ∧ ((s.write r).2).mgmt.restarting =
    s.mgmt.restarting ∧ ((s.write r).2).mgmt.held = s.mgmt.held ∧ ((s.write r).2).mgmt.cabinet = s.mgmt.cabinet := by
  simp [State.write]

/-- What a record that a station writes can change. -/
@[simp] theorem State.writeStation_keeps (n : StationNo) (r : Record) :
    ((s.writeStation n r).2).pending = s.pending ∧ ((s.writeStation n r).2).borrowers = s.borrowers ∧
    ((s.writeStation n r).2).recency = s.recency ∧ ((s.writeStation n r).2).exceptions = s.exceptions ∧
    ((s.writeStation n r).2).badges = s.badges ∧ ((s.writeStation n r).2).bankA = s.bankA ∧ ((s.writeStation n
    r).2).bankB = s.bankB ∧ ((s.writeStation n r).2).active = s.active ∧ ((s.writeStation n r).2).generation =
    s.generation ∧ ((s.writeStation n r).2).clock = s.clock ∧ ((s.writeStation n r).2).service = s.service ∧
    ((s.writeStation n r).2).queries = s.queries ∧ ((s.writeStation n r).2).loans = s.loans ∧ ((s.writeStation n
    r).2).upload = s.upload ∧ ((s.writeStation n r).2).mgmt.snapTallies = s.mgmt.snapTallies ∧ ((s.writeStation
    n r).2).mgmt.snapService = s.mgmt.snapService ∧ ((s.writeStation n r).2).mgmt.snapJournal =
    s.mgmt.snapJournal ∧ ((s.writeStation n r).2).mgmt.startUp = s.mgmt.startUp ∧ ((s.writeStation n
    r).2).mgmt.lastReset = s.mgmt.lastReset ∧ ((s.writeStation n r).2).mgmt.restarting = s.mgmt.restarting ∧
    ((s.writeStation n r).2).mgmt.held = s.mgmt.held ∧ ((s.writeStation n r).2).mgmt.cabinet = s.mgmt.cabinet := by
  have key := State.write_keeps s { r with flags := r.flags.union (s.st n).ctx.stationFlags }
  simp only [State.writeStation]
  split <;> rename_i heq <;> rw [heq] at key
  · split <;> simpa using key
  · exact key

/-- R44: what the change of a lock source can change. -/
@[simp] theorem State.lockChange_keeps (n : StationNo) (f : Ctx → Ctx) :
    (s.lockChange n f).pending = s.pending ∧ (s.lockChange n f).borrowers = s.borrowers ∧ (s.lockChange n
    f).recency = s.recency ∧ (s.lockChange n f).exceptions = s.exceptions ∧ (s.lockChange n f).badges = s.badges
    ∧ (s.lockChange n f).bankA = s.bankA ∧ (s.lockChange n f).bankB = s.bankB ∧ (s.lockChange n f).active =
    s.active ∧ (s.lockChange n f).generation = s.generation ∧ (s.lockChange n f).clock = s.clock ∧ (s.lockChange
    n f).service = s.service ∧ (s.lockChange n f).queries = s.queries ∧ (s.lockChange n f).loans = s.loans ∧
    (s.lockChange n f).upload = s.upload ∧ (s.lockChange n f).mgmt.snapTallies = s.mgmt.snapTallies ∧
    (s.lockChange n f).mgmt.snapService = s.mgmt.snapService ∧ (s.lockChange n f).mgmt.snapJournal =
    s.mgmt.snapJournal ∧ (s.lockChange n f).mgmt.startUp = s.mgmt.startUp ∧ (s.lockChange n f).mgmt.lastReset =
    s.mgmt.lastReset ∧ (s.lockChange n f).mgmt.restarting = s.mgmt.restarting ∧ (s.lockChange n f).mgmt.held =
    s.mgmt.held ∧ (s.lockChange n f).mgmt.cabinet = s.mgmt.cabinet := by
  simp only [State.lockChange]; split <;> simp

/-! ### Alert resolver -/

@[simp] theorem State.showAlerts_keeps (n : StationNo) (t : Tone) :
    (s.showAlerts n t).pending = s.pending ∧ (s.showAlerts n t).borrowers = s.borrowers ∧ (s.showAlerts n
    t).recency = s.recency ∧ (s.showAlerts n t).exceptions = s.exceptions ∧ (s.showAlerts n t).badges = s.badges
    ∧ (s.showAlerts n t).bankA = s.bankA ∧ (s.showAlerts n t).bankB = s.bankB ∧ (s.showAlerts n t).active =
    s.active ∧ (s.showAlerts n t).generation = s.generation ∧ (s.showAlerts n t).clock = s.clock ∧ (s.showAlerts
    n t).service = s.service ∧ (s.showAlerts n t).queries = s.queries ∧ (s.showAlerts n t).loans = s.loans ∧
    (s.showAlerts n t).journal = s.journal ∧ (s.showAlerts n t).upload = s.upload ∧ (s.showAlerts n t).mgmt =
    s.mgmt := by
  simp [State.showAlerts]

@[simp] theorem State.resolve_keeps (n : StationNo) (k : Nat) :
    (State.resolve n k s).pending = s.pending ∧ (State.resolve n k s).borrowers = s.borrowers ∧ (State.resolve n
    k s).recency = s.recency ∧ (State.resolve n k s).exceptions = s.exceptions ∧ (State.resolve n k s).badges =
    s.badges ∧ (State.resolve n k s).bankA = s.bankA ∧ (State.resolve n k s).bankB = s.bankB ∧ (State.resolve n
    k s).active = s.active ∧ (State.resolve n k s).generation = s.generation ∧ (State.resolve n k s).clock =
    s.clock ∧ (State.resolve n k s).service = s.service ∧ (State.resolve n k s).queries = s.queries ∧
    (State.resolve n k s).loans = s.loans ∧ (State.resolve n k s).journal = s.journal ∧ (State.resolve n k
    s).upload = s.upload ∧ (State.resolve n k s).mgmt = s.mgmt := by
  induction k generalizing s with
  | zero => simp [State.resolve]
  | succ k ih =>
    simp only [State.resolve]; repeat' split
    all_goals simp [ih]

@[simp] theorem State.reportHold_keeps (n : StationNo) :
    (s.reportHold n).pending = s.pending ∧ (s.reportHold n).borrowers = s.borrowers ∧ (s.reportHold n).recency =
    s.recency ∧ (s.reportHold n).exceptions = s.exceptions ∧ (s.reportHold n).badges = s.badges ∧ (s.reportHold
    n).bankA = s.bankA ∧ (s.reportHold n).bankB = s.bankB ∧ (s.reportHold n).active = s.active ∧ (s.reportHold
    n).generation = s.generation ∧ (s.reportHold n).clock = s.clock ∧ (s.reportHold n).service = s.service ∧
    (s.reportHold n).queries = s.queries ∧ (s.reportHold n).loans = s.loans ∧ (s.reportHold n).journal =
    s.journal ∧ (s.reportHold n).upload = s.upload ∧ (s.reportHold n).mgmt = s.mgmt := by
  simp only [State.reportHold]; repeat' split
  all_goals simp

@[simp] theorem State.finishShow_keeps (n : StationNo) (t : Tone) :
    (s.finishShow n t).pending = s.pending ∧ (s.finishShow n t).borrowers = s.borrowers ∧ (s.finishShow n
    t).recency = s.recency ∧ (s.finishShow n t).exceptions = s.exceptions ∧ (s.finishShow n t).badges = s.badges
    ∧ (s.finishShow n t).bankA = s.bankA ∧ (s.finishShow n t).bankB = s.bankB ∧ (s.finishShow n t).active =
    s.active ∧ (s.finishShow n t).generation = s.generation ∧ (s.finishShow n t).clock = s.clock ∧ (s.finishShow
    n t).service = s.service ∧ (s.finishShow n t).queries = s.queries ∧ (s.finishShow n t).loans = s.loans ∧
    (s.finishShow n t).journal = s.journal ∧ (s.finishShow n t).upload = s.upload ∧ (s.finishShow n t).mgmt =
    s.mgmt := by
  simp only [State.finishShow]; split <;> simp

/-- R137 to R139: what an event of the resolver can change. -/
@[simp] theorem State.settleAlerts_keeps (n : StationNo) :
    (s.settleAlerts n).pending = s.pending ∧ (s.settleAlerts n).borrowers = s.borrowers ∧ (s.settleAlerts
    n).recency = s.recency ∧ (s.settleAlerts n).exceptions = s.exceptions ∧ (s.settleAlerts n).badges = s.badges
    ∧ (s.settleAlerts n).bankA = s.bankA ∧ (s.settleAlerts n).bankB = s.bankB ∧ (s.settleAlerts n).active =
    s.active ∧ (s.settleAlerts n).generation = s.generation ∧ (s.settleAlerts n).clock = s.clock ∧
    (s.settleAlerts n).service = s.service ∧ (s.settleAlerts n).queries = s.queries ∧ (s.settleAlerts n).loans =
    s.loans ∧ (s.settleAlerts n).journal = s.journal ∧ (s.settleAlerts n).upload = s.upload ∧ (s.settleAlerts
    n).mgmt = s.mgmt := by
  simp [State.settleAlerts]

@[simp] theorem State.requestLevel_keeps (n : StationNo) (l : Level) (i : Nat) (o : Option Origin) :
    (s.requestLevel n l i o).pending = s.pending ∧ (s.requestLevel n l i o).borrowers = s.borrowers ∧
    (s.requestLevel n l i o).recency = s.recency ∧ (s.requestLevel n l i o).exceptions = s.exceptions ∧
    (s.requestLevel n l i o).badges = s.badges ∧ (s.requestLevel n l i o).bankA = s.bankA ∧ (s.requestLevel n l
    i o).bankB = s.bankB ∧ (s.requestLevel n l i o).active = s.active ∧ (s.requestLevel n l i o).generation =
    s.generation ∧ (s.requestLevel n l i o).clock = s.clock ∧ (s.requestLevel n l i o).service = s.service ∧
    (s.requestLevel n l i o).queries = s.queries ∧ (s.requestLevel n l i o).loans = s.loans ∧ (s.requestLevel n
    l i o).journal = s.journal ∧ (s.requestLevel n l i o).upload = s.upload ∧ (s.requestLevel n l i o).mgmt =
    s.mgmt := by
  simp [State.requestLevel]

@[simp] theorem State.withdrawLevel_keeps (n : StationNo) (l : Level) :
    (s.withdrawLevel n l).pending = s.pending ∧ (s.withdrawLevel n l).borrowers = s.borrowers ∧ (s.withdrawLevel
    n l).recency = s.recency ∧ (s.withdrawLevel n l).exceptions = s.exceptions ∧ (s.withdrawLevel n l).badges =
    s.badges ∧ (s.withdrawLevel n l).bankA = s.bankA ∧ (s.withdrawLevel n l).bankB = s.bankB ∧ (s.withdrawLevel
    n l).active = s.active ∧ (s.withdrawLevel n l).generation = s.generation ∧ (s.withdrawLevel n l).clock =
    s.clock ∧ (s.withdrawLevel n l).service = s.service ∧ (s.withdrawLevel n l).queries = s.queries ∧
    (s.withdrawLevel n l).loans = s.loans ∧ (s.withdrawLevel n l).journal = s.journal ∧ (s.withdrawLevel n
    l).upload = s.upload ∧ (s.withdrawLevel n l).mgmt = s.mgmt := by
  simp only [State.withdrawLevel]; split <;> simp

/-- R46, R137: what a withdrawal of a force-close can change. -/
@[simp] theorem State.withdrawResolved_keeps (n : StationNo) (l : Level) :
    (s.withdrawResolved n l).pending = s.pending ∧ (s.withdrawResolved n l).borrowers = s.borrowers ∧
    (s.withdrawResolved n l).recency = s.recency ∧ (s.withdrawResolved n l).exceptions = s.exceptions ∧
    (s.withdrawResolved n l).badges = s.badges ∧ (s.withdrawResolved n l).bankA = s.bankA ∧ (s.withdrawResolved
    n l).bankB = s.bankB ∧ (s.withdrawResolved n l).active = s.active ∧ (s.withdrawResolved n l).generation =
    s.generation ∧ (s.withdrawResolved n l).clock = s.clock ∧ (s.withdrawResolved n l).service = s.service ∧
    (s.withdrawResolved n l).queries = s.queries ∧ (s.withdrawResolved n l).loans = s.loans ∧
    (s.withdrawResolved n l).journal = s.journal ∧ (s.withdrawResolved n l).upload = s.upload ∧
    (s.withdrawResolved n l).mgmt = s.mgmt := by
  simp only [State.withdrawResolved]; split <;> simp

/-- R138, R143: what the DISPLAY of a badge at a full journal can change. -/
@[simp] theorem State.badgeJournalFull_keeps (n : StationNo) :
    (s.badgeJournalFull n).pending = s.pending ∧ (s.badgeJournalFull n).borrowers = s.borrowers ∧
    (s.badgeJournalFull n).recency = s.recency ∧ (s.badgeJournalFull n).exceptions = s.exceptions ∧
    (s.badgeJournalFull n).badges = s.badges ∧ (s.badgeJournalFull n).bankA = s.bankA ∧ (s.badgeJournalFull
    n).bankB = s.bankB ∧ (s.badgeJournalFull n).active = s.active ∧ (s.badgeJournalFull n).generation =
    s.generation ∧ (s.badgeJournalFull n).clock = s.clock ∧ (s.badgeJournalFull n).service = s.service ∧
    (s.badgeJournalFull n).queries = s.queries ∧ (s.badgeJournalFull n).loans = s.loans ∧ (s.badgeJournalFull
    n).journal = s.journal ∧ (s.badgeJournalFull n).upload = s.upload ∧ (s.badgeJournalFull n).mgmt = s.mgmt := by
  simp [State.badgeJournalFull]

@[simp] theorem State.applyStaged_keeps (n : StationNo) :
    (s.applyStaged n).pending = s.pending ∧ (s.applyStaged n).borrowers = s.borrowers ∧ (s.applyStaged
    n).recency = s.recency ∧ (s.applyStaged n).exceptions = s.exceptions ∧ (s.applyStaged n).badges = s.badges ∧
    (s.applyStaged n).bankA = s.bankA ∧ (s.applyStaged n).bankB = s.bankB ∧ (s.applyStaged n).active = s.active
    ∧ (s.applyStaged n).generation = s.generation ∧ (s.applyStaged n).clock = s.clock ∧ (s.applyStaged
    n).service = s.service ∧ (s.applyStaged n).queries = s.queries ∧ (s.applyStaged n).loans = s.loans ∧
    (s.applyStaged n).journal = s.journal ∧ (s.applyStaged n).upload = s.upload ∧ (s.applyStaged n).mgmt =
    s.mgmt := by
  simp only [State.applyStaged]; split <;> simp

/-! ### Slip queue -/

@[simp] theorem State.stream_keeps (n : StationNo) (k : Nat) :
    (State.stream n k s).pending = s.pending ∧ (State.stream n k s).borrowers = s.borrowers ∧ (State.stream n k
    s).recency = s.recency ∧ (State.stream n k s).exceptions = s.exceptions ∧ (State.stream n k s).badges =
    s.badges ∧ (State.stream n k s).bankA = s.bankA ∧ (State.stream n k s).bankB = s.bankB ∧ (State.stream n k
    s).active = s.active ∧ (State.stream n k s).generation = s.generation ∧ (State.stream n k s).clock = s.clock
    ∧ (State.stream n k s).service = s.service ∧ (State.stream n k s).queries = s.queries ∧ (State.stream n k
    s).loans = s.loans ∧ (State.stream n k s).journal = s.journal ∧ (State.stream n k s).upload = s.upload ∧
    (State.stream n k s).mgmt = s.mgmt := by
  induction k generalizing s with
  | zero => simp [State.stream]
  | succ k ih =>
    simp only [State.stream]; repeat' split
    all_goals simp [ih]

/-- R154, R155: what the printing of slip lines can change. -/
@[simp] theorem State.feed_keeps (n : StationNo) :
    (s.feed n).pending = s.pending ∧ (s.feed n).borrowers = s.borrowers ∧ (s.feed n).recency = s.recency ∧
    (s.feed n).exceptions = s.exceptions ∧ (s.feed n).badges = s.badges ∧ (s.feed n).bankA = s.bankA ∧ (s.feed
    n).bankB = s.bankB ∧ (s.feed n).active = s.active ∧ (s.feed n).generation = s.generation ∧ (s.feed n).clock
    = s.clock ∧ (s.feed n).service = s.service ∧ (s.feed n).queries = s.queries ∧ (s.feed n).loans = s.loans ∧
    (s.feed n).journal = s.journal ∧ (s.feed n).upload = s.upload ∧ (s.feed n).mgmt = s.mgmt := by
  simp [State.feed]

@[simp] theorem State.setPrinter_keeps (n : StationNo) (p : Printer) :
    (s.setPrinter n p).pending = s.pending ∧ (s.setPrinter n p).borrowers = s.borrowers ∧ (s.setPrinter n
    p).recency = s.recency ∧ (s.setPrinter n p).exceptions = s.exceptions ∧ (s.setPrinter n p).badges = s.badges
    ∧ (s.setPrinter n p).bankA = s.bankA ∧ (s.setPrinter n p).bankB = s.bankB ∧ (s.setPrinter n p).active =
    s.active ∧ (s.setPrinter n p).generation = s.generation ∧ (s.setPrinter n p).clock = s.clock ∧ (s.setPrinter
    n p).service = s.service ∧ (s.setPrinter n p).queries = s.queries ∧ (s.setPrinter n p).loans = s.loans ∧
    (s.setPrinter n p).journal = s.journal ∧ (s.setPrinter n p).upload = s.upload ∧ (s.setPrinter n p).mgmt =
    s.mgmt := by
  simp only [State.setPrinter]; split <;> simp

@[simp] theorem State.takeToken_keeps (n : StationNo) (k : Option Nat) :
    (s.takeToken n k).pending = s.pending ∧ (s.takeToken n k).borrowers = s.borrowers ∧ (s.takeToken n
    k).recency = s.recency ∧ (s.takeToken n k).exceptions = s.exceptions ∧ (s.takeToken n k).badges = s.badges ∧
    (s.takeToken n k).bankA = s.bankA ∧ (s.takeToken n k).bankB = s.bankB ∧ (s.takeToken n k).active = s.active
    ∧ (s.takeToken n k).generation = s.generation ∧ (s.takeToken n k).clock = s.clock ∧ (s.takeToken n
    k).service = s.service ∧ (s.takeToken n k).queries = s.queries ∧ (s.takeToken n k).loans = s.loans ∧
    (s.takeToken n k).journal = s.journal ∧ (s.takeToken n k).upload = s.upload ∧ (s.takeToken n k).mgmt =
    s.mgmt := by
  simp only [State.takeToken]; repeat' split
  all_goals simp

/-! ### Query table -/

/-- R110, R111: what asking for a query can change. -/
@[simp] theorem State.ask_keeps (q : Question) (c : Nat) :
    ((s.ask q c).2).pending = s.pending ∧ ((s.ask q c).2).stations = s.stations ∧ ((s.ask q c).2).borrowers =
    s.borrowers ∧ ((s.ask q c).2).recency = s.recency ∧ ((s.ask q c).2).exceptions = s.exceptions ∧ ((s.ask q
    c).2).badges = s.badges ∧ ((s.ask q c).2).bankA = s.bankA ∧ ((s.ask q c).2).bankB = s.bankB ∧ ((s.ask q
    c).2).active = s.active ∧ ((s.ask q c).2).generation = s.generation ∧ ((s.ask q c).2).clock = s.clock ∧
    ((s.ask q c).2).loans = s.loans ∧ ((s.ask q c).2).journal = s.journal ∧ ((s.ask q c).2).upload = s.upload ∧
    ((s.ask q c).2).mgmt = s.mgmt := by
  simp only [State.ask]; split <;> simp

@[simp] theorem State.lapse_keeps (t : Tag) (d : LapseDecision) :
    (s.lapse t d).pending = s.pending ∧ (s.lapse t d).sent = s.sent ∧ (s.lapse t d).stations = s.stations ∧
    (s.lapse t d).borrowers = s.borrowers ∧ (s.lapse t d).recency = s.recency ∧ (s.lapse t d).exceptions =
    s.exceptions ∧ (s.lapse t d).badges = s.badges ∧ (s.lapse t d).bankA = s.bankA ∧ (s.lapse t d).bankB =
    s.bankB ∧ (s.lapse t d).active = s.active ∧ (s.lapse t d).generation = s.generation ∧ (s.lapse t d).clock =
    s.clock ∧ (s.lapse t d).service = s.service ∧ (s.lapse t d).loans = s.loans ∧ (s.lapse t d).journal =
    s.journal ∧ (s.lapse t d).upload = s.upload ∧ (s.lapse t d).mgmt = s.mgmt := by
  simp only [State.lapse]; split <;> simp

@[simp] theorem State.voidQuery_keeps (k : Option (Tag × Nat)) :
    (s.voidQuery k).pending = s.pending ∧ (s.voidQuery k).sent = s.sent ∧ (s.voidQuery k).stations = s.stations
    ∧ (s.voidQuery k).borrowers = s.borrowers ∧ (s.voidQuery k).recency = s.recency ∧ (s.voidQuery k).exceptions
    = s.exceptions ∧ (s.voidQuery k).badges = s.badges ∧ (s.voidQuery k).bankA = s.bankA ∧ (s.voidQuery k).bankB
    = s.bankB ∧ (s.voidQuery k).active = s.active ∧ (s.voidQuery k).generation = s.generation ∧ (s.voidQuery
    k).clock = s.clock ∧ (s.voidQuery k).service = s.service ∧ (s.voidQuery k).loans = s.loans ∧ (s.voidQuery
    k).journal = s.journal ∧ (s.voidQuery k).upload = s.upload ∧ (s.voidQuery k).mgmt = s.mgmt := by
  simp only [State.voidQuery]; repeat' split
  all_goals simp

@[simp] theorem State.sendProbe_keeps :
    (s.sendProbe).pending = s.pending ∧ (s.sendProbe).stations = s.stations ∧ (s.sendProbe).borrowers =
    s.borrowers ∧ (s.sendProbe).recency = s.recency ∧ (s.sendProbe).exceptions = s.exceptions ∧
    (s.sendProbe).badges = s.badges ∧ (s.sendProbe).bankA = s.bankA ∧ (s.sendProbe).bankB = s.bankB ∧
    (s.sendProbe).active = s.active ∧ (s.sendProbe).generation = s.generation ∧ (s.sendProbe).clock = s.clock ∧
    (s.sendProbe).queries = s.queries ∧ (s.sendProbe).loans = s.loans ∧ (s.sendProbe).journal = s.journal ∧
    (s.sendProbe).upload = s.upload ∧ (s.sendProbe).mgmt = s.mgmt := by
  simp [State.sendProbe]

/-! ### Upload controller -/

@[simp] theorem State.endRun_keeps (o : RunOutcome) :
    (s.endRun o).pending = s.pending ∧ (s.endRun o).stations = s.stations ∧ (s.endRun o).borrowers = s.borrowers
    ∧ (s.endRun o).recency = s.recency ∧ (s.endRun o).exceptions = s.exceptions ∧ (s.endRun o).badges = s.badges
    ∧ (s.endRun o).bankA = s.bankA ∧ (s.endRun o).bankB = s.bankB ∧ (s.endRun o).active = s.active ∧ (s.endRun
    o).generation = s.generation ∧ (s.endRun o).clock = s.clock ∧ (s.endRun o).service = s.service ∧ (s.endRun
    o).queries = s.queries ∧ (s.endRun o).loans = s.loans ∧ (s.endRun o).journal = s.journal ∧ (s.endRun o).mgmt
    = s.mgmt := by
  simp [State.endRun]

@[simp] theorem State.sealEarly_keeps :
    (s.sealEarly).pending = s.pending ∧ (s.sealEarly).borrowers = s.borrowers ∧ (s.sealEarly).recency =
    s.recency ∧ (s.sealEarly).exceptions = s.exceptions ∧ (s.sealEarly).badges = s.badges ∧ (s.sealEarly).bankA
    = s.bankA ∧ (s.sealEarly).bankB = s.bankB ∧ (s.sealEarly).active = s.active ∧ (s.sealEarly).generation =
    s.generation ∧ (s.sealEarly).clock = s.clock ∧ (s.sealEarly).service = s.service ∧ (s.sealEarly).queries =
    s.queries ∧ (s.sealEarly).loans = s.loans ∧ (s.sealEarly).upload = s.upload ∧ (s.sealEarly).mgmt.snapTallies
    = s.mgmt.snapTallies ∧ (s.sealEarly).mgmt.snapService = s.mgmt.snapService ∧ (s.sealEarly).mgmt.snapJournal
    = s.mgmt.snapJournal ∧ (s.sealEarly).mgmt.startUp = s.mgmt.startUp ∧ (s.sealEarly).mgmt.lastReset =
    s.mgmt.lastReset ∧ (s.sealEarly).mgmt.restarting = s.mgmt.restarting ∧ (s.sealEarly).mgmt.held = s.mgmt.held
    ∧ (s.sealEarly).mgmt.cabinet = s.mgmt.cabinet := by
  simp [State.sealEarly]

@[simp] theorem State.markPage_keeps (b : Block) (p : PageState) :
    (s.markPage b p).pending = s.pending ∧ (s.markPage b p).sent = s.sent ∧ (s.markPage b p).stations =
    s.stations ∧ (s.markPage b p).borrowers = s.borrowers ∧ (s.markPage b p).recency = s.recency ∧ (s.markPage b
    p).exceptions = s.exceptions ∧ (s.markPage b p).badges = s.badges ∧ (s.markPage b p).bankA = s.bankA ∧
    (s.markPage b p).bankB = s.bankB ∧ (s.markPage b p).active = s.active ∧ (s.markPage b p).generation =
    s.generation ∧ (s.markPage b p).clock = s.clock ∧ (s.markPage b p).service = s.service ∧ (s.markPage b
    p).queries = s.queries ∧ (s.markPage b p).loans = s.loans ∧ (s.markPage b p).upload = s.upload ∧ (s.markPage
    b p).mgmt = s.mgmt := by
  simp only [State.markPage]; split <;> simp

@[simp] theorem State.sendBlock_keeps (b : Block) (k : Nat) :
    (s.sendBlock b k).pending = s.pending ∧ (s.sendBlock b k).stations = s.stations ∧ (s.sendBlock b
    k).borrowers = s.borrowers ∧ (s.sendBlock b k).recency = s.recency ∧ (s.sendBlock b k).exceptions =
    s.exceptions ∧ (s.sendBlock b k).badges = s.badges ∧ (s.sendBlock b k).bankA = s.bankA ∧ (s.sendBlock b
    k).bankB = s.bankB ∧ (s.sendBlock b k).active = s.active ∧ (s.sendBlock b k).generation = s.generation ∧
    (s.sendBlock b k).clock = s.clock ∧ (s.sendBlock b k).service = s.service ∧ (s.sendBlock b k).queries =
    s.queries ∧ (s.sendBlock b k).loans = s.loans ∧ (s.sendBlock b k).mgmt = s.mgmt := by
  simp [State.sendBlock]

/-- R184 to R187: what the composition of a block can change. -/
@[simp] theorem State.compose_keeps :
    (s.compose.2).pending = s.pending ∧ (s.compose.2).sent = s.sent ∧ (s.compose.2).stations = s.stations ∧
    (s.compose.2).recency = s.recency ∧ (s.compose.2).exceptions = s.exceptions ∧ (s.compose.2).badges =
    s.badges ∧ (s.compose.2).bankA = s.bankA ∧ (s.compose.2).bankB = s.bankB ∧ (s.compose.2).active = s.active ∧
    (s.compose.2).generation = s.generation ∧ (s.compose.2).clock = s.clock ∧ (s.compose.2).service = s.service
    ∧ (s.compose.2).queries = s.queries ∧ (s.compose.2).loans = s.loans ∧ (s.compose.2).journal = s.journal ∧
    (s.compose.2).mgmt = s.mgmt := by
  simp only [State.compose]; repeat' split
  all_goals simp

@[simp] theorem State.beginSection_keeps :
    (s.beginSection).pending = s.pending ∧ (s.beginSection).borrowers = s.borrowers ∧ (s.beginSection).recency =
    s.recency ∧ (s.beginSection).exceptions = s.exceptions ∧ (s.beginSection).badges = s.badges ∧
    (s.beginSection).bankA = s.bankA ∧ (s.beginSection).bankB = s.bankB ∧ (s.beginSection).active = s.active ∧
    (s.beginSection).generation = s.generation ∧ (s.beginSection).clock = s.clock ∧ (s.beginSection).service =
    s.service ∧ (s.beginSection).queries = s.queries ∧ (s.beginSection).loans = s.loans ∧
    (s.beginSection).mgmt.snapTallies = s.mgmt.snapTallies ∧ (s.beginSection).mgmt.snapService =
    s.mgmt.snapService ∧ (s.beginSection).mgmt.snapJournal = s.mgmt.snapJournal ∧ (s.beginSection).mgmt.startUp
    = s.mgmt.startUp ∧ (s.beginSection).mgmt.lastReset = s.mgmt.lastReset ∧ (s.beginSection).mgmt.restarting =
    s.mgmt.restarting ∧ (s.beginSection).mgmt.held = s.mgmt.held ∧ (s.beginSection).mgmt.cabinet =
    s.mgmt.cabinet := by
  simp only [State.beginSection]; split <;> simp

@[simp] theorem State.nextBlock_keeps :
    (s.nextBlock).pending = s.pending ∧ (s.nextBlock).stations = s.stations ∧ (s.nextBlock).recency = s.recency
    ∧ (s.nextBlock).exceptions = s.exceptions ∧ (s.nextBlock).badges = s.badges ∧ (s.nextBlock).bankA = s.bankA
    ∧ (s.nextBlock).bankB = s.bankB ∧ (s.nextBlock).active = s.active ∧ (s.nextBlock).generation = s.generation
    ∧ (s.nextBlock).clock = s.clock ∧ (s.nextBlock).service = s.service ∧ (s.nextBlock).queries = s.queries ∧
    (s.nextBlock).loans = s.loans ∧ (s.nextBlock).mgmt = s.mgmt := by
  simp [State.nextBlock]

@[simp] theorem State.runSection_keeps :
    (s.runSection).pending = s.pending ∧ (s.runSection).recency = s.recency ∧ (s.runSection).exceptions =
    s.exceptions ∧ (s.runSection).badges = s.badges ∧ (s.runSection).bankA = s.bankA ∧ (s.runSection).bankB =
    s.bankB ∧ (s.runSection).active = s.active ∧ (s.runSection).generation = s.generation ∧ (s.runSection).clock
    = s.clock ∧ (s.runSection).service = s.service ∧ (s.runSection).queries = s.queries ∧ (s.runSection).loans =
    s.loans ∧ (s.runSection).mgmt.snapTallies = s.mgmt.snapTallies ∧ (s.runSection).mgmt.snapService =
    s.mgmt.snapService ∧ (s.runSection).mgmt.snapJournal = s.mgmt.snapJournal ∧ (s.runSection).mgmt.startUp =
    s.mgmt.startUp ∧ (s.runSection).mgmt.lastReset = s.mgmt.lastReset ∧ (s.runSection).mgmt.restarting =
    s.mgmt.restarting ∧ (s.runSection).mgmt.held = s.mgmt.held ∧ (s.runSection).mgmt.cabinet = s.mgmt.cabinet := by
  simp [State.runSection]

@[simp] theorem State.newPass_keeps :
    (s.newPass).pending = s.pending ∧ (s.newPass).sent = s.sent ∧ (s.newPass).stations = s.stations ∧
    (s.newPass).borrowers = s.borrowers ∧ (s.newPass).recency = s.recency ∧ (s.newPass).exceptions =
    s.exceptions ∧ (s.newPass).badges = s.badges ∧ (s.newPass).bankA = s.bankA ∧ (s.newPass).bankB = s.bankB ∧
    (s.newPass).active = s.active ∧ (s.newPass).generation = s.generation ∧ (s.newPass).clock = s.clock ∧
    (s.newPass).service = s.service ∧ (s.newPass).queries = s.queries ∧ (s.newPass).loans = s.loans ∧
    (s.newPass).journal = s.journal ∧ (s.newPass).mgmt = s.mgmt := by
  simp [State.newPass]

/-- R182: what the start of a run can change. -/
@[simp] theorem State.startRun_keeps :
    (s.startRun).pending = s.pending ∧ (s.startRun).recency = s.recency ∧ (s.startRun).exceptions = s.exceptions
    ∧ (s.startRun).badges = s.badges ∧ (s.startRun).bankA = s.bankA ∧ (s.startRun).bankB = s.bankB ∧
    (s.startRun).active = s.active ∧ (s.startRun).generation = s.generation ∧ (s.startRun).clock = s.clock ∧
    (s.startRun).service = s.service ∧ (s.startRun).queries = s.queries ∧ (s.startRun).loans = s.loans ∧
    (s.startRun).mgmt.snapTallies = s.mgmt.snapTallies ∧ (s.startRun).mgmt.snapService = s.mgmt.snapService ∧
    (s.startRun).mgmt.snapJournal = s.mgmt.snapJournal ∧ (s.startRun).mgmt.startUp = s.mgmt.startUp ∧
    (s.startRun).mgmt.lastReset = s.mgmt.lastReset ∧ (s.startRun).mgmt.restarting = s.mgmt.restarting ∧
    (s.startRun).mgmt.held = s.mgmt.held ∧ (s.startRun).mgmt.cabinet = s.mgmt.cabinet := by
  simp only [State.startRun]; split <;> simp

@[simp] theorem State.abandon_keeps :
    (s.abandon).pending = s.pending ∧ (s.abandon).sent = s.sent ∧ (s.abandon).stations = s.stations ∧
    (s.abandon).borrowers = s.borrowers ∧ (s.abandon).recency = s.recency ∧ (s.abandon).exceptions =
    s.exceptions ∧ (s.abandon).badges = s.badges ∧ (s.abandon).bankA = s.bankA ∧ (s.abandon).bankB = s.bankB ∧
    (s.abandon).active = s.active ∧ (s.abandon).generation = s.generation ∧ (s.abandon).clock = s.clock ∧
    (s.abandon).service = s.service ∧ (s.abandon).queries = s.queries ∧ (s.abandon).loans = s.loans ∧
    (s.abandon).mgmt = s.mgmt := by
  simp only [State.abandon]; repeat' split
  all_goals simp

@[simp] theorem State.pauseRun_keeps :
    (s.pauseRun).pending = s.pending ∧ (s.pauseRun).stations = s.stations ∧ (s.pauseRun).borrowers = s.borrowers
    ∧ (s.pauseRun).recency = s.recency ∧ (s.pauseRun).exceptions = s.exceptions ∧ (s.pauseRun).badges = s.badges
    ∧ (s.pauseRun).bankA = s.bankA ∧ (s.pauseRun).bankB = s.bankB ∧ (s.pauseRun).active = s.active ∧
    (s.pauseRun).generation = s.generation ∧ (s.pauseRun).clock = s.clock ∧ (s.pauseRun).service = s.service ∧
    (s.pauseRun).queries = s.queries ∧ (s.pauseRun).loans = s.loans ∧ (s.pauseRun).mgmt = s.mgmt := by
  simp only [State.pauseRun]; repeat' split
  all_goals simp

@[simp] theorem State.resumeRun_keeps :
    (s.resumeRun).pending = s.pending ∧ (s.resumeRun).recency = s.recency ∧ (s.resumeRun).exceptions =
    s.exceptions ∧ (s.resumeRun).badges = s.badges ∧ (s.resumeRun).bankA = s.bankA ∧ (s.resumeRun).bankB =
    s.bankB ∧ (s.resumeRun).active = s.active ∧ (s.resumeRun).generation = s.generation ∧ (s.resumeRun).clock =
    s.clock ∧ (s.resumeRun).service = s.service ∧ (s.resumeRun).queries = s.queries ∧ (s.resumeRun).loans =
    s.loans ∧ (s.resumeRun).mgmt.snapTallies = s.mgmt.snapTallies ∧ (s.resumeRun).mgmt.snapService =
    s.mgmt.snapService ∧ (s.resumeRun).mgmt.snapJournal = s.mgmt.snapJournal ∧ (s.resumeRun).mgmt.startUp =
    s.mgmt.startUp ∧ (s.resumeRun).mgmt.lastReset = s.mgmt.lastReset ∧ (s.resumeRun).mgmt.restarting =
    s.mgmt.restarting ∧ (s.resumeRun).mgmt.held = s.mgmt.held ∧ (s.resumeRun).mgmt.cabinet = s.mgmt.cabinet := by
  simp only [State.resumeRun]; repeat' split
  all_goals simp

/-- R192: what a change of the service state can change beyond the service link. -/
@[simp] theorem State.serviceToUpload_keeps :
    (s.serviceToUpload).pending = s.pending ∧ (s.serviceToUpload).recency = s.recency ∧
    (s.serviceToUpload).exceptions = s.exceptions ∧ (s.serviceToUpload).badges = s.badges ∧
    (s.serviceToUpload).bankA = s.bankA ∧ (s.serviceToUpload).bankB = s.bankB ∧ (s.serviceToUpload).active =
    s.active ∧ (s.serviceToUpload).generation = s.generation ∧ (s.serviceToUpload).clock = s.clock ∧
    (s.serviceToUpload).service = s.service ∧ (s.serviceToUpload).queries = s.queries ∧
    (s.serviceToUpload).loans = s.loans ∧ (s.serviceToUpload).mgmt.snapTallies = s.mgmt.snapTallies ∧
    (s.serviceToUpload).mgmt.snapService = s.mgmt.snapService ∧ (s.serviceToUpload).mgmt.snapJournal =
    s.mgmt.snapJournal ∧ (s.serviceToUpload).mgmt.startUp = s.mgmt.startUp ∧ (s.serviceToUpload).mgmt.lastReset
    = s.mgmt.lastReset ∧ (s.serviceToUpload).mgmt.restarting = s.mgmt.restarting ∧ (s.serviceToUpload).mgmt.held
    = s.mgmt.held ∧ (s.serviceToUpload).mgmt.cabinet = s.mgmt.cabinet := by
  simp only [State.serviceToUpload]; split <;> simp

@[simp] theorem State.minuteToUpload_keeps :
    (s.minuteToUpload).pending = s.pending ∧ (s.minuteToUpload).recency = s.recency ∧
    (s.minuteToUpload).exceptions = s.exceptions ∧ (s.minuteToUpload).badges = s.badges ∧
    (s.minuteToUpload).bankA = s.bankA ∧ (s.minuteToUpload).bankB = s.bankB ∧ (s.minuteToUpload).active =
    s.active ∧ (s.minuteToUpload).generation = s.generation ∧ (s.minuteToUpload).clock = s.clock ∧
    (s.minuteToUpload).service = s.service ∧ (s.minuteToUpload).queries = s.queries ∧ (s.minuteToUpload).loans =
    s.loans ∧ (s.minuteToUpload).mgmt.snapTallies = s.mgmt.snapTallies ∧ (s.minuteToUpload).mgmt.snapService =
    s.mgmt.snapService ∧ (s.minuteToUpload).mgmt.snapJournal = s.mgmt.snapJournal ∧
    (s.minuteToUpload).mgmt.startUp = s.mgmt.startUp ∧ (s.minuteToUpload).mgmt.lastReset = s.mgmt.lastReset ∧
    (s.minuteToUpload).mgmt.restarting = s.mgmt.restarting ∧ (s.minuteToUpload).mgmt.held = s.mgmt.held ∧
    (s.minuteToUpload).mgmt.cabinet = s.mgmt.cabinet := by
  simp only [State.minuteToUpload]; repeat' split
  all_goals simp

@[simp] theorem State.setServiceState_keeps (v : ServiceState) :
    (s.setServiceState v).pending = s.pending ∧ (s.setServiceState v).recency = s.recency ∧ (s.setServiceState
    v).exceptions = s.exceptions ∧ (s.setServiceState v).badges = s.badges ∧ (s.setServiceState v).bankA =
    s.bankA ∧ (s.setServiceState v).bankB = s.bankB ∧ (s.setServiceState v).active = s.active ∧
    (s.setServiceState v).generation = s.generation ∧ (s.setServiceState v).clock = s.clock ∧ (s.setServiceState
    v).queries = s.queries ∧ (s.setServiceState v).loans = s.loans ∧ (s.setServiceState v).mgmt.snapTallies =
    s.mgmt.snapTallies ∧ (s.setServiceState v).mgmt.snapService = s.mgmt.snapService ∧ (s.setServiceState
    v).mgmt.snapJournal = s.mgmt.snapJournal ∧ (s.setServiceState v).mgmt.startUp = s.mgmt.startUp ∧
    (s.setServiceState v).mgmt.lastReset = s.mgmt.lastReset ∧ (s.setServiceState v).mgmt.restarting =
    s.mgmt.restarting ∧ (s.setServiceState v).mgmt.held = s.mgmt.held ∧ (s.setServiceState v).mgmt.cabinet =
    s.mgmt.cabinet := by
  simp only [State.setServiceState]; split <;> simp

@[simp] theorem State.matchedReply_keeps :
    (s.matchedReply).pending = s.pending ∧ (s.matchedReply).recency = s.recency ∧ (s.matchedReply).exceptions =
    s.exceptions ∧ (s.matchedReply).badges = s.badges ∧ (s.matchedReply).bankA = s.bankA ∧
    (s.matchedReply).bankB = s.bankB ∧ (s.matchedReply).active = s.active ∧ (s.matchedReply).generation =
    s.generation ∧ (s.matchedReply).clock = s.clock ∧ (s.matchedReply).queries = s.queries ∧
    (s.matchedReply).loans = s.loans ∧ (s.matchedReply).mgmt.snapTallies = s.mgmt.snapTallies ∧
    (s.matchedReply).mgmt.snapService = s.mgmt.snapService ∧ (s.matchedReply).mgmt.snapJournal =
    s.mgmt.snapJournal ∧ (s.matchedReply).mgmt.startUp = s.mgmt.startUp ∧ (s.matchedReply).mgmt.lastReset =
    s.mgmt.lastReset ∧ (s.matchedReply).mgmt.restarting = s.mgmt.restarting ∧ (s.matchedReply).mgmt.held =
    s.mgmt.held ∧ (s.matchedReply).mgmt.cabinet = s.mgmt.cabinet := by
  simp [State.matchedReply]

@[simp] theorem State.countTimeout_keeps :
    (s.countTimeout).pending = s.pending ∧ (s.countTimeout).recency = s.recency ∧ (s.countTimeout).exceptions =
    s.exceptions ∧ (s.countTimeout).badges = s.badges ∧ (s.countTimeout).bankA = s.bankA ∧
    (s.countTimeout).bankB = s.bankB ∧ (s.countTimeout).active = s.active ∧ (s.countTimeout).generation =
    s.generation ∧ (s.countTimeout).clock = s.clock ∧ (s.countTimeout).queries = s.queries ∧
    (s.countTimeout).loans = s.loans ∧ (s.countTimeout).mgmt.snapTallies = s.mgmt.snapTallies ∧
    (s.countTimeout).mgmt.snapService = s.mgmt.snapService ∧ (s.countTimeout).mgmt.snapJournal =
    s.mgmt.snapJournal ∧ (s.countTimeout).mgmt.startUp = s.mgmt.startUp ∧ (s.countTimeout).mgmt.lastReset =
    s.mgmt.lastReset ∧ (s.countTimeout).mgmt.restarting = s.mgmt.restarting ∧ (s.countTimeout).mgmt.held =
    s.mgmt.held ∧ (s.countTimeout).mgmt.cabinet = s.mgmt.cabinet := by
  simp only [State.countTimeout, State.reviewTimeout]; repeat' split
  all_goals simp

/-! ### Effects that depend on the trunk link, and the token of a first HEAD_STATUS -/

@[simp] theorem State.whileLinkUp_up {s : State} (t : State) (h : s.service.linkUp = true) : s.whileLinkUp t = t := by
  simp [State.whileLinkUp, h]

@[simp] theorem State.whileLinkUp_down {s : State} (t : State) (h : s.service.linkUp = false) : s.whileLinkUp t = s := by
  simp [State.whileLinkUp, h]

/-- What holds before and after the effect holds whatever the trunk link. -/
theorem State.whileLinkUp_keeps {s t : State} (P : State → Prop) (before : P s) (after : P t) : P (s.whileLinkUp t) := by
  unfold State.whileLinkUp; split <;> assumption

/-- R162: the first HEAD_STATUS since a reset notes its token. -/
theorem State.noteToken_first (n : StationNo) (tok : Option Nat) (h : (s.st n).slips.reported = false) :
    (s.noteToken n tok).st n =
      { s.st n with slips := { (s.st n).slips with lastPrinted := tok, reported := true } } := by
  simp [State.noteToken, h]

/-- R10: a later one notes nothing before its credit. -/
theorem State.noteToken_later (n : StationNo) (tok : Option Nat) (h : (s.st n).slips.reported = true) :
    (s.noteToken n tok).st n = s.st n := by
  simp [State.noteToken, h]

end Sys2Proof.Machine
end

