-- ==== Sys2Proof/Laws/Commands.lean ====
section
/-! SUPPORT. Laws/Commands.lean: the shape of every management command (R198, R199, R207) and of the fields of a body
(R209). -/

namespace Sys2Proof.Machine

/-- R198: a message taken outside a restart runs and is answered with one response. -/
theorem State.manage_taken (s : State) (i : Instr) (tok : Token) (code : Byte) (run : State → State × Answer)
    (h : s.mgmt.restarting = false) :
    s.manage i tok code run = (run s).1.sendTrunk (.response tok code (run s).2.result (run s).2.body) := by
  simp [State.manage, h, State.respond]

/-- R199: a body without a refused field reaches the command's effect. -/
theorem withBody_ok {α : Type} {p : Body α} {body : List Byte} {a : α} (f : α → State → State × Answer) (s : State)
    (h : parseBody p body = .ok a) : withBody p body f s = f a s := by
  simp [withBody, h]

/-- R199: a refused field is answered with its offset and leaves the state. -/
theorem withBody_refused {α : Type} {p : Body α} {body : List Byte} {off : Nat} (f : α → State → State × Answer)
    (s : State) (h : parseBody p body = .error off) : withBody p body f s = (s, ⟨.badField, be 2 off⟩) := by
  simp [withBody, h]

/-- R72: a load with a body that parses writes the shadow bank and answers its completeness. -/
theorem withLoad_ok {α : Type} {p : Body α} {body : List Byte} {a : α} (f : α → Bank → Bank) (s : State)
    (h : parseBody p body = .ok a) :
    withLoad p body f s = (s.setShadow (f a s.shadowBank), ⟨.done, (f a s.shadowBank).completeness⟩) := by
  simp [withLoad, h]

/-- R72, R199: a load with a refused field is answered with its offset and the completeness, and leaves the state. -/
theorem withLoad_refused {α : Type} {p : Body α} {body : List Byte} {off : Nat} (f : α → Bank → Bank) (s : State)
    (h : parseBody p body = .error off) :
    withLoad p body f s = (s, ⟨.badField, be 2 off ++ s.shadowBank.completeness⟩) := by
  simp [withLoad, h]

/-- R72: what a write of the shadow bank changes. -/
@[simp] theorem State.setShadow_banks (s : State) (b : Bank) :
    (s.setShadow b).shadowBank = b ∧ (s.setShadow b).activeBank = s.activeBank ∧ (s.setShadow b).active = s.active := by
  unfold State.setShadow State.shadowBank State.activeBank
  cases s.active <;> simp

/-- R209: a field is taken where its bytes stand and its values allow it, and refused at its offset otherwise. -/
theorem Body.field_run {α : Type} (w : Nat) (ok : List Byte → Option α) (off : Nat) (bs : List Byte) :
    Body.field w ok (off, bs) =
      if bs.length < w then .error off
      else match ok (bs.take w) with
        | some a => .ok (a, (off + w, bs.drop w))
        | none => .error off := rfl

end Sys2Proof.Machine
end

