-- ==== Sys2Proof/Laws/Journal.lean ====
section
/-! SUPPORT. Laws/Journal.lean: what the taking of a record can do, and when its offering takes it, and when
the journal alarms stand. -/

namespace Sys2Proof.Machine

/-- R165, R167: where page i is FILLING and has room for more than one record, a record offered is added at its end
with the counter's value, and the counter moves on. -/
theorem Journal.take_room {j : Journal} {i : Fin 128} (r : Record) (hi : j.filling? = some i)
    (hr : j.pages[i].records.length + 1 < Config.pageRecords) :
    j.take r = some (j.counter, { j with
      counter := (j.counter + 1) % 2 ^ 32
      pages := j.pages.set i ⟨.filling, j.pages[i].records ++ [{ r with seq := j.counter }]⟩ }) := by
  have hr' : ¬ Config.pageRecords ≤ (j.pages[i].records ++ [{ r with seq := j.counter }]).length := by
    simp; omega
  simp only [Journal.take, hi, hr', if_false]
  rfl

/-- R171: no record is taken while no page is FILLING. -/
theorem Journal.take_none {j : Journal} (r : Record) (h : j.filling? = none) : j.take r = none := by
  simp [Journal.take, h]

/-- R165, R171: a record is taken exactly while a page is FILLING, and the number it receives is the counter's. -/
theorem Journal.take_isSome (j : Journal) (r : Record) : (j.take r).isSome = j.filling?.isSome := by
  cases h : j.filling? with
  | none => simp [Journal.take, h]
  | some i => simp only [Journal.take, h]; split <;> rfl

theorem Journal.take_number {j j' : Journal} {r : Record} {k : Nat} (h : j.take r = some (k, j')) : k = j.counter := by
  cases hf : j.filling? with
  | none => simp [Journal.take, hf] at h
  | some i => simp only [Journal.take, hf] at h; split at h <;> simp_all

/-- R167, R171: an offer answers the counter's value where a page is FILLING, and none otherwise. -/
theorem State.offer_number (s : State) (r : Record) :
    (s.offer r).1 = if s.journal.filling?.isSome then some s.journal.counter else none := by
  have h := s.journal.take_isSome r
  simp only [State.offer]
  split
  · rename_i k j hk
    rw [hk] at h
    simp [← h, Journal.take_number hk]
  · rename_i hk
    rw [hk] at h
    simp [← h]

/-- R171: a record that is not taken raises the overflow count and sets JOURNAL_OVERFLOWED. -/
theorem State.offer_full (s : State) (r : Record) (h : s.journal.filling? = none) :
    s.offer r = (none, { s with journal := { s.journal with overflow := sat32 s.journal.overflow 1 } }.stick
      { journalOverflowed := true }) := by
  simp [State.offer, Journal.take_none r h]

/-- R203: nothing is left to settle where the ALARM condition stands as the alarms give it. -/
theorem State.settle_settled (s : State) (h : s.mgmt.alarms.holds = s.mgmt.alarmCond) : s.settle = s := by
  simp [State.settle, State.settleLocks, h]

/-- R171: a record offered while no page is FILLING, with the ALARM condition settled, is lost and nothing else comes of
it. -/
theorem State.write_lost (s : State) (r : Record) (h : s.journal.filling? = none) (ha : s.alarmsSettled) :
    s.write r = (none, s.lost) := by
  have hs : (s.offer r).2 = s.lost := by
    rw [State.offer_full s r h]
    simp [State.lost, State.stick, StickyFlags.union, sat32, satAdd, Config.maxCount32]
  simp only [State.write, hs, State.settle_settled s.lost ha]
  rw [State.offer_full s r h]

/-- R31, R171: the same for a record that a station writes: its context stays as it was. -/
theorem State.writeStation_lost (s : State) (n : StationNo) (r : Record) (h : s.journal.filling? = none)
    (ha : s.alarmsSettled) : s.writeStation n r = (none, s.lost) := by
  simp [State.writeStation, State.write_lost s _ h ha]

/-- R44: a change of a lock source that leaves LOCKED as it was changes the source only. -/
theorem State.lockChange_same (s : State) (n : StationNo) (f : Ctx → Ctx)
    (h : (f (s.st n).ctx).locked = (s.st n).ctx.locked) : s.lockChange n f = s.updCtx n f := by
  simp [State.lockChange, State.changeSource, h]

/-- R172, R173: where both journal alarms stand as the pages give them, evaluating them changes nothing and sends
nothing. -/
theorem State.evalJournal_settled {s : State} (hf : s.journal.isFull = s.mgmt.alarms.journalFull.active)
    (hl : s.journal.isLow = s.mgmt.alarms.journalLow.active) : s.evalJournal = s := by
  simp [State.evalJournal, State.evalFull, State.evalLow, hf, hl]

end Sys2Proof.Machine
end

