-- ==== Sys2Proof/Laws/Tables.lean ====
section
/-! SUPPORT. Laws/Tables.lean: the keyed tables: what stands for a number after an entry is put or removed, and that the
rising order stays. -/

namespace Sys2Proof.Machine

/-! ### Borrower table -/

/-- After an entry is put, it stands for its number, and every other number's entry is as it was. -/
theorem find_putBorrower (e : Borrower) (xs : List Borrower) (b : Nat) :
    (putBorrower e xs).find? (fun x => x.number == b) =
      if e.number = b then some e else xs.find? fun x => x.number == b := by
  induction xs with
  | nil => simp [putBorrower, List.find?_cons]; split <;> simp_all
  | cons x xs ih =>
    simp only [putBorrower]
    split
    · simp only [List.find?_cons]; split <;> simp_all
    · split
      · rename_i hx; by_cases h : x.number = b <;> simp [hx, h]
      · by_cases hx : x.number = b
        · simp [hx]; omega
        · simp [hx, ih]

@[simp] theorem State.borrower?_setBorrower_same (s : State) (e : Borrower) :
    (s.setBorrower e).borrower? e.number = some e := by
  simp [State.borrower?, find_putBorrower]

@[simp] theorem State.borrower?_setBorrower_other (s : State) (e : Borrower) {b : Nat} (h : b ≠ e.number) :
    (s.setBorrower e).borrower? b = s.borrower? b := by
  simp [State.borrower?, find_putBorrower, Ne.symm h]

/-- The members of the table after an entry is put are that entry and members from before. -/
theorem mem_putBorrower {e x : Borrower} {xs : List Borrower} (h : x ∈ putBorrower e xs) : x = e ∨ x ∈ xs := by
  induction xs with
  | nil => simpa [putBorrower] using h
  | cons y ys ih =>
    simp only [putBorrower] at h
    split at h
    · simpa using h
    · split at h
      · simp at h ⊢; tauto
      · simp at h ⊢; rcases h with h | h
        · exact .inr (.inl h)
        · rcases ih h with h | h <;> tauto

theorem length_putBorrower_le (e : Borrower) (xs : List Borrower) :
    (putBorrower e xs).length ≤ xs.length + 1 := by
  induction xs with
  | nil => simp [putBorrower]
  | cons x xs ih => simp only [putBorrower]; repeat' split
                    all_goals simp; try omega

/-- Where no entry stands for the number, the table grows by one. -/
theorem length_putBorrower_new {e : Borrower} {xs : List Borrower}
    (h : xs.find? (fun x => x.number == e.number) = none) : (putBorrower e xs).length = xs.length + 1 := by
  induction xs with
  | nil => simp [putBorrower]
  | cons x xs ih =>
    simp only [List.find?_eq_none, List.mem_cons, forall_eq_or_imp] at h
    have hx : ¬ e.number = x.number := fun c => by simp [c] at h
    simp only [putBorrower]
    split
    · simp
    · simp [ih (List.find?_eq_none.mpr h.2)]

/-- In a rising table where an entry stands for the number, the length stays. -/
theorem length_putBorrower_standing {e : Borrower} {xs : List Borrower}
    (hs : (xs.map (·.number)).Pairwise (· < ·)) (h : ∃ x ∈ xs, x.number = e.number) :
    (putBorrower e xs).length = xs.length := by
  induction xs with
  | nil => simp at h
  | cons x xs ih =>
    simp only [List.map_cons, List.pairwise_cons, List.mem_map] at hs
    simp only [putBorrower]
    split
    · obtain ⟨y, hy, hn⟩ := h
      rcases List.mem_cons.mp hy with rfl | hy
      · omega
      · have := hs.1 _ ⟨y, hy, rfl⟩; omega
    · split
      · simp
      · obtain ⟨y, hy, hn⟩ := h
        rcases List.mem_cons.mp hy with rfl | hy
        · omega
        · simp [ih hs.2 ⟨y, hy, hn⟩]

/-- The rising order stays. -/
theorem sorted_putBorrower {e : Borrower} {xs : List Borrower} (hs : (xs.map (·.number)).Pairwise (· < ·)) :
    ((putBorrower e xs).map (·.number)).Pairwise (· < ·) := by
  induction xs with
  | nil => simp [putBorrower]
  | cons x xs ih =>
    simp only [List.map_cons, List.pairwise_cons, List.mem_map] at hs
    simp only [putBorrower]
    split
    · simp only [List.map_cons, List.pairwise_cons, List.mem_cons, List.mem_map]
      refine ⟨?_, ⟨hs.1, hs.2⟩⟩
      rintro k (rfl | ⟨y, hy, rfl⟩)
      · assumption
      · have := hs.1 _ ⟨y, hy, rfl⟩; omega
    · split
      · rename_i hx
        simp only [List.map_cons, List.pairwise_cons, List.mem_map]
        exact ⟨fun k hk => hx ▸ hs.1 k hk, hs.2⟩
      · simp only [List.map_cons, List.pairwise_cons, List.mem_map]
        refine ⟨?_, ih hs.2⟩
        rintro k ⟨y, hy, rfl⟩
        rcases mem_putBorrower hy with rfl | hy
        · omega
        · exact hs.1 _ ⟨y, hy, rfl⟩

@[simp] theorem State.borrower?_dropBorrower_same (s : State) (b : Nat) : (s.dropBorrower b).borrower? b = none := by
  simp [State.borrower?, State.dropBorrower]

@[simp] theorem State.borrower?_dropBorrower_other (s : State) {b c : Nat} (h : c ≠ b) :
    (s.dropBorrower b).borrower? c = s.borrower? c := by
  simp only [State.borrower?, State.dropBorrower, List.find?_filter]
  congr 1; funext x
  by_cases hx : x.number = c <;> simp [hx, h]

/-! ### Item exception table -/

theorem find_putException (e : ItemException) (xs : List ItemException) (k : Nat) :
    (putException e xs).find? (fun x => x.item == k) =
      if e.item = k then some e else xs.find? fun x => x.item == k := by
  induction xs with
  | nil => simp [putException, List.find?_cons]; split <;> simp_all
  | cons x xs ih =>
    simp only [putException]
    split
    · simp only [List.find?_cons]; split <;> simp_all
    · split
      · rename_i hx; by_cases h : x.item = k <;> simp [hx, h]
      · by_cases hx : x.item = k
        · simp [hx]; omega
        · simp [hx, ih]

@[simp] theorem State.exception?_dropException_same (s : State) (k : Nat) :
    (s.dropException k).exception? k = none := by
  simp [State.exception?, State.dropException]

@[simp] theorem State.exception?_dropException_other (s : State) {k j : Nat} (h : j ≠ k) :
    (s.dropException k).exception? j = s.exception? j := by
  simp only [State.exception?, State.dropException, List.find?_filter]
  congr 2; funext x
  by_cases hx : x.item = j <;> simp [hx, h]

/-! ### Sets of numbers -/

theorem mem_putNumber (k j : Nat) (xs : List Nat) : j ∈ putNumber k xs ↔ j = k ∨ j ∈ xs := by
  induction xs with
  | nil => simp [putNumber]
  | cons x xs ih =>
    simp only [putNumber]
    split
    · simp
    · split
      · subst_vars; simp
      · simp [ih]; tauto

theorem sorted_putNumber {k : Nat} {xs : List Nat} (hs : xs.Pairwise (· < ·)) : (putNumber k xs).Pairwise (· < ·) := by
  induction xs with
  | nil => simp [putNumber]
  | cons x xs ih =>
    simp only [List.pairwise_cons] at hs
    simp only [putNumber]
    split
    · simp only [List.pairwise_cons, List.mem_cons]
      refine ⟨?_, hs⟩
      rintro j (rfl | hj)
      · assumption
      · have := hs.1 j hj; omega
    · split
      · exact List.pairwise_cons.mpr hs
      · refine List.pairwise_cons.mpr ⟨fun j hj => ?_, ih hs.2⟩
        rcases (mem_putNumber k j xs).mp hj with rfl | hj
        · omega
        · exact hs.1 j hj

/-- The set made of the numbers that a command carries holds exactly those. -/
@[simp] theorem mem_numberSet (j : Nat) (ks : List Nat) : j ∈ numberSet ks ↔ j ∈ ks := by
  induction ks with
  | nil => simp [numberSet]
  | cons k ks ih =>
    rw [show numberSet (k :: ks) = putNumber k (numberSet ks) from rfl, mem_putNumber, ih, List.mem_cons]

/-- It is rising, so no number stands twice. -/
theorem sorted_numberSet (ks : List Nat) : (numberSet ks).Pairwise (· < ·) := by
  induction ks with
  | nil => simp [numberSet]
  | cons k ks ih => exact sorted_putNumber ih

/-! ### Room -/

/-- R51, R52: what making room can do: nothing where there is room, the eviction of the evictee where the table is full,
and none where nothing can be evicted. -/
theorem State.makeRoom_cases (s : State) :
    (s.makeRoom = some s ∧ s.borrowers.length < Config.maxBorrowers) ∨
      (∃ b, s.evictee = some b ∧ s.makeRoom = some (s.dropBorrower b) ∧ Config.maxBorrowers ≤ s.borrowers.length) ∨
        (s.evictee = none ∧ s.makeRoom = none ∧ Config.maxBorrowers ≤ s.borrowers.length) := by
  unfold State.makeRoom
  split
  · exact .inl ⟨rfl, ‹_›⟩
  · have : Config.maxBorrowers ≤ s.borrowers.length := by omega
    split
    · exact .inr (.inl ⟨_, ‹_›, rfl, this⟩)
    · exact .inr (.inr ⟨‹_›, rfl, this⟩)

end Sys2Proof.Machine
end

