-- ==== Sys2Proof/Laws/Upload.lean ====
section
/-! SUPPORT. Laws/Upload.lean: what the end of a run leaves (R181, R195). -/

namespace Sys2Proof.Machine

/-- R180: the fields of a deferred configuration applied, each as it is present. -/
theorem Upload.applyDeferred_config (u : Upload) : u.applyDeferred.config = u.finalConfig := by
  cases h : u.defConfig <;> simp [Upload.applyDeferred, Upload.finalConfig, UploadSettings.apply, h]

/-- R195: the end of a run sends its notice and leaves the controller ended; nothing else changes. -/
theorem State.endRun_eq (s : State) (o : RunOutcome) :
    s.endRun o = { s.notice (.uploadEnd o s.upload.runNumber s.upload.counts) with upload := s.upload.ended } := by
  cases h : s.upload.defConfig <;> cases hl : s.service.linkUp <;>
    simp [State.endRun, State.updUpload, State.notice, State.sendTrunk, State.emit, Upload.applyDeferred, Upload.ended,
      Upload.finalConfig, UploadSettings.apply, h, hl]

end Sys2Proof.Machine
end

