-- ==== Sys2Proof/Tests/Slice0.lean ====
section
/-! SUPPORT. Slice0.lean: tests of the decoder and of single commands, the smoke tests of WellFormed, and for every
statement with hypotheses a witness that meets them. Expected values come from the manual's worked examples or are
counted by hand from its tables. -/

namespace Sys2Proof.Tests

set_option Elab.async false

open Sys2Proof Machine

/-! ### Fixtures -/

/-- A borrower card, an item label and a supervisor badge with right check digits (1.4). -/
def card : Text := digits 11 20000041715
def label : Text := digits 13 3071234567895
def badge : Text := digits 9 900012347

/-- A day rule of 21 days. -/
def rule : Rule := ⟨.days, 21, 25, 2, 1000, .allDays⟩

/-- An hour rule of 3 hours. -/
def hourRule : Rule := ⟨.hours, 3, 10, 0, 500, .openDays⟩

def category : Category := ⟨10, 3, 500, 100⟩

/-- Day 0 is Monday 1 January 2024; Sundays are closed; open from 9:00 to 18:00. -/
def header : Header := ⟨0, ⟨2024, 1, 1⟩, 0, 0x40, Vector.replicate 7 (540, 1080)⟩

/-- A complete bank. -/
def bank : Bank :=
  { rules := Vector.replicate 32 (some rule), matrix := Vector.replicate 64 (some (List.replicate 16 0)),
    categories := Vector.replicate 16 (some category), settings := some ⟨5, .truncate⟩, header := some header,
    closedDates := [], openDates := [] }

/-- The calendar of that bank. -/
def calendar : Calendar := ⟨header, [], []⟩

/-- An ACTIVE, IDLE, unlocked station with nothing in its resolver and its slip queue. -/
def desk : Station :=
  { line := ⟨.active, some 0, [], 3, .ready, false, 6⟩, ctx := .reset 90 false false
    alerts := { Resolver.reset with inService := .empty, shown := (none, 0), hold := false }
    slips := { SlipQueue.reset 600 with faultTimer := none }, tallies := .zero }

/-- A LOADED borrower without block reasons. -/
def reader : Borrower := ⟨2000004171, .loaded, 3, none, none, 0, 1, 0, false, false⟩

/-- The part in service: all stations as `desk`, a complete bank, clock SET, service ONLINE, no alarm. -/
def base : State :=
  { State.reset with
    stations := Vector.replicate 8 desk, borrowers := [reader], badges := [90001234], bankA := bank
    clock := ⟨100, 600, 30, true, false⟩
    service := { Service.reset 4 3 30 .admits with state := .online, linkUp := true }
    mgmt := { Mgmt.reset 5 with
      alarms := ⟨⟨false, true⟩, ⟨false, true⟩, ⟨false, false⟩, ⟨false, true⟩⟩, alarmCond := false, startUp := none } }

/-- `base` with the context of station 0 replaced. -/
def atDesk (f : Ctx → Ctx) : State := base.updCtx 0 f

/-- `base` with the trunk link UP and the service OFFLINE, its probe timer at 0 and a probe outstanding. -/
def offline : State :=
  { base with service := { base.service with state := .offline, probeTimer := some 0, probeOut := true, probeGen := 7 } }

/-- An AWAITING entry of a charge, waiting for the reply to the query of tag 0 and generation 1. -/
def waitingItem : Item :=
  { number := 307123456789, cls := 7, state := .awaiting, waiting := some .reply, query := some (0, 1), parked := none,
    due := none, fine := none, routing := none, decidedBy := none, flags := {}, chargeSeq := none, hourly := false }

/-- Station 0 with an OPEN charge transaction of `reader` and these entries. -/
def charging (items : List Item) : State :=
  atDesk fun c => { c with tx := .opened, kind := some .charge, borrower := some 2000004171, items := items,
                           holding := some .reserved, timer := .running 90 }

/-- The query that `waitingItem` waits for. -/
def question : Question := ⟨0, .chargeRequest, 307123456789, some 2000004171, some 1⟩

/-- Query table entry 0 in a state, with generation 1. -/
def asking (q : QueryState) (s : State) : State := s.setQuery 0 ⟨1, q⟩

/-- A reply to that query. -/
def grantReply : ReplyMsg :=
  { tag := 0, gen := 1, kind := 1, outcome := 2, borrower := digits 10 2000004171, item := digits 12 307123456789,
    category := 0, presence := 0, manual := 0, day := 0, minute := 0, balance := 0, onLoan := 0, overdue := 0, cls := 0,
    reason := 0, hold := 0 }

/-- An upload run with a block of an EMPTY section in hand. -/
def block : Block := ⟨1, 4, .empty, 0, true, none, .empty⟩
def running (r : RunState) : State :=
  { base with upload := { base.upload with run := r, runNumber := 1, slot := 4, sect := some .empty, hand := some block,
                                           attempts := 1, wait := some 0, window := some 0 } }

/-- `s` with every journal page SEALED. -/
def sealed (s : State) : State :=
  { s with journal := { s.journal with pages := s.journal.pages.map fun _ => ⟨.sealed, []⟩ } }

/-- A restart in progress. -/
def restarting : State := { base with mgmt := { base.mgmt with restarting := true } }

/-- Entries for `k` borrowers with rising numbers, none LEARNED; and for `k` items. -/
def crowd (k : Nat) : List Borrower := (List.range k).map fun i => { reader with number := 2000005000 + i }
def manyItems (k : Nat) : List ItemException := (List.range k).map fun i => ⟨300000000000 + i, .missing⟩

/-- The worked calendar of chapter 5, and the one with the closed run of sixteen days. -/
def workedHeader : Header :=
  ⟨1200, ⟨2030, 9, 2⟩, 0, 0x40,
    #v[(540, 1200), (540, 1200), (540, 1200), (540, 1200), (540, 1200), (540, 1080), (600, 960)]⟩
def workedCalendar : Calendar := ⟨workedHeader, [1211, 1221, 1229], []⟩
def gapCalendar : Calendar := { workedCalendar with closedDates := [1211, 1221, 1229] ++ (List.range 16).map (1240 + ·) }

/-! ### What can arrive (WellFormed) -/

theorem test_wf_scan : (Instr.scan 0 card).wf = true := by decide +kernel
theorem test_wf_scan_empty : (Instr.scan 0 []).wf = false := by decide +kernel
theorem test_wf_scan_twenty : (Instr.scan 0 (List.replicate 20 65)).wf = true := by decide +kernel
theorem test_wf_scan_long : (Instr.scan 0 (List.replicate 21 65)).wf = false := by decide +kernel
theorem test_wf_credit : (Instr.headStatus 0 ⟨.ready, false, 9, none⟩).wf = false := by decide +kernel
theorem test_wf_token_zero : (Instr.headStatus 0 ⟨.ready, false, 8, some 0⟩).wf = false := by decide +kernel
theorem test_wf_token_large : (Instr.headStatus 0 ⟨.ready, false, 8, some 65536⟩).wf = false := by decide +kernel
theorem test_wf_discarded : (Instr.deskFrameDiscarded 0 [0x7E, 4, 0, 5]).wf = true := by decide +kernel
theorem test_wf_discarded_attach : (Instr.deskFrameDiscarded 0 [0x7E, 4, 0, 4]).wf = false := by decide +kernel
theorem test_wf_unknown : (Instr.unknownCommand 1 0x13 []).wf = true := by decide +kernel
theorem test_wf_unknown_listed : (Instr.unknownCommand 1 0x10 []).wf = false := by decide +kernel
theorem test_wf_reply_outcome : (Instr.reply { grantReply with outcome := 256 }).wf = false := by decide +kernel
theorem test_wf_reply_day : (Instr.reply { grantReply with day := 65536 }).wf = false := by decide +kernel
theorem test_wf_reply_balance : (Instr.reply { grantReply with balance := 4294967296 }).wf = false := by decide +kernel
theorem test_wf_reply_item : (Instr.reply { grantReply with item := digits 11 0 }).wf = false := by decide +kernel
theorem test_wf_reply_borrower : (Instr.reply { grantReply with borrower := digits 11 0 }).wf = false := by decide +kernel
theorem test_wf_probe : (Instr.probeAnswer 256).wf = false := by decide +kernel
theorem test_wf_receipt_run : (Instr.receipt ⟨65536, 0, 0, .accept⟩).wf = false := by decide +kernel
theorem test_wf_receipt_slot : (Instr.receipt ⟨0, 256, 0, .accept⟩).wf = false := by decide +kernel
theorem test_wf_receipt_block : (Instr.receipt ⟨0, 0, 256, .accept⟩).wf = false := by decide +kernel
theorem test_wf_body (tok : Token) (body : List Byte) (h : 65531 ≤ body.length) :
    (Instr.restart tok body).wf = false := by simp [Instr.wf, commandOf]; omega
theorem test_wf_unknown_body (tok : Token) (body : List Byte) (h : 65531 ≤ body.length) :
    (Instr.unknownCommand tok 0x13 body).wf = false := by simp [Instr.wf]; omega

/-! ### Worked due dates and the worked slip -/

/-- 5.4: the day loan over a closed run, the closed run of sixteen days, and the hour loan carried over Sunday. -/
theorem test_due_days : (computeDue workedCalendar { rule with period := 15 } ⟨1205, 630⟩ none).due = ⟨1222, 1200⟩ := by
  decide +kernel
theorem test_due_expiry :
    (computeDue workedCalendar { rule with period := 15 } ⟨1205, 630⟩ (some 1206)).due = ⟨1205, 1080⟩ := by decide +kernel
theorem test_due_gap : (computeDue gapCalendar { rule with period := 14 } ⟨1226, 700⟩ none).due = ⟨1254, 1439⟩ := by
  decide +kernel
theorem test_due_hours : (computeDue workedCalendar hourRule ⟨1205, 1020⟩ none).due = ⟨1207, 660⟩ := by decide +kernel
/-- 5.5: the worked fine: 7 OPEN days late, 260 under NEAREST_EVEN and 335 under ALL_DAYS. -/
theorem test_fine :
    (computeFine workedCalendar ⟨.days, 15, 25, 2, 500, .openDays⟩ ⟨10, 3, 1000, 384⟩ ⟨5, .nearestEven⟩ ⟨1222, 1200⟩
      ⟨1231, 610⟩).fine = 260 ∧
    (computeFine workedCalendar ⟨.days, 15, 25, 2, 500, .allDays⟩ ⟨10, 3, 1000, 384⟩ ⟨5, .nearestEven⟩ ⟨1222, 1200⟩
      ⟨1231, 610⟩).fine = 335 := by decide +kernel

/-- An entry of the worked slip. -/
def slipItem (number : Nat) (state : ItemState) (due : Time) (by_ : DecidedBy) (hourly : Bool) : Item :=
  { waitingItem with number := number, state := state, waiting := none, query := none, due := some due,
                     decidedBy := some by_, hourly := hourly }

/-- 8.2: the example of composition. -/
def workedSlip : List Text :=
  (Ctx.slipText
    { (base.st 5).ctx with borrower := some 2000004171, firstSeq := some 10401, items :=
      [slipItem 307123456789 .granted ⟨1222, 1200⟩ .online false, slipItem 312000000045 .granted ⟨1207, 660⟩ .fallback true,
       slipItem 363000000017 .void ⟨1222, 1200⟩ .online false,
       slipItem 351000000082 .granted ⟨1212, 1200⟩ .online false] }
    5 17 (some workedHeader) ⟨1205, 1021⟩)
theorem test_slip_text :
    workedSlip =
      [txt "CAB 017 ST 5 2030-09-07 17:01".toList,
       txt "SEQ 0000010401".toList,
       txt "BORROWER ******4171".toList,
       txt "307123456789 2030-09-24".toList,
       txt "312000000045 2030-09-09 11:00 *".toList,
       txt "351000000082 2030-09-14".toList,
       txt "ITEMS 3".toList] := by
  decide +kernel

/-! ### Frames and messages written out from R208 -/

/-- SCAN of the badge 900012347 of 1.4: kind 1, length 9, the digits, the exclusive-or. -/
theorem test_decode_scan :
    decodeDesk 2 [0x7E, 1, 9, 0x39, 0x30, 0x30, 0x30, 0x31, 0x32, 0x33, 0x34, 0x37, 0x32] = some (.scan 2 badge) := by
  decide +kernel
/-- KEY with the third key of 1.1. -/
theorem test_decode_key : decodeDesk 5 [0x7E, 2, 1, 2, 1] = some (.key 5 .ack) := by decide +kernel
/-- HEAD_STATUS: PAPER_OUT, lock key ON, credit 6, printed token 258. -/
theorem test_decode_status : decodeDesk 0 [0x7E, 3, 5, 2, 0, 6, 1, 2, 1] =
    some (.headStatus 0 ⟨.paperOut, true, 6, some 258⟩) := by decide +kernel
theorem test_decode_attach : decodeDesk 7 [0x7E, 4, 0, 4] = some (.attach 7) := by decide +kernel
/-- R1: a wrong check byte, a wrong length, an unknown kind and a credit above 8 are discarded. -/
theorem test_decode_check : decodeDesk 7 [0x7E, 4, 0, 5] = none := by decide +kernel
theorem test_decode_length : decodeDesk 5 [0x7E, 2, 2, 2, 2] = none := by decide +kernel
theorem test_decode_kind : decodeDesk 5 [0x7E, 5, 0, 5] = none := by decide +kernel
theorem test_decode_credit : decodeDesk 0 [0x7E, 3, 5, 0, 1, 9, 0, 0, 14] = none := by decide +kernel
/-- A REPLY GRANT to tag 3, generation 7, for the borrower and the item of 1.4, class 63 present, to cabinet 5. -/
theorem test_decode_reply :
    decodeTrunk 5 ([4, 5, 0, 44, 3, 7, 1, 2] ++ [0x32, 0x30, 0x30, 0x30, 0x30, 0x30, 0x34, 0x31, 0x37, 0x31] ++
      [0x33, 0x30, 0x37, 0x31, 0x32, 0x33, 0x34, 0x35, 0x36, 0x37, 0x38, 0x39] ++
      [0, 4, 0, 0, 0, 0, 0, 0, 0, 0, 0, 0, 0, 0, 0, 63, 0, 0]) =
    some (.reply { grantReply with tag := 3, gen := 7, presence := 4, cls := 63 }) := by decide +kernel
theorem test_decode_probe_answer : decodeTrunk 5 [6, 5, 0, 1, 200] = some (.probeAnswer 200) := by decide +kernel
theorem test_decode_receipt : decodeTrunk 5 [8, 5, 0, 5, 1, 2, 3, 4, 1] = some (.receipt ⟨258, 3, 4, .reject⟩) := by
  decide +kernel
/-- CLOCK_SET (29 hexadecimal) with token 16909060. -/
theorem test_decode_clock_set : decodeTrunk 5 [0, 5, 0, 10, 1, 2, 3, 4, 0x29, 0, 200, 2, 88, 5] =
    some (.clockSet 16909060 [0, 200, 2, 88, 5]) := by decide +kernel
theorem test_decode_unknown : decodeTrunk 5 [0, 5, 0, 5, 0, 0, 0, 9, 0x13] = some (.unknownCommand 9 0x13 []) := by
  decide +kernel
/-- R197: a message for another cabinet, and one whose length field is wrong, are discarded. -/
theorem test_decode_cabinet : decodeTrunk 4 [6, 5, 0, 1, 200] = none := by decide +kernel
theorem test_decode_short : decodeTrunk 5 [6, 5, 0, 2, 200] = none := by decide +kernel
/-- R197, R121, R190: one whose length field is right and whose class wants another length is handed on and matches
nothing. -/
theorem test_decode_other_length :
    (decodeTrunk 5 [6, 5, 0, 2, 200, 0] = some (.probeAnswer 256)) ∧
    ((decodeTrunk 5 [8, 5, 0, 1, 0]).isSome = true) ∧ ((decodeTrunk 5 [4, 5, 0, 1, 0]).isSome = true) := by decide +kernel

/-! ### Worked examples of the manual -/

/-- A command answers exactly this next state. -/
def gives (i : Instr) (s t : State) : Bool :=
  match exec i s with
  | .next u => decide (u = t)
  | _ => false

/-- 1.4: the worked check digits. -/
theorem test_classify_card : classify card = .borrower 2000004171 := by decide +kernel
theorem test_classify_label : classify label = .item 307123456789 7 false := by decide +kernel
theorem test_classify_badge : classify badge = .badge 90001234 := by decide +kernel
/-- R13: class 85 is clamped to 63. -/
theorem test_classify_clamp : classify (digits 13 3850000004129) = .item 385000000412 63 true := by decide +kernel
theorem test_classify_check : classify (digits 11 20000041716) = .badCheck := by decide +kernel
theorem test_classify_form : classify (digits 11 10000041715) = .badForm := by decide +kernel
/-- R189: the check of the characters 123456789. -/
theorem test_crc : crc32 (digits 9 123456789) = 0xCBF43926 := by decide +kernel
/-- R35: CHARGE in IDLE draws tone REFUSE. -/
theorem test_charge_idle : gives (.key 0 .charge) base ((base.heard 0).onlyTone 0 .refuse) = true := by decide +kernel
/-- R124: nothing is sent when the trunk link goes down. -/
theorem test_link_down : gives .trunkLinkDown base ({ base with
    service := { base.service with linkUp := false, state := .offline } }.sending []) = true := by decide +kernel
/-- R122: with the link DOWN a matched reply has no effect, and a stale one is counted all the same. -/
theorem test_reply_down :
    (let s := asking (.waiting question 3) { base with service := State.reset.service }
     gives (.reply grantReply) s (s.sending [])) = true ∧
    gives (.reply grantReply) State.reset ({ State.reset with service := { State.reset.service with
      stats := { State.reset.service.stats with stale := 1 } } }.sending []) = true := by decide +kernel
/-- R190: a receipt that meets no AWAIT_RECEIPT is a mismatch, with the link DOWN too. -/
theorem test_receipt_down : gives (.receipt ⟨0, 0, 0, .accept⟩) State.reset ({ State.reset with
    upload := { State.reset.upload with counts := { State.reset.upload.counts with mismatches := 1 } } }.sending []) =
      true := by decide +kernel
/-- R206, R18: power-on with RETAIN not valid and all straps 0 is the reset state. -/
theorem test_power_on : gives (.powerOn false 0) State.reset State.reset = true := by decide +kernel

/-! ### Witnesses: for every statement with hypotheses, states and operands that meet them -/

theorem witness_StepTakesFrontCommand :
    { base with pending := [.attach 0, .trunkLinkDown] }.pending = Instr.attach 0 :: [.trunkLinkDown] ∧
      base.pending = [] := by decide +kernel
theorem witness_DeskAndServiceKeepRules :
    deskOrService (.scan 0 card) = true ∧ deskOrService (.slipHoldExpiry 0) = true := by decide +kernel
theorem witness_CheckDigitOfEveryForm :
    digitsOf card = some [2, 0, 0, 0, 0, 0, 4, 1, 7, 1, 5] ∧ formOf [2, 0, 0, 0, 0, 0, 4, 1, 7, 1, 5] = some .borrower := by
  decide +kernel

/-- `base` with line 0 in CHECK. -/
def checked : State := base.updLine 0 fun l => { l with link := .check }

/-- `base` with line 0 DETACHED. -/
def detached : State := base.updLine 0 fun l => { l with link := .detached, silence := none, printer := .offline }

theorem witness_FramesOutsideActive :
    validSymbol card = true ∧ validSymbol label = true ∧ (checked.st 0).line.link = .check ∧
      classify card = .borrower 2000004171 ∧ classify label = .item 307123456789 7 false := by decide +kernel
theorem witness_FramesOutsideActive_detached :
    (detached.st 0).line.link = .detached ∧ classify badge = .badge 90001234 ∧ validSymbol badge = true ∧
    detached.badges.contains 90001234 = true ∧ { detached with badges := [] }.badges.contains 90001234 = false ∧
    classify [65] = .badForm ∧ validSymbol [65] = true ∧ (detached.st 0).line.threshold ≠ 1 := by decide +kernel
theorem witness_FramesOutsideActive_status :
    validReport ⟨.offline, false, 8, some 65535⟩ = true ∧ (detached.st 0).line.lockKey = false ∧
    ∃ u, exec (.attach 0) detached = .next u ∧ (u.st 0).slips.order = [] ∧
      ∀ i : Fin 4, (u.st 0).slips.slots[i] = .free :=
  ⟨by decide +kernel, by decide +kernel, _, rfl, by decide +kernel, by decide +kernel⟩

/-- A card with a wrong check digit, a form that is none, and `base` one bad scan short of the threshold of 3. -/
def badScan : Text := digits 11 20000041714
def nearThreshold : State := base.updLine 0 fun l => { l with history := [.bad, .good, .bad] }

theorem witness_ScansCountAndClear :
    validSymbol badge = true ∧ classify badge = .badge 90001234 ∧ ({ base with badges := [] }.st 0).line.link ≠ .detached ∧
    { base with badges := [] }.badges.contains 90001234 = false ∧ (checked.st 0).line.link = .check ∧
    checked.badges.contains 90001234 = true ∧ (checked.st 0).ctx = (checked.st 0).ctx.cleared ∧
    printerFault (checked.st 0).line.printer = false := by decide +kernel
theorem witness_ScansCountAndClear_bad :
    validSymbol badScan = true ∧ classify badScan = .badCheck ∧ classify [65] = .badForm ∧ validSymbol [65] = true ∧
    (base.st 0).line.link ≠ .detached ∧ (base.st 0).line.threshold = 3 ∧ (base.st 0).line.history = [] := by decide +kernel
theorem witness_ScansCountAndClear_threshold :
    (nearThreshold.st 0).line.threshold = 3 ∧ (nearThreshold.st 0).line.history.countP (fun q => decide (q = .bad)) = 2 ∧
    ((nearThreshold.scanned 0 .bad).st 0).line.history.countP (fun q => decide (q = .bad)) = 3 ∧
    (nearThreshold.st 0).alerts.hold = (nearThreshold.st 0).alerts.holds ∧
    ((nearThreshold.updAlerts 0 fun r => { r with autoAck := .empty }).st 0).alerts.autoAck.mem .l7 = false ∧
    (nearThreshold.st 0).alerts.pending = .empty ∧ (nearThreshold.st 0).alerts.inService = .empty ∧
    (nearThreshold.st 0).alerts.mask.mem .l7 = false := by decide +kernel
theorem witness_BorrowerScansInIdle :
    validSymbol card = true ∧ classify card = .borrower 2000004171 ∧ (base.st 0).line.link = .active ∧
    (base.st 0).ctx.tx = .idle ∧ (base.st 0).ctx.locked = false ∧ (base.st 0).slips.freeSlot = some 0 ∧
    (base.st 0).alerts.inService.mem .l0 = false ∧ (base.st 0).alerts.hold = false ∧
    base.borrower? 2000004171 = some reader ∧ reader.origin = .loaded ∧ base.reasons reader = [] := by decide +kernel

/-- `base` with `reader` under manual index 7, and with a LEARNED `reader`; `s` with its query table full. -/
def blocked : State := { base with borrowers := [{ reader with manual := some 7 }] }
def learned : State := { base with borrowers := [{ reader with origin := .learned }] }
def untagged (s : State) : State := { s with queries := Vector.replicate 16 ⟨9, .waiting question 3⟩ }

theorem witness_BorrowerScansInIdle_counted :
    blocked.borrower? 2000004171 = some { reader with manual := some 7 } ∧
    (blocked.reasons { reader with manual := some 7 }).filter
      (fun r => !(blocked.st 0).alerts.mask.mem r.level && (blocked.st 0).alerts.holdSet.mem r.level) = [.manual] ∧
    (blocked.st 0).alerts.pending = .empty ∧ (blocked.st 0).alerts.inService = .empty ∧
    (∀ r ∈ BlockReason.all, (blocked.st 0).alerts.autoAck.mem r.level = false) ∧
    (blocked.st 0).alerts.hold = false ∧ (blocked.st 0).ctx.tx = .idle ∧ (blocked.st 0).slips.freeSlot = some 0 := by
  decide +kernel
theorem witness_BorrowerScansInIdle_asks :
    learned.borrower? 2000004171 = some { reader with origin := .learned } ∧ learned.service.state ≠ .offline ∧
    learned.freeTag = some 0 ∧ (untagged learned).freeTag = none ∧
    (untagged learned).borrower? 2000004171 = some { reader with origin := .learned } ∧
    learned.reasons { reader with origin := .learned } = [] ∧ { base with borrowers := [] }.borrower? 2000004171 = none := by
  decide +kernel

/-- The service OFFLINE and no borrower known, under a stranger policy. -/
def unknown (p : Policy) : State :=
  { base with borrowers := [], service := { offline.service with policy := p } }

/-- Station 0 LOCKED by COMMAND in a transaction state. -/
def lockedIn (tx : TxState) : State := atDesk fun c => { c with tx := tx, lockCommand := true }

theorem witness_LockedStationRefusesScans :
    validSymbol card = true ∧ validSymbol label = true ∧ classify card = .borrower 2000004171 ∧
    classify label = .item 307123456789 7 false ∧
    (∀ tx ∈ [TxState.idle, .opened, .returns], ((lockedIn tx).st 0).line.link = .active ∧
      ((lockedIn tx).st 0).ctx.locked = true ∧ ((lockedIn tx).st 0).ctx.tx = tx) ∧
    ((lockedIn .opened).st 0).ctx.holdsItem 307123456789 = false := by decide +kernel

/-- An OPEN charge transaction while the service is OFFLINE. -/
def chargingOffline : State := { charging [] with service := offline.service }

theorem witness_ChargesByCase :
    validSymbol label = true ∧ classify label = .item 307123456789 7 false ∧
    (∀ s ∈ [chargingOffline, charging [], untagged (charging [])],
      (s.st 0).line.link = .active ∧ (s.st 0).ctx.tx = .opened ∧ (s.st 0).ctx.kind = some .charge ∧
      (s.st 0).ctx.borrower = some 2000004171 ∧ (s.st 0).ctx.locked = false ∧
      (s.st 0).ctx.holdsItem 307123456789 = false ∧ (s.st 0).ctx.items.length < 12 ∧ (s.st 0).ctx.awaiting < 4 ∧
      (s.st 0).alerts.hold = false ∧ s.exception? 307123456789 = none ∧
      s.borrower? 2000004171 = some reader ∧ s.category? reader.category = some category ∧
      reader.onLoan + ((s.st 0).ctx.items.filter Item.waitsReply).length < category.itemsLimit ∧
      s.activeBank.calendar? = some calendar ∧ s.ruleIndex? 7 reader.category = some 0 ∧ s.rule? 0 = some rule ∧
      s.journal.filling? = some 0 ∧ s.journal.pages[(0 : Fin 128)].records.length < 62 ∧ s.evalJournal = s ∧
      s.mgmt.alarms.holds = s.mgmt.alarmCond ∧ s.loans.length < 512) ∧
    chargingOffline.service.state = .offline ∧ (charging []).service.state ≠ .offline ∧
    (charging []).freeTag = some 0 ∧ (untagged (charging [])).freeTag = none := by decide +kernel
/-- The same transaction with no FILLING page: the rest of the hypotheses read no page. -/
theorem witness_ChargesByCase_full :
    (sealed chargingOffline).journal.filling? = none ∧ sealed chargingOffline = { chargingOffline with
      journal := (sealed chargingOffline).journal } := ⟨by decide +kernel, rfl⟩

/-- What makes a page ready for a record, as one check. -/
def readyFor (s : State) (p : Fin 128) : Bool :=
  decide (s.journal.filling? = some p) && decide (s.journal.pages[p].records.length < 63) &&
    decide (s.journal.isFull = s.mgmt.alarms.journalFull.active) &&
    decide (s.journal.isLow = s.mgmt.alarms.journalLow.active) && decide (s.mgmt.alarms.holds = s.mgmt.alarmCond)

theorem ready_of {s : State} {p : Fin 128} (h : readyFor s p = true) : s.ready p := by
  simp only [readyFor, Bool.and_eq_true, decide_eq_true_eq] at h
  obtain ⟨⟨⟨⟨hp, hr⟩, hf⟩, hl⟩, hc⟩ := h
  exact ⟨hp, hr, State.evalJournal_settled hf hl, hc⟩

theorem witness_BorrowerScansInIdle_stranger :
    ∀ p ∈ [Policy.admits, .refuse],
      (unknown p).borrower? 2000004171 = none ∧ (unknown p).service.state = .offline ∧ (unknown p).service.policy = p ∧
      ((unknown p).st 0).ctx = ((unknown p).st 0).ctx.cleared ∧ (∀ k : Fin 4, ((unknown p).st 0).slips.slots[k] ≠ .reserved) ∧
      ((unknown p).st 0).alerts.staged = none ∧ readyFor (unknown p) 0 = true ∧ (unknown p).borrowers.length < 4096 ∧
      (unknown p).reasons ⟨2000004171, .provisional, 15, none, none, 0, 0, 0, true, false⟩ = [] ∧
      (sealed (unknown p)).journal.filling? = none ∧
      (sealed (unknown p)).mgmt.alarms.holds = (sealed (unknown p)).mgmt.alarmCond := by decide +kernel

/-- `s` with an exception entry for the item of 1.4; `charging` with `reader` at the loan limit of its category. -/
def excepted (s : State) (k : ExceptionKind) : State := { s with exceptions := [⟨307123456789, k⟩] }
def atLimit : State := { charging [] with borrowers := [{ reader with onLoan := 10 }] }

theorem witness_ChargesByCase_exceptions :
    (∀ k ∈ [ExceptionKind.reference, .withdrawn, .hold 2000005000, .hold 2000004171, .missing],
      (excepted (charging []) k).exception? 307123456789 = some k ∧ readyFor (excepted (charging []) k) 0 = true ∧
      (excepted chargingOffline k).exception? 307123456789 = some k) ∧ (2000005000 : Nat) ≠ 2000004171 ∧
    ∀ l ∈ [Level.l5, .l6], ((charging []).st 0).alerts.pending = .empty ∧ ((charging []).st 0).alerts.inService = .empty ∧
      ((charging []).st 0).alerts.mask.mem l = false ∧
      (((charging []).updAlerts 0 fun r => { r with autoAck := .empty }).st 0).alerts.autoAck.mem l = false := by
  decide +kernel
theorem witness_ChargesByCase_limit :
    atLimit.borrower? 2000004171 = some { reader with onLoan := 10 } ∧ atLimit.category? reader.category = some category ∧
    category.itemsLimit ≤ 10 + ((atLimit.st 0).ctx.items.filter Item.waitsReply).length ∧
    (atLimit.st 0).alerts.mask.mem .l5 = false ∧ (atLimit.st 0).alerts.holdSet.mem .l5 = true ∧
    (atLimit.st 0).alerts.autoAck.mem .l5 = false ∧ (atLimit.st 0).alerts.hold = false ∧
    ((atLimit.updAlerts 0 fun r => { r with mask := LevelSet.empty.insert .l5 }).st 0).alerts.mask.mem .l5 = true ∧
    atLimit.service.state ≠ .offline ∧ atLimit.freeTag = some 0 := by decide +kernel

/-- Station 0 with an open discharge run; `s` with the item of 1.4 on loan. -/
def returning : State := atDesk fun c =>
  { c with tx := .returns, kind := some .discharge, holding := some .slipless, timer := .running 90 }
def lent (s : State) : State := { s with loans := [⟨307123456789, 2000004171, ⟨90, 600⟩, 0, 3⟩] }

theorem witness_DischargesByCase :
    validSymbol label = true ∧ classify label = .item 307123456789 7 false ∧
    (∀ s ∈ [lent returning, lent base, { returning with service := offline.service }, returning],
      (s.st 0).line.link = .active ∧ (s.st 0).alerts.hold = false ∧ s.exception? 307123456789 = none ∧
      readyFor s 0 = true) ∧
    (returning.st 0).ctx.tx = .returns ∧ (returning.st 0).ctx.kind = some .discharge ∧
    (returning.st 0).ctx.holdsItem 307123456789 = false ∧ (returning.st 0).ctx.items.length < 12 ∧
    (returning.st 0).ctx.awaiting < 4 ∧ (base.st 0).ctx.tx = .idle ∧ (base.st 0).ctx = (base.st 0).ctx.cleared ∧
    (base.st 0).alerts.inService.mem .l0 = false := by decide +kernel
theorem witness_DischargesByCase_each :
    (lent base).loan? 307123456789 = some ⟨307123456789, 2000004171, ⟨90, 600⟩, 0, 3⟩ ∧ (lent base).canFine = true ∧
    ((lent base).fineFrom 0 3 ⟨90, 600⟩ (lent base).now).isSome = true ∧ base.loan? 307123456789 = none ∧
    offline.service.state = .offline ∧ base.service.state ≠ .offline ∧ base.freeTag = some 0 := by decide +kernel
theorem witness_DischargesByCase_full :
    ∀ s ∈ [sealed (lent returning), sealed (lent base)], s.journal.filling? = none ∧
      s.mgmt.alarms.holds = s.mgmt.alarmCond ∧ (s.loan? 307123456789).isSome = true := by decide +kernel

theorem witness_DischargesByCase_untagged :
    (untagged returning).freeTag = none ∧ (untagged returning).service.state ≠ .offline ∧
    (untagged returning).loan? 307123456789 = none ∧ (untagged returning).exception? 307123456789 = none ∧
    readyFor (untagged returning) 0 = true ∧ (untagged base).freeTag = none ∧ readyFor (untagged base) 0 = true := by
  decide +kernel
/-- A discharge run OFFLINE with an exception entry for the item, at a station that acknowledges nothing itself. -/
def returnsExcepted (k : ExceptionKind) : State :=
  excepted (({ returning with service := offline.service }).updAlerts 0 fun r => { r with autoAck := .empty }) k
theorem witness_DischargesByCase_exceptions :
    ∀ k ∈ [ExceptionKind.reference, .withdrawn, .hold 2000005000, .missing],
      readyFor (returnsExcepted k) 0 = true ∧ (returnsExcepted k).journal.pages[(0 : Fin 128)].records.length < 62 ∧
      (returnsExcepted k).exception? 307123456789 = some k ∧ (returnsExcepted k).loan? 307123456789 = none ∧
      (returnsExcepted k).service.state = .offline ∧ ((returnsExcepted k).st 0).alerts.pending = .empty ∧
      ((returnsExcepted k).st 0).alerts.inService = .empty ∧ ((returnsExcepted k).st 0).alerts.mask.mem .l6 = false ∧
      ((returnsExcepted k).st 0).alerts.autoAck.mem .l6 = false ∧ ((returnsExcepted k).st 0).alerts.hold = false ∧
      ((returnsExcepted k).st 0).ctx.tx = .returns := by decide +kernel

/-- Station 0 in a transaction state. -/
def standing (tx : TxState) : State := atDesk fun c => { c with tx := tx }

theorem witness_ChargeKeyByState :
    ((charging [waitingItem]).st 0).line.link = .active ∧ ((charging [waitingItem]).st 0).ctx.tx = .opened ∧
    ((charging [waitingItem]).st 0).ctx.awaiting ≠ 0 ∧ ((charging []).st 0).line.link = .active ∧
    ((charging []).st 0).ctx.tx = .opened ∧ ((charging []).st 0).ctx.awaiting = 0 ∧
    ((charging []).st 0).ctx.next = .none ∧
    ∀ tx ∈ [TxState.idle, .checking, .returns, .held, .closing],
      ((standing tx).st 0).line.link = .active ∧ ((standing tx).st 0).ctx.tx = tx := by decide +kernel

/-- Entries of a charge that are GRANTED, REFUSED and VOID. -/
def grantedItem : Item := { waitingItem with state := .granted, waiting := none, query := none, chargeSeq := some 3 }
def refusedItem : Item := { grantedItem with state := .refused, chargeSeq := none }
def voidItem : Item := { refusedItem with state := .void }

/-- An OPEN charge with these entries, slot 2 RESERVED for its slip and a credit view of k. -/
def closingSoon (items : List Item) (k : Nat) : State :=
  ((charging items).updSlips 0 fun q => { q with slots := q.slots.set 2 .reserved }).updLine 0 fun l => { l with credit := k }

theorem witness_ChargeKeyByState_slip :
    ∀ items ∈ [[grantedItem], [refusedItem, voidItem]],
      ((closingSoon items 0).st 0).line.link = .active ∧ ((closingSoon items 0).st 0).ctx.tx = .opened ∧
      ((closingSoon items 0).st 0).ctx.awaiting = 0 ∧ ((closingSoon items 0).st 0).ctx.next = .none ∧
      ((closingSoon items 0).st 0).ctx.holding = some .reserved ∧
      ((closingSoon items 0).st 0).slips.slots[(2 : Fin 4)] = .reserved ∧
      (∀ k : Fin 4, k ≠ 2 → ((closingSoon items 0).st 0).slips.slots[k] ≠ .reserved) ∧
      ((closingSoon items 0).st 0).line.credit = 0 := by decide +kernel

theorem witness_ReturnAndCancelKeys :
    (∀ tx ∈ [TxState.idle, .checking, .returns, .held, .closing],
      ((standing tx).st 0).line.link = .active ∧ ((standing tx).st 0).ctx.tx = tx) ∧
    (base.st 0).slips.freeSlot = some 0 ∧
    ((base.updSlips 0 fun q => { q with slots := Vector.replicate 4 (.queued []) }).st 0).slips.freeSlot = none ∧
    (returning.st 0).ctx.awaiting = 0 ∧ (returning.st 0).ctx.next = .none ∧
    ((returning.updCtx 0 fun c => { c with items := [waitingItem] }).st 0).ctx.awaiting ≠ 0 ∧
    ((charging [waitingItem]).st 0).ctx.awaiting ≠ 0 ∧ ((charging []).st 0).ctx.awaiting = 0 ∧
    (∀ y ∈ [voidItem], y.state = .void) := by decide +kernel
theorem witness_ReturnAndCancelKeys_cancel :
    ((charging [grantedItem, voidItem]).st 0).ctx.items = [] ++ grantedItem :: [voidItem] ∧
    grantedItem.state = .granted ∧ readyFor (lent (charging [grantedItem, voidItem])) 0 = true ∧
    ((charging [grantedItem, voidItem]).st 0).ctx.borrower = some 2000004171 ∧
    (charging [grantedItem, voidItem]).borrower? 2000004171 = some reader ∧ grantedItem.chargeSeq = some 3 ∧
    refusedItem.state = .refused ∧ waitingItem.state = .awaiting ∧ waitingItem.waiting = some .reply ∧
    waitingItem.query = some (0, (asking (.waiting question 1) (charging [waitingItem])).queries[(0 : Tag)].gen) ∧
    (asking (.waiting question 1) (charging [waitingItem])).queries[(0 : Tag)].state = .waiting question 1 := by
  decide +kernel
/-- An entry that waits for OVERRIDE, alone and after another one. -/
def heldItem : Item := { waitingItem with waiting := some .override, query := none }
theorem witness_ReturnAndCancelKeys_override :
    ((charging [heldItem]).st 0).ctx.items = [] ++ heldItem :: [] ∧ heldItem.state = .awaiting ∧
    heldItem.waiting = some .override ∧ heldItem.query = none ∧ ((charging [heldItem]).st 0).alerts.hold = false ∧
    ((charging [heldItem, heldItem]).st 0).ctx.items = [heldItem] ++ heldItem :: [] ∧
    ((charging [heldItem, heldItem]).st 0).ctx.tx = .opened := by decide +kernel
theorem witness_ReturnAndCancelKeys_full :
    ((sealed (charging [grantedItem])).st 0).ctx.items = [] ++ grantedItem :: [] ∧
    (sealed (charging [grantedItem])).journal.filling? = none ∧
    (sealed (charging [grantedItem])).mgmt.alarms.holds = (sealed (charging [grantedItem])).mgmt.alarmCond := by decide +kernel

/-- Station 0 with one notice level in service. -/
def noticed (l : Level) : State := base.updAlerts 0 fun r => { r with inService := LevelSet.empty.insert l }

theorem witness_AcknowledgeEndsNotice :
    ∀ l ∈ [Level.l6, .l7], ((noticed l).st 0).line.link = .active ∧ ((noticed l).st 0).alerts.hold = false ∧
      ((noticed l).st 0).ctx.tx ≠ .closing ∧ ((noticed l).st 0).alerts.pending = .empty ∧
      ((noticed l).st 0).alerts.inService = LevelSet.empty.insert l := by decide +kernel

/-- Station 0 HELD from CHECKING by level l in service. -/
def heldBy (l : Level) : State :=
  ((charging []).updCtx 0 fun c => { c with tx := .held, interrupted := some .checking, timer := .gated 90,
                                            outstanding := [.manual, .limit] }).updAlerts 0 fun r =>
    { r with inService := LevelSet.empty.insert l, hold := true }

theorem witness_BlockLevelEndings :
    (∀ l ∈ [Level.l1, .l2, .l3, .l4, .l5], ((heldBy l).st 0).line.link = .active ∧
      ((heldBy l).st 0).alerts.displayed = some l ∧ ((heldBy l).st 0).alerts.pending = .empty ∧
      l.reason?.isSome = true ∧ ((heldBy l).st 0).alerts.origin ≠ some .item ∧
      ((heldBy l).st 0).alerts.holdSet.mem l = true ∧
      ((heldBy l).st 0).alerts.inService = LevelSet.empty.insert l) ∧
    ((heldBy .l1).st 0).ctx.kind = some .charge ∧ readyFor (heldBy .l1) 0 = true ∧
    validSymbol badge = true ∧ classify badge = .badge 90001234 ∧ (heldBy .l1).badges.contains 90001234 = true ∧
    ((heldBy .l1).st 0).alerts.hold = true ∧ ((heldBy .l1).st 0).ctx.tx = .held ∧
    ((heldBy .l1).st 0).ctx.interrupted = some .checking ∧ ((heldBy .l1).st 0).ctx.items = [] := by decide +kernel
theorem witness_BlockLevelEndings_full :
    (sealed (heldBy .l5)).journal.filling? = none ∧
    (sealed (heldBy .l5)).mgmt.alarms.holds = (sealed (heldBy .l5)).mgmt.alarmCond ∧
    ((sealed (heldBy .l5)).st 0).alerts.hold = true := by decide +kernel

theorem witness_HeadStatusWithoutSlips :
    validReport ⟨.ready, false, 8, some 65535⟩ = true ∧ validReport ⟨.ready, false, 0, none⟩ = true ∧
    (base.st 0).line.link ≠ .detached ∧ (base.st 0).line.printer = .ready ∧ (base.st 0).line.lockKey = false ∧
    (base.st 0).slips.order = [] ∧
    ∀ i : Fin 4, (base.st 0).slips.slots[i] = .free ∨ (base.st 0).slips.slots[i] = .reserved := by decide +kernel
/-- The same report with the lock key ON, at a station that COMMAND keeps LOCKED and at one that it does not. -/
theorem witness_HeadStatusWithoutSlips_key :
    ((atDesk fun c => { c with lockCommand := true }).st 0).line.lockKey = false ∧ readyFor base 0 = true ∧
    ({ (base.st 0).ctx with lockKeySrc := true } : Ctx).locked ≠ (base.st 0).ctx.locked ∧
    ({ ((atDesk fun c => { c with lockCommand := true }).st 0).ctx with lockKeySrc := true } : Ctx).locked =
      ((atDesk fun c => { c with lockCommand := true }).st 0).ctx.locked := by decide +kernel

/-- Station 0 with one slip, in slot 1, token counter 65535 and last printed token 4. -/
def slipped (x : Slot) : State :=
  base.updSlips 0 fun q => { q with slots := q.slots.set 1 x, order := [1], token := 65535, lastPrinted := some 4 }
/-- A text of two lines. -/
def twoLines : List Text := [digits 1 1, digits 1 2]

theorem witness_SlipPrinting :
    (∀ x ∈ [Slot.queued twoLines, .printing twoLines 5 2 false 2, .printing twoLines 5 1 false 0, .interrupted twoLines 5],
      ((slipped x).st 0).line.link ≠ .detached ∧ ((slipped x).st 0).line.lockKey = false ∧
      ((slipped x).st 0).slips.order = [1] ∧ ((slipped x).st 0).slips.slots[(1 : Fin 4)] = x ∧
      (∀ k : Fin 4, k ≠ 1 → ((slipped x).st 0).slips.slots[k] = .free) ∧
      ((slipped x).st 0).slips.token ≤ 65535 ∧ ((slipped x).st 0).ctx.tx ≠ .closing ∧
      ((slipped x).st 0).line.printer = .ready ∧ ((slipped x).st 0).slips.lastPrinted = some 4) ∧
    validReport ⟨.ready, false, 8, some 4⟩ = true ∧ validReport ⟨.ready, false, 0, some 5⟩ = true ∧
    validReport ⟨.jam, false, 0, some 4⟩ = true ∧ printerFault .jam = true ∧ printerFault .ready = false ∧
    twoLines ≠ [] := by decide +kernel
theorem witness_SlipPrinting_tokens :
    (Slot.printing twoLines 5 2 false 2).token? = some 5 ∧ 2 = (streamed twoLines false).length ∧
    3 = (streamed twoLines true).length ∧
    printerFault (((slipped (.interrupted twoLines 5)).updLine 0 fun l => { l with printer := .jam }).st 0).line.printer =
      true ∧
    ((slipped (.queued twoLines)).st 0).slips.reported = false ∧
    (((slipped (.queued twoLines)).updSlips 0 fun q => { q with lastPrinted := none, reported := true }).st 0).slips.reported =
      true ∧
    validReport ⟨.ready, false, 8, some 65535⟩ = true ∧ 2 - 1 = min 8 ((streamed twoLines false).length - 1) := by
  decide +kernel

/-- `s` with the silence timer of line 0 at its limit. -/
def silent (s : State) : State := s.updLine 0 fun l => { l with silence := some 3 }

theorem witness_AttachAndSilence :
    ((silent (charging [waitingItem])).st 0).line.link ≠ .detached ∧
    ((silent (charging [waitingItem])).st 0).line.silence = some 3 ∧
    ((silent (charging [waitingItem])).st 0).line.link = .active ∧
    ((silent (charging [waitingItem])).st 0).ctx.tx ≠ .idle := by decide +kernel

/-- Station 0 with slot 2 RESERVED, an entry GRANTED and one whose query of tag 0 waits; the same with nothing owed. -/
def losing (items : List Item) : State :=
  (asking (.waiting question 3) (charging items)).updSlips 0 fun q => { q with slots := q.slots.set 2 .reserved }
theorem witness_AttachAndSilence_idle :
    ((silent base).st 0).line.link = .active ∧ ((silent base).st 0).ctx.tx = .idle ∧
    ((silent base).st 0).ctx = ((silent base).st 0).ctx.cleared ∧ ((silent base).st 0).alerts.autoAck.mem .l0 = false ∧
    ((silent base).st 0).alerts.staged = none := by decide +kernel
theorem witness_AttachAndSilence_lost :
    (∀ items ∈ [[grantedItem, waitingItem], [waitingItem]],
      ((silent (losing items)).st 0).line.link = .active ∧ ((silent (losing items)).st 0).ctx.tx ≠ .idle ∧
      (silent (losing items)).queries[(0 : Tag)] = ⟨1, .waiting question 3⟩ ∧
      waitingItem ∈ ((silent (losing items)).st 0).ctx.items ∧ ((silent (losing items)).st 0).ctx.holding = some .reserved ∧
      ((silent (losing items)).st 0).slips.slots[(2 : Fin 4)] = .reserved ∧
      (∀ k : Fin 4, k ≠ 2 → ((silent (losing items)).st 0).slips.slots[k] ≠ .reserved) ∧
      readyFor (silent (losing items)) 0 = true ∧ ((silent (losing items)).st 0).alerts.staged = none) ∧
    waitingItem.query = some (0, 1) ∧ grantedItem.state = .granted ∧
    ((losing []).st 0).alerts.autoAck.mem .l0 = false := by decide +kernel

/-- `s` with the transaction timer of station 0 run out. -/
def timedOut (s : State) : State := s.updCtx 0 fun c => { c with timer := .running 0 }

theorem witness_TimerExpiryCloses :
    ((timedOut (charging [waitingItem])).st 0).ctx.tx = .opened ∧
    ((timedOut (charging [waitingItem])).st 0).ctx.timer = .running 0 ∧
    ((timedOut (charging [waitingItem])).st 0).ctx.awaiting ≠ 0 ∧
    ((timedOut (standing .returns)).st 0).ctx.tx = .returns ∧
    ((timedOut (standing .returns)).st 0).ctx.timer = .running 0 ∧
    ((timedOut (standing .returns)).st 0).ctx.awaiting = 0 ∧ ((timedOut (standing .returns)).st 0).ctx.next = .none := by
  decide +kernel
theorem witness_TimerExpiryCloses_slip :
    (∀ k ∈ [0, 1], ((timedOut (closingSoon [grantedItem] k)).st 0).ctx.timer = .running 0 ∧
      ((timedOut (closingSoon [grantedItem] k)).st 0).ctx.awaiting = 0 ∧
      ((timedOut (closingSoon [grantedItem] k)).st 0).slips.slots[(2 : Fin 4)] = .reserved ∧
      ((timedOut (closingSoon [grantedItem] k)).st 0).slips.order = [] ∧
      printerFault ((timedOut (closingSoon [grantedItem] k)).st 0).line.printer = false ∧
      ((timedOut (closingSoon [grantedItem] k)).st 0).line.credit = k) ∧
    grantedItem.state = .granted ∧
    ((timedOut returning).st 0).ctx.holding = some .slipless ∧ ((timedOut returning).st 0).ctx.timer = .running 0 ∧
    (∀ k : Fin 4, ((timedOut returning).st 0).slips.slots[k] ≠ .reserved) ∧
    (((timedOut returning).updLine 0 fun l => { l with credit := 0 }).st 0).line.credit = 0 := by decide +kernel

/-- Station 0 in a jam that has lasted the hold time, with a slip QUEUED in slot 1 behind one INTERRUPTED in slot 2. -/
def jammed : State :=
  (base.updLine 0 fun l => { l with printer := .jam }).updSlips 0 fun q =>
    { q with slots := (q.slots.set 1 (.queued [digits 1 5])).set 2 (.interrupted twoLines 7), order := [2, 1]
             faultTimer := some 600 }

theorem witness_HoldExpiryDiscardsSlip :
    (jammed.st 0).slips.order = [2, 1] ∧ (jammed.st 0).slips.slots[(1 : Fin 4)].discardable = true ∧
    (jammed.st 0).slips.slots[(2 : Fin 4)].discardable = true ∧ (jammed.st 0).slips.slots[(2 : Fin 4)].token? = some 7 ∧
    (jammed.st 0).slips.faultTimer = some 600 ∧ (jammed.st 0).slips.holdTime ≤ 600 ∧
    printerFault (jammed.st 0).line.printer = true := by decide +kernel
theorem witness_HoldExpiryDiscardsSlip_records :
    readyFor jammed 0 = true ∧ jammed.journal.pages[(0 : Fin 128)].records.length + 2 < 64 ∧
    (jammed.st 0).slips.order.Nodup ∧ (sealed jammed).journal.filling? = none ∧
    (sealed jammed).mgmt.alarms.holds = (sealed jammed).mgmt.alarmCond := by decide +kernel
theorem witness_StaleRepliesAndLingerEnd :
    grantReply.tag = (0 : Tag).val ∧ base.queries[(0 : Tag)].state = .free ∧ base.service.linkUp = true ∧
    (base.setQuery 0 ⟨2, .waiting question 3⟩).queries[(0 : Tag)].gen ≠ grantReply.gen ∧
    { (asking (.waiting question 3) base) with service := State.reset.service }.service.linkUp = false ∧
    (replyOutcome? grantReply).isSome = true ∧ (asking (.waiting question 3) base).queries[(0 : Tag)].gen = grantReply.gen ∧
    (asking (.waiting question 3) base).queries[(0 : Tag)].state = .waiting question 3 ∧
    { grantReply with kind := 2 }.kind ≠ 1 ∧ plainNumber 12 3 (digits 12 307123456780) ≠ some question.target ∧
    (asking (.lapsed question 0 .void) base).queries[(0 : Tag)].state = .lapsed question 0 .void := by decide +kernel

/-- The query of `waitingItem` at the server, for a charge and for a discharge. -/
def askedCharge : State := asking (.waiting question 3) (charging [waitingItem])
def returnQuestion : Question := { question with kind := .dischargeRequest, borrower := none }
def askedReturn : State :=
  asking (.waiting returnQuestion 3) (returning.updCtx 0 fun c => { c with items := [waitingItem] })
/-- The query of a borrower check at the server. -/
def lookupQuestion : Question := ⟨0, .borrowerLookup, 2000004171, none, none⟩
def askedLookup : State :=
  asking (.waiting lookupQuestion 3) ((charging []).updCtx 0 fun c =>
    { c with tx := .checking, lookup := some (0, 1), timer := .stopped })

theorem witness_ItemRepliesDecide :
    grantReply.tag = (0 : Tag).val ∧ plainNumber 12 3 grantReply.item = some question.target ∧
    plainNumber 10 2 grantReply.borrower = some 2000004171 ∧ waitingItem.state = .awaiting ∧
    waitingItem.query = some (0, 1) ∧ question.position = some (0 + 1) ∧
    (∀ s ∈ [askedCharge, askedReturn], s.service.linkUp = true ∧ s.service.state = .online ∧
      s.queries[(0 : Tag)].gen = 1 ∧ s.entry 0 0 = some waitingItem ∧ readyFor s 0 = true ∧
      (s.st 0).alerts.hold = false) ∧
    askedCharge.queries[(0 : Tag)].state = .waiting question 3 ∧ question.kind = .chargeRequest ∧
    askedReturn.queries[(0 : Tag)].state = .waiting returnQuestion 3 ∧ returnQuestion.kind = .dischargeRequest ∧
    ((askedCharge.updAlerts 0 fun r => { r with hold := true }).st 0).alerts.hold = true := by decide +kernel
theorem witness_ItemRepliesDecide_each :
    (askedCharge.st 0).ctx.kind = some .charge ∧ (askedCharge.st 0).ctx.tx = .opened ∧
    grantReply.presence.getLsbD 2 = false ∧ askedCharge.exception? 307123456789 = none ∧
    (askedCharge.st 0).ctx.borrower = some 2000004171 ∧ askedCharge.borrower? 2000004171 = some reader ∧
    askedCharge.activeBank.calendar? = some calendar ∧ askedCharge.ruleIndex? 7 3 = some 0 ∧
    askedCharge.rule? 0 = some rule ∧ (askedReturn.st 0).ctx.kind = some .discharge ∧
    (askedReturn.st 0).ctx.tx = .returns ∧ askedReturn.canFine = true ∧ askedReturn.ruleIndex? 63 3 = some 0 ∧
    (askedReturn.fineFrom 0 3 ⟨99, 1439⟩ askedReturn.now).isSome = true := by decide +kernel
theorem witness_LookupRepliesDecide :
    askedLookup.service.linkUp = true ∧ askedLookup.service.state = .online ∧
    askedLookup.queries[(0 : Tag)].state = .waiting lookupQuestion 3 ∧ askedLookup.queries[(0 : Tag)].gen = 1 ∧
    plainNumber 10 2 grantReply.borrower = some 2000004171 ∧ (askedLookup.st 0).ctx.lookup = some (0, 1) ∧
    (askedLookup.st 0).ctx.borrower = some 2000004171 ∧ (askedLookup.st 0).ctx.tx = .checking ∧
    (askedLookup.st 0).ctx.kind = some .charge ∧ (askedLookup.st 0).alerts.hold = false ∧
    askedLookup.borrower? 2000004171 = some reader ∧ reader.origin = .loaded ∧ askedLookup.reasons reader = [] ∧
    { askedLookup with borrowers := [] }.borrower? 2000004171 = none ∧
    { askedLookup with borrowers := [] }.reasons { reader with origin := .learned, onLoan := 0, category := 0 } = [] ∧
    readyFor { askedLookup with borrowers := [] } 0 = true := by decide +kernel
theorem witness_LateRepliesAreCompared :
    grantReply.tag = (0 : Tag).val ∧ grantReply.gen = (asking (.lapsed question 2 .grant) base).queries[(0 : Tag)].gen ∧
    (∀ d ∈ [LapseDecision.grant, .void], (asking (.lapsed question 2 d) base).queries[(0 : Tag)].state =
      .lapsed question 2 d) ∧
    question.kind = .chargeRequest ∧ plainNumber 12 3 grantReply.item = some question.target ∧
    (asking (.lapsed question 2 .grant) base).service.state = .online ∧ base.service.linkUp = true ∧
    returnQuestion.kind = .dischargeRequest ∧ lookupQuestion.kind = .borrowerLookup ∧
    plainNumber 10 2 grantReply.borrower = some lookupQuestion.target ∧
    readyFor (asking (.lapsed lookupQuestion 2 .admitted) base) 0 = true ∧
    { base with clock := State.reset.clock }.canFine = false ∧
    (sealed (asking (.lapsed question 2 .grant) base)).journal.filling? = none ∧
    (sealed base).mgmt.alarms.holds = (sealed base).mgmt.alarmCond := by decide +kernel

/-- A late ON_LOAN against FINE_PENDING whose fine is above 0, and one whose fine is 0. -/
def lateReturn : State := asking (.lapsed returnQuestion 2 (.finePending ⟨100, 600⟩)) base
theorem witness_LateRepliesAreCompared_fine :
    lateReturn.queries[(0 : Tag)].state = .lapsed returnQuestion 2 (.finePending ⟨100, 600⟩) ∧ lateReturn.canFine = true ∧
    plainNumber 10 2 grantReply.borrower = some 2000004171 ∧ lateReturn.ruleIndex? (min 7 63) 3 = some 0 ∧
    (lateReturn.fineFrom 0 3 ⟨90, 600⟩ ⟨100, 600⟩).map (fun f => decide (0 < f.fine)) = some true ∧
    (lateReturn.fineFrom 0 3 ⟨110, 600⟩ ⟨100, 600⟩).map (·.fine) = some 0 ∧ readyFor lateReturn 0 = true ∧
    (sealed lateReturn).journal.filling? = none ∧
    (sealed lateReturn).mgmt.alarms.holds = (sealed lateReturn).mgmt.alarmCond := by decide +kernel
theorem witness_LateRepliesAreCompared_found :
    base.borrower? lookupQuestion.target = some reader ∧ reader.origin = .loaded ∧
    learned.borrower? lookupQuestion.target = some { reader with origin := .learned } ∧
    { base with borrowers := [] }.borrower? lookupQuestion.target = none ∧ base.borrowers.length < 4096 ∧
    reader.changed = false ∧ reader.inFlight = false := by decide +kernel

/-- A query that has lost patience while its entry's station is held. -/
def impatient : State :=
  asking (.waiting question 0)
    { (charging [waitingItem]).updAlerts 0 (fun r => { r with hold := true }) with service := offline.service }

theorem witness_PatienceExpiryLapses :
    (impatient.st question.station).ctx.tx ≠ .closing ∧ (impatient.st question.station).ctx.next = .none ∧
    impatient.queries[(0 : Tag)].state = .waiting question 0 ∧ question.kind = .chargeRequest ∧
    question.position = some (0 + 1) ∧ impatient.entry question.station 0 = some waitingItem ∧
    waitingItem.state = .awaiting ∧ waitingItem.query = some (0, impatient.queries[(0 : Tag)].gen) ∧
    (impatient.st question.station).alerts.hold = true ∧ impatient.service.state = .offline := by decide +kernel

/-- Queries that have lost patience at stations without a hold: of a charge, of a discharge and of a borrower check. -/
def lapsing (q : Question) (s : State) : State := asking (.waiting q 0) s
theorem witness_PatienceExpiryLapses_decides :
    (∀ s ∈ [lapsing question askedCharge, lapsing returnQuestion askedReturn, lapsing lookupQuestion askedLookup,
        lapsing lookupQuestion { askedLookup with borrowers := [] }],
      (s.st 0).alerts.hold = false ∧ s.upload.run ≠ .sending ∧ s.upload.run ≠ .awaitReceipt ∧ readyFor s 0 = true ∧
      s.queries[(0 : Tag)].gen = 1) ∧
    (lapsing question askedCharge).entry 0 0 = some waitingItem ∧ (askedCharge.st 0).ctx.kind = some .charge ∧
    (askedCharge.st 0).ctx.tx = .opened ∧ askedCharge.exception? waitingItem.number = none ∧
    (askedCharge.st 0).ctx.borrower = some 2000004171 ∧ askedCharge.borrower? 2000004171 = some reader ∧
    askedCharge.activeBank.calendar? = some calendar ∧ askedCharge.ruleIndex? waitingItem.cls 3 = some 0 ∧
    askedCharge.rule? 0 = some rule ∧ askedCharge.loans.length < 512 ∧
    (lapsing returnQuestion askedReturn).entry 0 0 = some waitingItem ∧ (askedReturn.st 0).ctx.kind = some .discharge ∧
    (askedReturn.st 0).ctx.tx = .returns := by decide +kernel
theorem witness_PatienceExpiryLapses_lookup :
    (askedLookup.st 0).ctx.lookup = some (0, (lapsing lookupQuestion askedLookup).queries[(0 : Tag)].gen) ∧
    (askedLookup.st 0).ctx.borrower = some 2000004171 ∧ (askedLookup.st 0).ctx.tx = .checking ∧
    (askedLookup.st 0).ctx.kind = some .charge ∧ askedLookup.borrower? 2000004171 = some reader ∧
    askedLookup.reasons reader = [] ∧ { askedLookup with borrowers := [] }.borrower? 2000004171 = none ∧
    askedLookup.service.policy = .admits ∧
    { askedLookup.service with policy := .refuse }.policy = .refuse ∧ askedLookup.borrowers.length < 4096 ∧
    { askedLookup with borrowers := [] }.reasons
      ⟨2000004171, .provisional, 15, none, none, 0, 0, 0, true, false⟩ = [] := by decide +kernel

theorem witness_ProbesOfTheLink :
    offline.service.state = .offline ∧ offline.service.linkUp = true ∧ offline.service.probeTimer = some 0 ∧
    offline.service.probeOut = true ∧ offline.service.state ≠ .online ∧ offline.upload.run ≠ .paused ∧
    base.service.probeOut = false ∧ 8 ≠ offline.service.probeGen ∧
    { offline.service with linkUp := false }.linkUp = false ∧ { offline.service with linkUp := false }.probeOut = true := by
  decide +kernel
/-- A PAUSED run while OFFLINE with a probe outstanding: its section, its block, and page 1 SEALED. -/
def pausedRun (x : Option Sect) (b : Option Block) : State :=
  { offline with
    upload := { (running .paused).upload with sect := x, hand := b }
    journal := { base.journal with pages := base.journal.pages.set 1 ⟨.sealed, [base.record .charge (some 0)]⟩ } }

theorem witness_ProbesOfTheLink_resume :
    (pausedRun (some .empty) (some block)).upload.run = .paused ∧ block.contents = .empty ∧
    (pausedRun (some .empty) (some block)).upload.sect ≠ none ∧
    (pausedRun (some (.journal (some 1))) none).upload.sect = some (.journal (some 1)) ∧
    (pausedRun (some (.journal (some 1))) none).upload.hand = none ∧
    (∀ k : Fin 128, (pausedRun (some (.journal (some 1))) none).journal.pages[k].state = .sealed ↔ k = 1) ∧
    (pausedRun none none).upload.sect = none ∧ (pausedRun none none).service.linkUp = true ∧
    (pausedRun none none).service.probeOut = true := by decide +kernel
theorem witness_TrunkLinkMoves :
    base.service.linkUp = true ∧ base.upload.run ≠ .sending ∧ base.upload.run ≠ .awaitReceipt ∧
    State.reset.service.linkUp = false ∧ State.reset.service.state = .offline := by decide +kernel
theorem witness_TrunkLinkMoves_pause :
    (∀ r ∈ [RunState.sending, .awaitReceipt], (running r).upload.run = r ∧ (running r).service.state = .online ∧
      (running r).service.linkUp = true ∧ (running r).upload.hand = some block ∧ (running r).upload.window = some 0 ∧
      (running r).upload.stop = false) ∧
    block.contents = .empty ∧
    { (running .sending).upload with window := some 1 }.window ≠ some 0 := by decide +kernel

/-- `base` at a clock reading. -/
def clockAt (day minute second : Nat) : State := { base with clock := ⟨day, minute, second, true, false⟩ }

theorem witness_SecondMovesClock :
    (clockAt 65535 1439 59).clock.second = 59 ∧ (clockAt 65535 1439 59).clock.minute = 1439 ∧
    (clockAt 65535 1439 59).clock.day = 65535 ∧ (clockAt 0 0 58).clock.second < 59 ∧
    (clockAt 0 0 58).clock.minute ≤ 1439 ∧ (clockAt 0 0 58).clock.day ≤ 65535 := by decide +kernel
/-- A minute arrival in a run, in IDLE at the window start minute, and in IDLE at another minute. -/
theorem witness_SecondMovesClock_arrival :
    (running .paused).upload.run ≠ .idle ∧ (clockAt 5 1439 59).upload.run = .idle ∧
    (clockAt 5 1439 59).upload.config.mode = .nightly ∧ (clockAt 5 119 59).clock.after.minute = 120 ∧
    (clockAt 5 119 59).upload.config.windowStart = 120 ∧ (clockAt 5 1439 59).clock.after.minute ≠ 120 := by decide +kernel
theorem witness_SecondCountsTimersDown :
    (clockAt 0 0 58).clock.second < 59 ∧
    ((asking (.waiting question 1) (charging [])).st 0).ctx.timer = .running 90 ∧
    (asking (.waiting question 1) (charging [])).clock.second < 59 ∧
    (asking (.waiting question 1) (charging [])).queries[(0 : Tag)].state = .waiting question 1 ∧
    (asking (.lapsed question 0 .grant) base).queries[(0 : Tag)].state = .lapsed question 0 .grant := by decide +kernel
theorem witness_UploadBlockHandling :
    (running .sending).upload.run = .sending ∧ (running .sending).upload.run ≠ .awaitReceipt ∧
    (running .awaitReceipt).upload.run = .awaitReceipt ∧ (running .awaitReceipt).upload.hand = some block ∧
    block.contents = .empty ∧ (running .awaitReceipt).service.linkUp = true ∧
    (running .awaitReceipt).upload.attempts < (running .awaitReceipt).upload.config.attempts ∧
    (running .awaitReceipt).upload.wait = some 0 := by decide +kernel

/-- A run that waits for the receipt of block b, in slot 4; a journal block of page 1, SENT. -/
def awaiting (b : Block) : State :=
  { running .awaitReceipt with
    upload := { (running .awaitReceipt).upload with hand := some b, program := { Program.reset with stop := 4 } }
    journal := { base.journal with pages := base.journal.pages.set 1 ⟨.sent, [base.record .charge (some 0)]⟩ } }
def pageBlock : Block := ⟨1, 4, .journal, 0, true, some 0, .journal (some 1) [base.record .charge (some 0)]⟩

theorem witness_UploadBlockHandling_accept :
    block.final = true ∧ (awaiting block).upload.slot = (awaiting block).upload.program.stop ∧
    (running .awaitReceipt).upload.slot ≠ { Program.reset with stop := 9 }.stop ∧
    (awaiting block).upload.stop = false ∧ (awaiting block).upload.config.mode = .nightly ∧
    (awaiting pageBlock).upload.hand = some pageBlock ∧ (awaiting pageBlock).journal.filling? = some 0 ∧
    readyFor (awaiting pageBlock) 0 = true ∧ (awaiting pageBlock).journal.isLow = false := by decide +kernel
/-- A receipt with the link DOWN, one in PAUSED, and one that names another run than the block in hand. -/
theorem witness_UploadBlockHandling_mismatch :
    { running .paused with service := State.reset.service }.upload.run ≠ .awaitReceipt ∧
    (running .awaitReceipt).upload.hand = some block ∧ (⟨2, 4, 0, .accept⟩ : ReceiptMsg).run ≠ block.run := by
  decide +kernel
/-- R193: the link goes down in a stopped run, and in one whose block is a journal page. -/
theorem witness_TrunkLinkMoves_stopped :
    { (awaiting block) with upload := { (awaiting block).upload with stop := true, window := none } }.upload.stop = true ∧
    (awaiting block).upload.hand = some block ∧ (awaiting block).service.state = .online := by decide +kernel
theorem witness_TrunkLinkMoves_page :
    (awaiting pageBlock).upload.run = .awaitReceipt ∧ (awaiting pageBlock).upload.hand = some pageBlock ∧
    pageBlock.contents = .journal (some 1) [base.record .charge (some 0)] ∧
    { (awaiting pageBlock).upload with stop := false, window := none }.window = none := by decide +kernel
/-- A block whose attempts are used, a stopped run before its last block, and a CONTINUOUS run at the end of its pass. -/
theorem witness_UploadBlockHandling_ends :
    { (awaiting block).upload with attempts := 8 }.config.attempts ≤ 8 ∧
    { (awaiting block).upload with stop := true }.stop = true ∧ { block with final := false }.final = false ∧
    { (awaiting block).upload with trigger := true, config := { base.upload.config with mode := .continuous } }.trigger =
      true ∧
    { (awaiting block).upload with trigger := true, config := { base.upload.config with mode := .continuous } }.config.mode =
      .continuous := by decide +kernel
theorem witness_RunEndsWhilePaused :
    (running .paused).upload.run = .paused ∧ (running .paused).upload.window = some 0 ∧
    (running .paused).mgmt.restarting = false := by decide +kernel
theorem witness_RestartKeepsClock :
    restarting.mgmt.restarting = true ∧ restarting.mgmt.held = [] ∧
    { restarting.mgmt with held := [.bankSwap 1 []] }.held = [.bankSwap 1 []] ∧
    (commandOf (.bankSwap 1 [])).isSome = true := by decide +kernel
theorem witness_MessagesHeldUnknownOrRefused :
    (commandOf (.bankSwap 1 [])).isSome = true ∧ (Instr.bankSwap 1 []).wf = true ∧
    (commandOf (.unknownCommand 1 0x13 [])).isSome = true ∧ (Instr.unknownCommand 1 0x13 []).wf = true ∧
    restarting.mgmt.restarting = true ∧ base.mgmt.restarting = false ∧ commandCodes.contains 0x13 = false := by
  decide +kernel

/-! Bodies of commands, written out from R209. -/

/-- A body parses to `a`. -/
def parses {α : Type} [DecidableEq α] (r : Except Nat α) (a : α) : Bool :=
  match r with
  | .ok b => decide (b = a)
  | .error _ => false

theorem of_parses {α : Type} [DecidableEq α] {r : Except Nat α} {a : α} (h : parses r a = true) : r = .ok a := by
  unfold parses at h; split at h <;> simp_all

/-- BORROWER_PUT of the card of 1.4: category 3, no manual index, expiry day 200, balance 300, 2 on loan, 0 overdue. -/
def putBody : List Byte := card ++ [3, 0, 0, 1, 0, 200, 0, 1, 44, 2, 0]
def putEntry : Borrower := ⟨2000004171, .loaded, 3, none, some 200, 300, 2, 0, false, false⟩

theorem witness_BorrowerPutGivesEntry :
    base.mgmt.restarting = false ∧ parseBody borrowerPutBody putBody = .ok putEntry ∧
    (base.borrower? putEntry.number).isSome = true ∧ State.reset.borrower? putEntry.number = none ∧
    State.reset.borrowers.length < 4096 ∧ State.reset.mgmt.restarting = false := by
  refine ⟨?_, of_parses (by decide +kernel), ?_⟩ <;> decide +kernel
/-- The same command with a table of 4096 entries of which none may be evicted. -/
theorem witness_BorrowerPutGivesEntry_full :
    { base with borrowers := crowd 4096 }.borrower? putEntry.number = none ∧
    4096 ≤ { base with borrowers := crowd 4096 }.borrowers.length ∧
    { base with borrowers := crowd 4096 }.evictee = none := by decide +kernel
/-- A full table of which one LEARNED entry may be evicted and a less recent one, changed, may not. -/
def evicting : State :=
  { base with
    borrowers := { reader with number := 2000005000, origin := .learned } ::
      { reader with number := 2000005001, origin := .learned, changed := true } :: (crowd 4096).drop 2
    recency := [2000005000, 2000005001] }
theorem witness_BorrowerPutGivesEntry_evicts :
    evicting.borrower? putEntry.number = none ∧ 4096 ≤ evicting.borrowers.length ∧
    evicting.recency = [] ++ 2000005000 :: [2000005001] ∧
    (evicting.borrower? 2000005000).map (·.changed) = some false ∧
    (evicting.borrower? 2000005001).map (·.changed) = some true ∧
    ∀ n, (evicting.st n).ctx.chargesFor 2000005000 = false := by decide +kernel
theorem witness_BorrowerReadAndDelete :
    base.mgmt.restarting = false ∧ parseBody (Body.identifier .borrower) card = .ok 2000004171 ∧
    base.borrower? 2000004171 = some reader ∧ State.reset.borrower? 2000004171 = none ∧
    ((charging []).st 0).ctx.chargesFor 2000004171 = true ∧ ((charging []).st 0).ctx.tracked = true := by
  refine ⟨?_, of_parses (by decide +kernel), ?_⟩ <;> decide +kernel

/-- ITEM_PUT of the label of 1.4 as MISSING. -/
def itemBody : List Byte := label ++ [2, 0] ++ List.replicate 11 0
/-- `base` with one exception entry, for that item. -/
def marked : State := { base with exceptions := [⟨307123456789, .withdrawn⟩] }

theorem witness_ItemAndBadgeCommands :
    base.mgmt.restarting = false ∧ parseBody itemPutBody itemBody = .ok ⟨307123456789, .missing⟩ ∧
    parseBody (Body.identifier .item) label = .ok 307123456789 ∧ (marked.exception? 307123456789).isSome = true ∧
    base.exception? 307123456789 = none ∧ base.exceptions.length < 1024 := by
  refine ⟨?_, of_parses (by decide +kernel), of_parses (by decide +kernel), ?_⟩ <;> decide +kernel
theorem witness_ItemAndBadgeCommands_full :
    { base with exceptions := manyItems 1024 }.exception? 307123456789 = none ∧
    1024 ≤ { base with exceptions := manyItems 1024 }.exceptions.length := by decide +kernel
theorem witness_ItemAndBadgeCommands_badges :
    parseBody (Body.list 0 16 (Body.identifier .badge)) ([2] ++ badge ++ badge) = .ok [90001234, 90001234] ∧
    parseBody (Body.list 0 16 (Body.identifier .badge)) [0] = .ok [] ∧ base.mgmt.restarting = false := by
  refine ⟨of_parses (by decide +kernel), of_parses (by decide +kernel), by decide +kernel⟩
theorem witness_ShadowClearEmptiesShadow : base.mgmt.restarting = false := by decide +kernel

theorem witness_RecordLoadsWriteShadow :
    parseBody ruleBody [31, 0, 0, 21, 0, 25, 2, 0, 3, 232, 0] = .ok (31, rule) ∧
    parseBody matrixBody ([63, 16] ++ List.replicate 16 31) = .ok (63, List.replicate 16 31) ∧
    parseBody categoryBody [15, 10, 3, 0, 1, 244, 0, 100] = .ok (15, category) ∧
    parseBody settingsBody [5, 0] = .ok ⟨5, .truncate⟩ ∧ base.mgmt.restarting = false := by
  refine ⟨of_parses (by decide +kernel), of_parses (by decide +kernel),
    of_parses (by decide +kernel), of_parses (by decide +kernel), by decide +kernel⟩

/-- A shadow bank with a header and dates. -/
def shadowed : State := { base with active := .b, bankA := { bank with closedDates := [3, 9], openDates := [4] } }

theorem witness_CalendarLoadsWriteShadow :
    parseBody calendarBody ([0, 0, 0x07, 0xE8, 1, 1, 0, 0x40] ++ (List.replicate 7 [2, 28, 4, 56]).flatten) = .ok header ∧
    parseBody (datesBody shadowed.shadowBank.header 64) [3, 1, 255, 0, 0, 1, 255] = .ok [511, 0, 511] ∧
    parseBody (datesBody shadowed.shadowBank.header 16) [0] = .ok [] ∧ shadowed.mgmt.restarting = false := by
  refine ⟨of_parses (by decide +kernel), of_parses (by decide +kernel),
    of_parses (by decide +kernel), by decide +kernel⟩
theorem witness_BankSwapExchangesBanks :
    { base with bankB := bank }.shadowBank.complete = true ∧ base.shadowBank.complete = false ∧
    base.mgmt.restarting = false := by decide +kernel
/-- A swap, and a CLOCK_SET, whose record is taken, and the same with the journal full. -/
theorem witness_BankSwapExchangesBanks_record :
    readyFor { base with bankB := bank } 0 = true ∧ base.mgmt.alarms.rulesInvalid.active = false ∧
    (sealed { base with bankB := bank }).journal.filling? = none ∧
    (sealed { base with bankB := bank }).mgmt.alarms.holds = (sealed { base with bankB := bank }).mgmt.alarmCond := by
  decide +kernel
theorem witness_ClockSetSetsClock_record :
    (59 : Nat) ≠ 0 ∧ readyFor base 0 = true ∧ base.mgmt.alarms.clockUnset.active = false ∧
    (sealed base).journal.filling? = none ∧ (sealed base).mgmt.alarms.holds = (sealed base).mgmt.alarmCond := by
  decide +kernel
theorem witness_ClockSetSetsClock :
    parseBody clockBody [255, 255, 5, 159, 59] = .ok (65535, 1439, 59) ∧ parseBody clockBody [0, 0, 0, 0, 0] = .ok (0, 0, 0) ∧
    base.mgmt.restarting = false := by
  refine ⟨of_parses (by decide +kernel), of_parses (by decide +kernel), by decide +kernel⟩
theorem witness_StationLocksAreSet :
    parseBody Body.stations [7] = .ok [7] ∧ parseBody Body.stations [255] = .ok (List.finRange 8) ∧
    base.mgmt.restarting = false ∧ (∀ n ∈ [(7 : StationNo)], (base.st n).ctx.lockCommand = false) := by
  refine ⟨of_parses (by decide +kernel), of_parses (by decide +kernel), ?_⟩; decide +kernel
theorem witness_StationClearEffect :
    parseBody Body.station [0] = .ok 0 ∧ parseBody Body.station [7] = .ok 7 ∧ base.mgmt.restarting = false ∧
    (base.st 0).ctx = (base.st 0).ctx.cleared ∧ ((charging []).st 0).ctx.tx ≠ .idle ∧
    ∀ i k : Fin 4, (base.st 0).slips.slots[i] = .reserved → (base.st 0).slips.slots[k] = .reserved → i = k := by
  refine ⟨of_parses (by decide +kernel), of_parses (by decide +kernel), ?_⟩; decide +kernel
theorem witness_DeskConfigClamps :
    parseBody deskConfigBody [0, 9, 0, 4, 14, 17] = .ok ([0], 9, 4, 3601) ∧
    parseBody deskConfigBody [255, 8, 0, 5, 0, 60] = .ok (List.finRange 8, 8, 5, 60) ∧ base.mgmt.restarting = false ∧
    ∀ n, (base.st n).slips.faultTimer = none := by
  refine ⟨of_parses (by decide +kernel), of_parses (by decide +kernel), ?_⟩; decide +kernel
theorem witness_DeskConfigClamps_discard :
    parseBody deskConfigBody [0, 3, 0, 90, 0, 200] = .ok ([0], 3, 90, 200) ∧ jammed.mgmt.restarting = false ∧
    (jammed.st 0).slips.faultTimer = some 600 ∧ max 60 (min 3600 200) ≤ 600 ∧
    printerFault (jammed.st 0).line.printer = true := by
  refine ⟨of_parses (by decide +kernel), ?_⟩; decide +kernel
theorem witness_AlertConfigStagedOrApplied :
    parseBody alertConfigBody [0, 1, 0x40, 0, 0, 0, 0, 1, 1, 1, 7] =
      .ok ([0], ⟨some (LevelSet.ofBits 0x40), none, none, some .rotating, some .l7⟩) ∧
    base.mgmt.restarting = false ∧ ((charging []).st 0).ctx.tx ≠ .idle ∧ (base.st 0).ctx.tx = .idle ∧
    (base.st 0).alerts.quiet = true ∧ (base.st 0).alerts.pending = .empty ∧ (base.st 0).alerts.inService = .empty ∧
    (base.st 0).alerts.staged = none := by
  refine ⟨of_parses (by decide +kernel), ?_⟩; decide +kernel
theorem witness_AlertPollAndClear :
    parseBody Body.station [0] = .ok 0 ∧ parseBody alertClearBody [0, 6] = .ok (0, .l6) ∧ base.mgmt.restarting = false ∧
    (base.st 0).alerts.pending.mem .l6 = false ∧ (base.st 0).alerts.inService.mem .l6 = false ∧
    ((noticed .l6).st 0).alerts.inService.mem .l6 = true ∧ ((noticed .l6).st 0).alerts.pending.erase .l6 = .empty ∧
    ((noticed .l6).st 0).alerts.inService.erase .l6 = .empty ∧ ((noticed .l6).st 0).alerts.hold = false ∧
    ((noticed .l6).st 0).ctx.tx ≠ .closing := by
  refine ⟨of_parses (by decide +kernel), of_parses (by decide +kernel), ?_⟩; decide +kernel
/-- ALERT_CLEAR of L0 with the printer at fault, of a borrower's block level, and of L5 for a waiting item. -/
theorem witness_AlertPollAndClear_levels :
    parseBody alertClearBody [0, 0] = .ok (0, .l0) ∧ parseBody alertClearBody [0, 1] = .ok (0, .l1) ∧
    parseBody alertClearBody [0, 5] = .ok (0, .l5) ∧
    (let s := (heldBy .l0).updLine 0 fun l => { l with printer := .jam }
     (s.st 0).alerts.inService.mem .l0 = true ∧ (s.st 0).alerts.pending.erase .l0 = .empty ∧
     (s.st 0).alerts.inService.erase .l0 = .empty ∧ (s.st 0).line.fault = true ∧ (s.st 0).alerts.mask.mem .l0 = false ∧
     (s.st 0).alerts.autoAck.mem .l0 = false ∧ (s.st 0).alerts.hold = (s.st 0).alerts.holdSet.mem .l0 ∧
     (s.st 0).ctx.tx ≠ .closing) := by
  refine ⟨of_parses (by decide +kernel), of_parses (by decide +kernel), of_parses (by decide +kernel), ?_⟩; decide +kernel
theorem witness_AlertPollAndClear_block :
    Level.l1.reason? = some .manual ∧ ((heldBy .l1).st 0).alerts.inService.mem .l1 = true ∧
    ((heldBy .l1).st 0).ctx.kind = some .charge ∧ ((closingSoon [] 0).st 0).slips.slots[(2 : Fin 4)] = .reserved ∧
    (let s := ((charging [heldItem]).updCtx 0 fun c =>
        { c with tx := .held, interrupted := some .opened, timer := .gated 90 }).updAlerts 0 fun r =>
          { r with inService := LevelSet.empty.insert .l5, origin := some .item, hold := true }
     (s.st 0).alerts.inService.mem .l5 = true ∧ (s.st 0).alerts.origin = some .item ∧
     (s.st 0).alerts.pending.erase .l5 = .empty ∧ (s.st 0).alerts.inService.erase .l5 = .empty ∧
     (s.st 0).alerts.hold = true ∧ (s.st 0).ctx.tx = .held ∧ (s.st 0).ctx.interrupted = some .opened ∧
     (∀ x ∈ (s.st 0).ctx.items, x.parked = none) ∧ heldItem.waitsOverride = true) := by decide +kernel
theorem witness_ServiceConfigSettles :
    parseBody serviceConfigBody [1, 31, 1, 15, 0, 0, 0, 1, 1] = .ok ⟨some 31, some 15, none, some .refuse⟩ ∧
    base.mgmt.restarting = false ∧ base.service.state ≠ .degraded := by
  refine ⟨of_parses (by decide +kernel), ?_⟩; decide +kernel
theorem witness_UploadLoads :
    parseBody programBody ([16, 0, 1, 2, 3] ++ List.replicate 12 4 ++ [0, 3]) = .ok Program.reset ∧
    parseBody uploadConfigBody [1, 1, 0, 0, 0, 1, 0, 29, 1, 60, 1, 9] =
      .ok ⟨some .continuous, none, some 29, some 60, some 9⟩ ∧
    base.mgmt.restarting = false ∧ base.upload.run = .idle ∧ (running .paused).upload.run ≠ .idle := by
  refine ⟨of_parses (by decide +kernel), of_parses (by decide +kernel), ?_⟩; decide +kernel
theorem witness_UploadTriggerStarts :
    offline.mgmt.restarting = false ∧ offline.upload.run = .idle ∧ offline.service.state ≠ .online ∧
    (running .sending).upload.run ≠ .idle ∧ base.upload.run = .idle ∧ base.service.state = .online ∧
    (∀ k ∈ [SectionKind.journal, .borrowerChanges, .pendingLoans, .tallies, .empty],
      k ∈ base.upload.program.slots.toList) ∧
    base.journal.filling? = some 0 ∧ (∀ i : Fin 128, i ≠ 0 → base.journal.pages[i].state = .free) ∧
    readyFor base 0 = true := by decide +kernel
theorem witness_JournalAndAlarmCommands :
    parseBody journalConfigBody [1, 33, 1, 0, 0, 0] = .ok (some 33, some true, none) ∧ base.mgmt.restarting = false ∧
    base.upload.run = .idle ∧ base.mgmt.alarms.journalFull.active = false ∧
    base.mgmt.alarms.journalLow.active = false ∧ base.journal.lowMark ≤ 32 ∧
    base.mgmt.alarms.holds = base.mgmt.alarmCond ∧ (running .paused).upload.run ≠ .idle := by
  refine ⟨of_parses (by decide +kernel), ?_⟩; decide +kernel
theorem witness_JournalAndAlarmCommands_alarm :
    parseBody alarmConfigBody [1, 0, 1, 1] = .ok (some true, some false) ∧ base.mgmt.restarting = false ∧
    base.mgmt.alarms.holds = base.mgmt.alarmCond := by
  refine ⟨of_parses (by decide +kernel), ?_⟩; decide +kernel
theorem witness_SnapshotGroups :
    parseBody groupBody [2] = .ok .journalState ∧ base.mgmt.restarting = false ∧
    base.mgmt.isHeld .journalState = false ∧
    { base.mgmt with snapJournal := some base.journalSnap }.isHeld .journalState = true := by
  refine ⟨of_parses (by decide +kernel), ?_⟩; decide +kernel
/-- A body that is refused: a rule index of 32, a station of 8, a body where none is taken. -/
theorem witness_MessagesHeldUnknownOrRefused_body :
    parseBody ruleBody [32] = .error 0 ∧ parseBody Body.station [8] = .error 0 ∧ parseBody Body.stations [254] = .error 0 ∧
    parseBody noFields [0] = .error 0 ∧ parseBody Body.stations [] = .error 0 ∧ base.mgmt.restarting = false :=
  ⟨rfl, rfl, rfl, rfl, rfl, rfl⟩
/-- The worked calendar of chapter 5, and the searches of its first two worked due dates. -/
theorem witness_DueDatesAndFines :
    workedCalendar.opens 1220 = false ∧ workedCalendar.opens 1221 = false ∧ workedCalendar.opens 1222 = true ∧
    (∀ w : Fin 7, (workedCalendar.header.hours[w]).2 ≤ 1439) ∧ (1222 : Nat) ≤ 65535 ∧
    (computeDue workedCalendar { rule with period := 15 } ⟨1205, 630⟩ none).due.day = 1222 ∧ (1218 : Nat) < 1222 ∧
    workedCalendar.opens 1218 = true := by decide +kernel
theorem witness_DueDatesAndFines_gap :
    ∀ x ∈ List.range 15, gapCalendar.opens (1226 + 14 + x) = false := by decide +kernel
theorem witness_DueDatesAndFines_hours :
    hourRule.unit = .hours ∧ rule.unit = .days ∧ workedCalendar.opens 1205 = true ∧
    workedCalendar.closeMinute 1205 - 900 = 60 * hourRule.period ∧ workedCalendar.closeMinute 1205 - 901 < 60 * hourRule.period ∧
    workedCalendar.opens 1206 = false ∧ workedCalendar.opens 1207 = true := by decide +kernel
theorem witness_ArrivalsRoundTrip :
    (Instr.headStatus 3 ⟨.offline, true, 8, some 65535⟩).wf = true ∧
    lineOf (.headStatus 3 ⟨.offline, true, 8, some 65535⟩) = some 3 ∧
    deskBytes (.headStatus 3 ⟨.offline, true, 8, some 65535⟩) = some [0x7E, 3, 5, 5, 0, 8, 255, 255, 11] := by decide +kernel
theorem witness_ArrivalsRoundTrip_trunk :
    (Instr.clockSet 16909060 [0, 200, 2, 88, 5]).wf = true ∧
    trunkBytes 255 (.clockSet 16909060 [0, 200, 2, 88, 5]) =
      some [0, 255, 0, 10, 1, 2, 3, 4, 0x29, 0, 200, 2, 88, 5] := by decide +kernel
theorem witness_BorrowerTableInvariant :
    base.borrowers.length ≤ Config.maxBorrowers ∧ (base.borrowers.map (·.number)).Pairwise (· < ·) ∧
    (∀ e ∈ base.borrowers, e.inRange = true) ∧ step base = .next base := by
  refine ⟨?_, ?_, ?_, rfl⟩ <;> decide +kernel
theorem witness_LoanListInvariant :
    base.loans.length ≤ Config.maxLoans ∧ (base.loans.map (·.item)).Nodup ∧ step base = .next base := by
  refine ⟨?_, ?_, rfl⟩ <;> decide +kernel
theorem witness_AlarmConditionInvariant :
    base.mgmt.alarms.holds = base.mgmt.alarmCond ∧ step base = .next base := ⟨by decide +kernel, rfl⟩
theorem witness_TransactionInvariant : base.transactionsOk ∧ step base = .next base := by
  have h : ∀ n, (base.st n).ctx = (base.st n).ctx.cleared ∧ (base.st n).ctx.items = [] ∧
      (base.st n).alerts.pending = .empty ∧ (base.st n).alerts.hold = (base.st n).alerts.holds := by decide +kernel
  refine ⟨fun n => ?_, rfl⟩
  obtain ⟨hc, hi, hp, hh⟩ := h n
  exact ⟨fun _ => hc, by simp [hi], by simp [hi], by simp [Ctx.awaiting, Ctx.inState, hi],
    fun l => by cases l <;> simp [hp, LevelSet.mem, LevelSet.empty], hh⟩
theorem witness_SlipInvariant : base.slipsOk ∧ step base = .next base := by
  refine ⟨?_, rfl⟩; unfold State.slipsOk; decide +kernel
theorem witness_JournalInvariant :
    base.journal.counter < 4294967296 ∧ base.journal.overflow ≤ 4294967295 ∧ base.journal.lowMark ≤ 32 ∧
    base.journal.pages.toList.countP (fun p => decide (p.state = .filling)) = 1 ∧
    (∀ i : Fin 128, base.journal.pages[i].records = []) ∧ step base = .next base := by
  refine ⟨?_, ?_, ?_, ?_, ?_, rfl⟩ <;> decide +kernel

end Sys2Proof.Tests
end

section
/-! SUPPORT. What an event of the alert resolver, a record and the printing of slip lines leave of the stations. -/

namespace Sys2Proof.Machine

variable (s : State) (n m : StationNo)

/-! ### Alert resolver -/

@[simp] theorem State.showAlerts_parts (t : Tone) :
    ((s.showAlerts n t).st m).line = (s.st m).line ∧ ((s.showAlerts n t).st m).ctx = (s.st m).ctx ∧
    ((s.showAlerts n t).st m).slips = (s.st m).slips ∧ ((s.showAlerts n t).st m).tallies = (s.st m).tallies := by
  simp [State.showAlerts]

@[simp] theorem State.showAlerts_other {n m : StationNo} (h : m ≠ n) (t : Tone) :
    (s.showAlerts n t).st m = s.st m := by
  simp [State.showAlerts, h]

@[simp] theorem State.resolve_parts (k : Nat) :
    ((State.resolve n k s).st m).line = (s.st m).line ∧ ((State.resolve n k s).st m).ctx = (s.st m).ctx ∧
    ((State.resolve n k s).st m).slips = (s.st m).slips ∧
    ((State.resolve n k s).st m).tallies = (s.st m).tallies := by
  induction k generalizing s with
  | zero => simp [State.resolve]
  | succ k ih =>
    simp only [State.resolve]
    repeat' split
    all_goals simp [ih]

@[simp] theorem State.resolve_other {n m : StationNo} (h : m ≠ n) (k : Nat) :
    (State.resolve n k s).st m = s.st m := by
  induction k generalizing s with
  | zero => simp [State.resolve]
  | succ k ih =>
    simp only [State.resolve]
    repeat' split
    all_goals simp [ih, h]

@[simp] theorem State.reportHold_parts :
    ((s.reportHold n).st m).line = (s.st m).line ∧ ((s.reportHold n).st m).slips = (s.st m).slips ∧
    ((s.reportHold n).st m).tallies = (s.st m).tallies := by
  simp only [State.reportHold]
  repeat' split
  all_goals simp

@[simp] theorem State.reportHold_other {n m : StationNo} (h : m ≠ n) : (s.reportHold n).st m = s.st m := by
  simp only [State.reportHold]
  repeat' split
  all_goals simp [h]

@[simp] theorem State.finishShow_parts (t : Tone) :
    ((s.finishShow n t).st m).line = (s.st m).line ∧ ((s.finishShow n t).st m).ctx = (s.st m).ctx ∧
    ((s.finishShow n t).st m).slips = (s.st m).slips ∧ ((s.finishShow n t).st m).tallies = (s.st m).tallies := by
  simp only [State.finishShow]
  split <;> simp

@[simp] theorem State.finishShow_other {n m : StationNo} (h : m ≠ n) (t : Tone) :
    (s.finishShow n t).st m = s.st m := by
  simp only [State.finishShow]
  split <;> simp [h]

@[simp] theorem State.settleAlerts_parts :
    ((s.settleAlerts n).st m).line = (s.st m).line ∧ ((s.settleAlerts n).st m).slips = (s.st m).slips ∧
    ((s.settleAlerts n).st m).tallies = (s.st m).tallies := by
  simp [State.settleAlerts]

@[simp] theorem State.settleAlerts_other {n m : StationNo} (h : m ≠ n) : (s.settleAlerts n).st m = s.st m := by
  simp [State.settleAlerts, h]

@[simp] theorem State.requestLevel_parts (l : Level) (i : Nat) (o : Option Origin) :
    ((s.requestLevel n l i o).st m).line = (s.st m).line ∧ ((s.requestLevel n l i o).st m).slips = (s.st m).slips ∧
    ((s.requestLevel n l i o).st m).tallies = (s.st m).tallies := by
  simp [State.requestLevel]

@[simp] theorem State.requestLevel_other {n m : StationNo} (h : m ≠ n) (l : Level) (i : Nat) (o : Option Origin) :
    (s.requestLevel n l i o).st m = s.st m := by
  simp [State.requestLevel, h]

@[simp] theorem State.withdrawLevel_parts (l : Level) :
    ((s.withdrawLevel n l).st m).line = (s.st m).line ∧ ((s.withdrawLevel n l).st m).slips = (s.st m).slips ∧
    ((s.withdrawLevel n l).st m).tallies = (s.st m).tallies := by
  simp only [State.withdrawLevel]
  split <;> simp

@[simp] theorem State.withdrawResolved_parts (l : Level) :
    ((s.withdrawResolved n l).st m).line = (s.st m).line ∧ ((s.withdrawResolved n l).st m).ctx = (s.st m).ctx ∧
    ((s.withdrawResolved n l).st m).slips = (s.st m).slips ∧
    ((s.withdrawResolved n l).st m).tallies = (s.st m).tallies := by
  simp only [State.withdrawResolved]
  split <;> simp

@[simp] theorem State.withdrawResolved_other {n m : StationNo} (h : m ≠ n) (l : Level) :
    (s.withdrawResolved n l).st m = s.st m := by
  simp only [State.withdrawResolved]
  split <;> simp [h]

@[simp] theorem State.applyStaged_parts :
    ((s.applyStaged n).st m).line = (s.st m).line ∧ ((s.applyStaged n).st m).slips = (s.st m).slips ∧
    ((s.applyStaged n).st m).tallies = (s.st m).tallies := by
  simp only [State.applyStaged]
  split <;> simp

@[simp] theorem State.badgeJournalFull_parts :
    ((s.badgeJournalFull n).st m).line = (s.st m).line ∧ ((s.badgeJournalFull n).st m).ctx = (s.st m).ctx ∧
    ((s.badgeJournalFull n).st m).slips = (s.st m).slips ∧
    ((s.badgeJournalFull n).st m).tallies = (s.st m).tallies := by
  simp [State.badgeJournalFull]

/-! ### Records -/

@[simp] theorem State.offer_st (r : Record) : (s.offer r).2.st m = s.st m := by
  simp [State.st]

/-- R44: a change of a lock source reaches no part of a station but its context. -/
@[simp] theorem State.changeSource_parts (f : Ctx → Ctx) :
    ((s.changeSource n f).st m).line = (s.st m).line ∧ ((s.changeSource n f).st m).alerts = (s.st m).alerts ∧
    ((s.changeSource n f).st m).slips = (s.st m).slips ∧
    ((s.changeSource n f).st m).tallies = (s.st m).tallies := by
  simp only [State.changeSource]
  split <;> simp

/-- A context without its ALARM source, the only part of it that a report of the ALARM condition reaches (R203). -/
def Ctx.unalarmed (c : Ctx) : Ctx := { c with lockAlarm := false }

/-- Contexts that agree but for the ALARM source. -/
theorem Ctx.eq_of_unalarmed {c d : Ctx} (h : c.unalarmed = d.unalarmed) : c = { d with lockAlarm := c.lockAlarm } := by
  cases c; cases d; simp_all [Ctx.unalarmed]

@[simp] theorem State.changeSource_unalarmed (on : Bool) :
    ((s.changeSource n fun c => { c with lockAlarm := on }).st m).ctx.unalarmed = (s.st m).ctx.unalarmed := by
  have h : ((s.updCtx n fun c => { c with lockAlarm := on }).st m).ctx.unalarmed = (s.st m).ctx.unalarmed := by
    by_cases hm : m = n
    · subst hm; simp [Ctx.unalarmed]
    · simp [hm]
  simp only [State.changeSource]
  split <;> simpa using h

/-- R203: the reports of the ALARM condition reach no part of a station but the ALARM source. -/
@[simp] theorem State.settleLocks_parts (k : Nat) :
    ((State.settleLocks k s).st m).line = (s.st m).line ∧ ((State.settleLocks k s).st m).alerts = (s.st m).alerts ∧
    ((State.settleLocks k s).st m).slips = (s.st m).slips ∧
    ((State.settleLocks k s).st m).tallies = (s.st m).tallies ∧
    ((State.settleLocks k s).st m).ctx.unalarmed = (s.st m).ctx.unalarmed := by
  induction k generalizing s with
  | zero => simp [State.settleLocks]
  | succ k ih =>
    simp only [State.settleLocks]
    split
    · simp
    · simp only [ih, State.reportAlarm]
      refine ⟨?_, ?_, ?_, ?_, ?_⟩
      · exact foldl_keeps (fun s => (s.st m).line) _ (by simp) _ _
      · exact foldl_keeps (fun s => (s.st m).alerts) _ (by simp) _ _
      · exact foldl_keeps (fun s => (s.st m).slips) _ (by simp) _ _
      · exact foldl_keeps (fun s => (s.st m).tallies) _ (by simp) _ _
      · exact foldl_keeps (fun s => (s.st m).ctx.unalarmed) _ (by simp) _ _

@[simp] theorem State.settle_parts :
    (s.settle.st m).line = (s.st m).line ∧ (s.settle.st m).alerts = (s.st m).alerts ∧
    (s.settle.st m).slips = (s.st m).slips ∧ (s.settle.st m).tallies = (s.st m).tallies ∧
    (s.settle.st m).ctx.unalarmed = (s.st m).ctx.unalarmed := by
  simp [State.settle]

@[simp] theorem State.write_parts (r : Record) :
    ((s.write r).2.st m).line = (s.st m).line ∧ ((s.write r).2.st m).alerts = (s.st m).alerts ∧
    ((s.write r).2.st m).slips = (s.st m).slips ∧ ((s.write r).2.st m).tallies = (s.st m).tallies ∧
    ((s.write r).2.st m).ctx.unalarmed = (s.st m).ctx.unalarmed := by
  simp [State.write]

theorem Ctx.tx_of_unalarmed {c d : Ctx} (h : c.unalarmed = d.unalarmed) : c.tx = d.tx := by
  rw [Ctx.eq_of_unalarmed h]

@[simp] theorem State.write_tx (r : Record) : ((s.write r).2.st m).ctx.tx = (s.st m).ctx.tx :=
  Ctx.tx_of_unalarmed (by simp)

/-- R165: a record that a station writes reaches its first sequence number besides. -/
@[simp] theorem State.writeStation_parts (r : Record) :
    ((s.writeStation n r).2.st m).line = (s.st m).line ∧ ((s.writeStation n r).2.st m).alerts = (s.st m).alerts ∧
    ((s.writeStation n r).2.st m).slips = (s.st m).slips ∧ ((s.writeStation n r).2.st m).tallies = (s.st m).tallies ∧
    ((s.writeStation n r).2.st m).ctx.tx = (s.st m).ctx.tx := by
  have key := State.write_parts s m { r with flags := r.flags.union (s.st n).ctx.stationFlags }
  have tx := State.write_tx s m { r with flags := r.flags.union (s.st n).ctx.stationFlags }
  simp only [State.writeStation]
  split <;> rename_i heq <;> rw [heq] at key tx
  · split
    · obtain ⟨h1, h2, h3, h4, -⟩ := key
      refine ⟨by simpa using h1, by simpa using h2, by simpa using h3, by simpa using h4, ?_⟩
      by_cases hm : m = n
      · subst hm; simp only [State.updCtx_same]; split <;> exact tx
      · simpa [hm] using tx
    · exact ⟨key.1, key.2.1, key.2.2.1, key.2.2.2.1, tx⟩
  · exact ⟨key.1, key.2.1, key.2.2.1, key.2.2.2.1, tx⟩

@[simp] theorem State.lockChange_parts (f : Ctx → Ctx) :
    ((s.lockChange n f).st m).line = (s.st m).line ∧ ((s.lockChange n f).st m).alerts = (s.st m).alerts ∧
    ((s.lockChange n f).st m).slips = (s.st m).slips ∧ ((s.lockChange n f).st m).tallies = (s.st m).tallies := by
  simp only [State.lockChange]
  split <;> simp

end Sys2Proof.Machine
end

section
/-! SUPPORT. What the decisions of a station leave: the queue of commands, the badge list, and of every station the
line, the slip queue, the slips-printed tally and whether it is CLOSING. Those that release a reservation or open a
transaction leave the queue of commands, the badge list and the lines. -/

namespace Sys2Proof.Machine

variable (s : State) (n m : StationNo)

/-! ### Updates that reach no station -/

@[simp] theorem State.fresh_st : s.fresh.st m = s.st m := rfl
@[simp] theorem State.emit_st (o : Out) : (s.emit o).st m = s.st m := rfl
@[simp] theorem State.sending_st (o : List Out) : (s.sending o).st m = s.st m := rfl
@[simp] theorem State.stick_st (f : StickyFlags) : (s.stick f).st m = s.st m := rfl
@[simp] theorem State.setAlarms_st (f : Alarms → Alarms) : (s.setAlarms f).st m = s.st m := rfl
@[simp] theorem State.setBorrower_st (e : Borrower) : (s.setBorrower e).st m = s.st m := rfl
@[simp] theorem State.dropBorrower_st (b : Nat) : (s.dropBorrower b).st m = s.st m := rfl
@[simp] theorem State.touch_st (b : Nat) : (s.touch b).st m = s.st m := rfl
@[simp] theorem State.dropException_st (k : Nat) : (s.dropException k).st m = s.st m := rfl
@[simp] theorem State.dropLoan_st (k : Nat) : (s.dropLoan k).st m = s.st m := rfl
@[simp] theorem State.dropLoanOf_st (k : Nat) : (s.dropLoanOf k).st m = s.st m := rfl
@[simp] theorem State.countService_st (f : ServiceStats → ServiceStats) : (s.countService f).st m = s.st m := rfl

@[simp] theorem State.ask_st (q : Question) (c : Nat) : (s.ask q c).2.st m = s.st m := by
  simp [State.st]

@[simp] theorem State.lapse_st (t : Tag) (d : LapseDecision) : (s.lapse t d).st m = s.st m := by
  simp [State.st]

@[simp] theorem State.voidQuery_st (k : Option (Tag × Nat)) : (s.voidQuery k).st m = s.st m := by
  simp [State.st]

/-! ### Updates of one part of a station -/

@[simp] theorem State.updItem_parts (i : Nat) (f : Item → Item) :
    ((s.updItem n i f).st m).line = (s.st m).line ∧ ((s.updItem n i f).st m).alerts = (s.st m).alerts ∧
    ((s.updItem n i f).st m).slips = (s.st m).slips ∧ ((s.updItem n i f).st m).tallies = (s.st m).tallies ∧
    ((s.updItem n i f).st m).ctx.tx = (s.st m).ctx.tx := by
  by_cases h : m = n
  · subst h; simp
  · simp [State.updItem, h]

@[simp] theorem State.updCtx_tx {f : Ctx → Ctx} (h : ∀ c, (f c).tx = c.tx) :
    ((s.updCtx n f).st m).ctx.tx = (s.st m).ctx.tx := by
  by_cases hm : m = n
  · subst hm; simp [h]
  · simp [hm]

@[simp] theorem State.updTallies_printed {f : Tallies → Tallies} (h : ∀ t, (f t).printed = t.printed) :
    ((s.updTallies n f).st m).tallies.printed = (s.st m).tallies.printed := by
  by_cases hm : m = n
  · subst hm; simp [h]
  · simp [hm]

@[simp] theorem State.tallyRefusal_parts :
    ((s.tallyRefusal n).st m).line = (s.st m).line ∧ ((s.tallyRefusal n).st m).ctx = (s.st m).ctx ∧
    ((s.tallyRefusal n).st m).alerts = (s.st m).alerts ∧ ((s.tallyRefusal n).st m).slips = (s.st m).slips ∧
    ((s.tallyRefusal n).st m).tallies.printed = (s.st m).tallies.printed := by
  simp [State.tallyRefusal]

@[simp] theorem State.startTimer_keeps :
    (s.startTimer n).pending = s.pending ∧ (s.startTimer n).badges = s.badges ∧ ∀ m : StationNo,
    ((s.startTimer n).st m).line = (s.st m).line ∧
    ((s.startTimer n).st m).slips = (s.st m).slips ∧ ((s.startTimer n).st m).tallies = (s.st m).tallies ∧
    ((s.startTimer n).st m).ctx.tx = (s.st m).ctx.tx := by
  simp [State.startTimer, Ctx.startTimer]

@[simp] theorem State.addEntry_keeps (x : Item) :
    (s.addEntry n x).pending = s.pending ∧ (s.addEntry n x).badges = s.badges ∧ ∀ m : StationNo,
    ((s.addEntry n x).st m).line = (s.st m).line ∧
    ((s.addEntry n x).st m).slips = (s.st m).slips ∧ ((s.addEntry n x).st m).tallies = (s.st m).tallies ∧
    ((s.addEntry n x).st m).ctx.tx = (s.st m).ctx.tx := by
  simp [State.addEntry]

@[simp] theorem State.postLoan_keeps (f : Nat → Nat) :
    (s.postLoan n f).pending = s.pending ∧ (s.postLoan n f).badges = s.badges ∧ ∀ m : StationNo,
    ((s.postLoan n f).st m).line = (s.st m).line ∧
    ((s.postLoan n f).st m).slips = (s.st m).slips ∧ ((s.postLoan n f).st m).tallies = (s.st m).tallies ∧
    ((s.postLoan n f).st m).ctx.tx = (s.st m).ctx.tx := by
  simp only [State.postLoan]
  repeat' split
  all_goals simp

@[simp] theorem State.postDischarge_keeps (b : Option Nat) (f : Option FineResult) :
    (s.postDischarge b f).1.pending = s.pending ∧ (s.postDischarge b f).1.badges = s.badges ∧ ∀ m : StationNo,
    (s.postDischarge b f).1.st m = s.st m := by
  simp only [State.postDischarge]
  split <;> simp

@[simp] theorem Ctx.beginHold_closing (c : Ctx) : c.beginHold.tx = .closing ↔ c.tx = .closing := by
  simp only [Ctx.beginHold]
  split <;> simp_all

@[simp] theorem Ctx.endHold_closing (c : Ctx) : c.endHold.tx = .closing ↔ c.tx = .closing := by
  simp only [Ctx.endHold]
  split <;> simp_all

/-- R24, R139: the context after the report of the hold condition. -/
theorem State.reportHold_ctx : ((s.reportHold n).st n).ctx =
    if (s.st n).alerts.holds = (s.st n).alerts.hold then (s.st n).ctx
    else if (s.st n).alerts.holds then (s.st n).ctx.beginHold else (s.st n).ctx.endHold := by
  simp only [State.reportHold]
  split
  · rfl
  · repeat' split
    all_goals simp

/-- R24: the report of the hold condition neither begins nor ends a CLOSING. -/
@[simp] theorem State.reportHold_closing :
    ((s.reportHold n).st m).ctx.tx = .closing ↔ (s.st m).ctx.tx = .closing := by
  by_cases hm : m = n
  · subst hm
    rw [State.reportHold_ctx]
    split
    · rfl
    · split <;> simp
  · simp [hm]

@[simp] theorem State.settleAlerts_closing :
    ((s.settleAlerts n).st m).ctx.tx = .closing ↔ (s.st m).ctx.tx = .closing := by
  simp [State.settleAlerts]

@[simp] theorem State.requestLevel_closing (l : Level) (i : Nat) (o : Option Origin) :
    ((s.requestLevel n l i o).st m).ctx.tx = .closing ↔ (s.st m).ctx.tx = .closing := by
  have h : ∀ f, ((s.updAlerts n f).st m).ctx = (s.st m).ctx := by simp
  simp [State.requestLevel, h]

/-- The second part of a pair that is known. -/
theorem snd_of_eq {α β : Type} {p : α × β} {a : α} {b : β} (h : p = (a, b)) : b = p.2 := by rw [h]

/-! ### Decisions -/

@[simp] theorem State.journalFull_keeps :
    (s.journalFull n).pending = s.pending ∧ (s.journalFull n).badges = s.badges ∧ ∀ m : StationNo,
    ((s.journalFull n).st m).line = (s.st m).line ∧
    ((s.journalFull n).st m).slips = (s.st m).slips ∧
    ((s.journalFull n).st m).tallies.printed = (s.st m).tallies.printed ∧
    ((s.journalFull n).st m).ctx = (s.st m).ctx := by
  simp [State.journalFull]

@[simp] theorem State.refuseFull_keeps (i : Nat) :
    (s.refuseFull n i).pending = s.pending ∧ (s.refuseFull n i).badges = s.badges ∧ ∀ m : StationNo,
    ((s.refuseFull n i).st m).line = (s.st m).line ∧
    ((s.refuseFull n i).st m).slips = (s.st m).slips ∧
    ((s.refuseFull n i).st m).tallies.printed = (s.st m).tallies.printed ∧
    ((s.refuseFull n i).st m).ctx.tx = (s.st m).ctx.tx := by
  simp [State.refuseFull]

@[simp] theorem State.refuseItem_keeps (i : Nat) (r : Reason) (d : DecidedBy) :
    (s.refuseItem n i r d).pending = s.pending ∧ (s.refuseItem n i r d).badges = s.badges ∧ ∀ m : StationNo,
    ((s.refuseItem n i r d).st m).line = (s.st m).line ∧
    ((s.refuseItem n i r d).st m).slips = (s.st m).slips ∧
    ((s.refuseItem n i r d).st m).tallies.printed = (s.st m).tallies.printed ∧
    ((s.refuseItem n i r d).st m).ctx.tx = (s.st m).ctx.tx := by
  simp only [State.refuseItem]
  split <;> simp

@[simp] theorem State.noteLoan_keeps (d : DecidedBy) (u : Bool) (l : PendingLoan) :
    (s.noteLoan d u l).pending = s.pending ∧ (s.noteLoan d u l).badges = s.badges ∧ ∀ m : StationNo,
    (s.noteLoan d u l).st m = s.st m := by
  simp only [State.noteLoan]
  repeat' split
  all_goals simp [State.st]

@[simp] theorem State.itemFound_keeps (x : Item) :
    (s.itemFound n x).pending = s.pending ∧ (s.itemFound n x).badges = s.badges ∧ ∀ m : StationNo,
    ((s.itemFound n x).st m).line = (s.st m).line ∧
    ((s.itemFound n x).st m).slips = (s.st m).slips ∧ ((s.itemFound n x).st m).tallies = (s.st m).tallies ∧
    ((s.itemFound n x).st m).ctx.tx = (s.st m).ctx.tx := by
  simp [State.itemFound]

@[simp] theorem State.grantException_keeps (x : Item) (b : Nat) :
    (s.grantException n x b).pending = s.pending ∧ (s.grantException n x b).badges = s.badges ∧ ∀ m : StationNo,
    ((s.grantException n x b).st m).line = (s.st m).line ∧
    ((s.grantException n x b).st m).slips = (s.st m).slips ∧
    ((s.grantException n x b).st m).tallies = (s.st m).tallies ∧
    (((s.grantException n x b).st m).ctx.tx = .closing ↔ (s.st m).ctx.tx = .closing) := by
  simp only [State.grantException]
  repeat' split
  all_goals simp

@[simp] theorem State.grantWith_keeps (i : Nat) (x : Item) (b : Nat) (c : Calendar) (index : Nat) (r : Rule)
    (d : DecidedBy) (offline atOnce : Bool) :
    (s.grantWith n i x b c index r d offline atOnce).pending = s.pending ∧
    (s.grantWith n i x b c index r d offline atOnce).badges = s.badges ∧ ∀ m : StationNo,
    ((s.grantWith n i x b c index r d offline atOnce).st m).line = (s.st m).line ∧
    ((s.grantWith n i x b c index r d offline atOnce).st m).slips = (s.st m).slips ∧
    ((s.grantWith n i x b c index r d offline atOnce).st m).tallies.printed = (s.st m).tallies.printed ∧
    (((s.grantWith n i x b c index r d offline atOnce).st m).ctx.tx = .closing ↔ (s.st m).ctx.tx = .closing) := by
  simp only [State.grantWith]
  split <;> rename_i heq <;> cases snd_of_eq heq <;> simp

@[simp] theorem State.grant_keeps (i : Nat) (d : DecidedBy) (offline atOnce : Bool) :
    (s.grant n i d offline atOnce).pending = s.pending ∧ (s.grant n i d offline atOnce).badges = s.badges ∧
    ∀ m : StationNo,
    ((s.grant n i d offline atOnce).st m).line = (s.st m).line ∧
    ((s.grant n i d offline atOnce).st m).slips = (s.st m).slips ∧
    ((s.grant n i d offline atOnce).st m).tallies.printed = (s.st m).tallies.printed ∧
    (((s.grant n i d offline atOnce).st m).ctx.tx = .closing ↔ (s.st m).ctx.tx = .closing) := by
  simp only [State.grant]
  repeat' split
  all_goals simp

@[simp] theorem State.replaceClass_keeps (i : Nat) (k : Option Nat) :
    (s.replaceClass n i k).pending = s.pending ∧ (s.replaceClass n i k).badges = s.badges ∧ ∀ m : StationNo,
    ((s.replaceClass n i k).st m).line = (s.st m).line ∧
    ((s.replaceClass n i k).st m).slips = (s.st m).slips ∧ ((s.replaceClass n i k).st m).tallies = (s.st m).tallies ∧
    ((s.replaceClass n i k).st m).ctx.tx = (s.st m).ctx.tx := by
  simp only [State.replaceClass]
  split <;> simp

@[simp] theorem State.discharge_keeps (i : Nat) (d : Discharge) :
    (s.discharge n i d).pending = s.pending ∧ (s.discharge n i d).badges = s.badges ∧ ∀ m : StationNo,
    ((s.discharge n i d).st m).line = (s.st m).line ∧
    ((s.discharge n i d).st m).slips = (s.st m).slips ∧
    ((s.discharge n i d).st m).tallies.printed = (s.st m).tallies.printed ∧
    ((s.discharge n i d).st m).ctx.tx = (s.st m).ctx.tx := by
  simp only [State.discharge]
  split
  · simp
  · split <;> rename_i heq <;> cases snd_of_eq heq <;> simp

@[simp] theorem State.dischargeLoan_keeps (i : Nat) (l : PendingLoan) :
    (s.dischargeLoan n i l).pending = s.pending ∧ (s.dischargeLoan n i l).badges = s.badges ∧ ∀ m : StationNo,
    ((s.dischargeLoan n i l).st m).line = (s.st m).line ∧
    ((s.dischargeLoan n i l).st m).slips = (s.st m).slips ∧
    ((s.dischargeLoan n i l).st m).tallies.printed = (s.st m).tallies.printed ∧
    ((s.dischargeLoan n i l).st m).ctx.tx = (s.st m).ctx.tx := by
  simp only [State.dischargeLoan]
  repeat' split
  all_goals simp

@[simp] theorem State.dischargeOnLoan_keeps (i : Nat) (o : OnLoan) :
    (s.dischargeOnLoan n i o).pending = s.pending ∧ (s.dischargeOnLoan n i o).badges = s.badges ∧ ∀ m : StationNo,
    ((s.dischargeOnLoan n i o).st m).line = (s.st m).line ∧
    ((s.dischargeOnLoan n i o).st m).slips = (s.st m).slips ∧
    ((s.dischargeOnLoan n i o).st m).tallies.printed = (s.st m).tallies.printed ∧
    (((s.dischargeOnLoan n i o).st m).ctx.tx = .closing ↔ (s.st m).ctx.tx = .closing) := by
  simp only [State.dischargeOnLoan]
  repeat' split
  all_goals simp

/-- What the outcome of one item's query can change (R28, R34). -/
@[simp] theorem State.applyOutcome_keeps (i : Nat) (o : ItemOutcome) :
    (s.applyOutcome n i o).pending = s.pending ∧ (s.applyOutcome n i o).badges = s.badges ∧ ∀ m : StationNo,
    ((s.applyOutcome n i o).st m).line = (s.st m).line ∧
    ((s.applyOutcome n i o).st m).slips = (s.st m).slips ∧
    ((s.applyOutcome n i o).st m).tallies.printed = (s.st m).tallies.printed ∧
    (((s.applyOutcome n i o).st m).ctx.tx = .closing ↔ (s.st m).ctx.tx = .closing) := by
  simp only [State.applyOutcome]
  split
  · cases o <;> simp [State.applyCharge]
  · cases o <;> simp [State.applyDischarge]
  · simp

@[simp] theorem State.takeOutcome_keeps (i : Nat) (o : ItemOutcome) :
    (s.takeOutcome n i o).pending = s.pending ∧ (s.takeOutcome n i o).badges = s.badges ∧ ∀ m : StationNo,
    ((s.takeOutcome n i o).st m).line = (s.st m).line ∧
    ((s.takeOutcome n i o).st m).slips = (s.st m).slips ∧
    ((s.takeOutcome n i o).st m).tallies.printed = (s.st m).tallies.printed ∧
    (((s.takeOutcome n i o).st m).ctx.tx = .closing ↔ (s.st m).ctx.tx = .closing) := by
  simp only [State.takeOutcome]
  split <;> simp

/-- A fold keeps what each of its steps keeps. -/
theorem foldl_preserves {α β : Type} {P : β → Prop} {f : β → α → β} (h : ∀ b a, P b → P (f b a)) (xs : List α) {b : β}
    (hb : P b) : P (xs.foldl f b) := by
  induction xs generalizing b with
  | nil => exact hb
  | cons a xs ih => exact ih (h b a hb)

/-- R20: what the parked outcomes can change. -/
@[simp] theorem State.applyParked_keeps :
    (s.applyParked n).pending = s.pending ∧ (s.applyParked n).badges = s.badges ∧ ∀ m : StationNo,
    ((s.applyParked n).st m).line = (s.st m).line ∧
    ((s.applyParked n).st m).slips = (s.st m).slips ∧
    ((s.applyParked n).st m).tallies.printed = (s.st m).tallies.printed ∧
    (((s.applyParked n).st m).ctx.tx = .closing ↔ (s.st m).ctx.tx = .closing) := by
  simp only [State.applyParked]
  refine foldl_preserves (P := fun t : State => t.pending = s.pending ∧ t.badges = s.badges ∧ ∀ m,
    (t.st m).line = (s.st m).line ∧
    (t.st m).slips = (s.st m).slips ∧ (t.st m).tallies.printed = (s.st m).tallies.printed ∧
    ((t.st m).ctx.tx = .closing ↔ (s.st m).ctx.tx = .closing)) (fun t i ht => ?_) _ (by simp)
  repeat' split
  all_goals simpa using ht

@[simp] theorem State.awaitReply_keeps (i : Nat) (k : Tag × Nat) :
    (s.awaitReply n i k).pending = s.pending ∧ (s.awaitReply n i k).badges = s.badges ∧ ∀ m : StationNo,
    ((s.awaitReply n i k).st m).line = (s.st m).line := by
  simp [State.awaitReply]

@[simp] theorem State.decideCharge_keeps (i : Nat) :
    (s.decideCharge n i).pending = s.pending ∧ (s.decideCharge n i).badges = s.badges ∧ ∀ m : StationNo,
    ((s.decideCharge n i).st m).line = (s.st m).line := by
  simp only [State.decideCharge]
  split
  · simp
  · split
    · simp
    · split <;> rename_i heq <;> cases snd_of_eq heq <;> simp

@[simp] theorem State.decideDischarge_keeps (i : Nat) :
    (s.decideDischarge n i).pending = s.pending ∧ (s.decideDischarge n i).badges = s.badges ∧ ∀ m : StationNo,
    ((s.decideDischarge n i).st m).line = (s.st m).line := by
  simp only [State.decideDischarge]
  split
  · simp
  · split
    · simp
    · split
      · simp
      · split <;> rename_i heq <;> cases snd_of_eq heq <;> simp

@[simp] theorem State.checkLimit_keeps (i : Nat) :
    (s.checkLimit n i).pending = s.pending ∧ (s.checkLimit n i).badges = s.badges ∧ ∀ m : StationNo,
    ((s.checkLimit n i).st m).line = (s.st m).line := by
  simp only [State.checkLimit]
  repeat' split
  all_goals simp

@[simp] theorem State.checkCharge_keeps (i : Nat) :
    (s.checkCharge n i).pending = s.pending ∧ (s.checkCharge n i).badges = s.badges ∧ ∀ m : StationNo,
    ((s.checkCharge n i).st m).line = (s.st m).line := by
  simp only [State.checkCharge]
  repeat' split
  all_goals simp

@[simp] theorem State.dischargeNew_keeps (k cls : Nat) (c : Bool) :
    (s.dischargeNew n k cls c).pending = s.pending ∧ (s.dischargeNew n k cls c).badges = s.badges ∧ ∀ m : StationNo,
    ((s.dischargeNew n k cls c).st m).line = (s.st m).line := by
  simp only [State.dischargeNew]
  repeat' split
  all_goals simp

/-! ### The borrower check -/

@[simp] theorem State.endRefused_keeps :
    (s.endRefused n).pending = s.pending ∧ (s.endRefused n).badges = s.badges ∧ ∀ m : StationNo,
    ((s.endRefused n).st m).line = (s.st m).line := by
  simp [State.endRefused]

@[simp] theorem State.refuseBorrower_keeps (r : Reason) (d : DecidedBy) :
    (s.refuseBorrower n r d).pending = s.pending ∧ (s.refuseBorrower n r d).badges = s.badges ∧ ∀ m : StationNo,
    ((s.refuseBorrower n r d).st m).line = (s.st m).line := by
  simp [State.refuseBorrower]

@[simp] theorem State.refuseBorrowerSilently_keeps :
    (s.refuseBorrowerSilently n).pending = s.pending ∧ (s.refuseBorrowerSilently n).badges = s.badges ∧ ∀ m : StationNo,
    ((s.refuseBorrowerSilently n).st m).line = (s.st m).line := by
  simp [State.refuseBorrowerSilently]

@[simp] theorem State.refuseBorrowerFull_keeps :
    (s.refuseBorrowerFull n).pending = s.pending ∧ (s.refuseBorrowerFull n).badges = s.badges ∧ ∀ m : StationNo,
    ((s.refuseBorrowerFull n).st m).line = (s.st m).line := by
  simp [State.refuseBorrowerFull]

@[simp] theorem State.enterOpen_keeps :
    (s.enterOpen n).pending = s.pending ∧ (s.enterOpen n).badges = s.badges ∧ ∀ m : StationNo,
    ((s.enterOpen n).st m).line = (s.st m).line := by
  simp only [State.enterOpen]
  split <;> simp

@[simp] theorem State.acceptBorrower_keeps (e : Borrower) :
    (s.acceptBorrower n e).pending = s.pending ∧ (s.acceptBorrower n e).badges = s.badges ∧ ∀ m : StationNo,
    ((s.acceptBorrower n e).st m).line = (s.st m).line := by
  simp only [State.acceptBorrower]
  split
  · simp
  · exact foldl_preserves (P := fun t : State =>
      t.pending = s.pending ∧ t.badges = s.badges ∧ ∀ m, (t.st m).line = (s.st m).line)
      (fun t r ht => by simpa [State.requestReason] using ht) _ (by simp)

@[simp] theorem State.acceptEntry_keeps (e : Borrower) :
    (s.acceptEntry n e).pending = s.pending ∧ (s.acceptEntry n e).badges = s.badges ∧ ∀ m : StationNo,
    ((s.acceptEntry n e).st m).line = (s.st m).line := by
  simp only [State.acceptEntry]
  split <;> simp

@[simp] theorem State.acceptUntracked_keeps (e : Borrower) :
    (s.acceptUntracked n e).pending = s.pending ∧ (s.acceptUntracked n e).badges = s.badges ∧ ∀ m : StationNo,
    ((s.acceptUntracked n e).st m).line = (s.st m).line := by
  simp [State.acceptUntracked]

/-- R49, R51, R59: what the creation of a borrower entry leaves. -/
theorem State.createBorrower_keeps {e : Borrower} {t : State} (h : s.createBorrower e = some t) :
    t.pending = s.pending ∧ t.badges = s.badges ∧ ∀ m, (t.st m).line = (s.st m).line := by
  simp only [State.createBorrower] at h
  split at h
  · cases h
  · rename_i u hu
    have hk : u.pending = s.pending ∧ u.badges = s.badges ∧ ∀ m, (u.st m).line = (s.st m).line := by
      obtain ⟨he, -⟩ | ⟨b, -, he, -⟩ | ⟨-, he, -⟩ := s.makeRoom_cases <;> rw [he] at hu <;> cases hu <;> simp
    cases h
    split <;> simpa using hk

@[simp] theorem State.decideStranger_keeps (b : Nat) (d : DecidedBy) :
    (s.decideStranger n b d).pending = s.pending ∧ (s.decideStranger n b d).badges = s.badges ∧ ∀ m : StationNo,
    ((s.decideStranger n b d).st m).line = (s.st m).line := by
  simp only [State.decideStranger]
  split
  · simp
  · split <;> rename_i heq <;> cases snd_of_eq heq
    · simp
    · split
      · rename_i t ht
        split at ht
        · simpa using State.createBorrower_keeps _ ht
        · cases ht
      · simp

@[simp] theorem State.checkWithout_keeps (b : Nat) (d : DecidedBy) :
    (s.checkWithout n b d).pending = s.pending ∧ (s.checkWithout n b d).badges = s.badges ∧ ∀ m : StationNo,
    ((s.checkWithout n b d).st m).line = (s.st m).line := by
  simp only [State.checkWithout]
  split <;> simp

@[simp] theorem State.askLookup_keeps (b : Nat) :
    (s.askLookup n b).pending = s.pending ∧ (s.askLookup n b).badges = s.badges ∧ ∀ m : StationNo,
    ((s.askLookup n b).st m).line = (s.st m).line := by
  simp only [State.askLookup]
  split <;> rename_i heq <;> cases snd_of_eq heq <;> simp

@[simp] theorem State.startCheck_keeps (b : Nat) :
    (s.startCheck n b).pending = s.pending ∧ (s.startCheck n b).badges = s.badges ∧ ∀ m : StationNo,
    ((s.startCheck n b).st m).line = (s.st m).line := by
  simp only [State.startCheck]
  repeat' split
  all_goals simp

@[simp] theorem State.takeFound_pending (b : Nat) (f : Found) : (s.takeFound b f).pending = s.pending := by
  simp only [State.takeFound]
  repeat' split
  · rfl
  · simp
  · cases h : s.createBorrower (s.learned b f) with
    | none => rfl
    | some t => exact (State.createBorrower_keeps s h).1

@[simp] theorem State.checkFound_pending (b : Nat) (f : Found) : (s.checkFound n b f).pending = s.pending := by
  simp only [State.checkFound]
  split <;> simp

@[simp] theorem State.checkUnknown_pending (b : Nat) : (s.checkUnknown n b).pending = s.pending := by
  simp only [State.checkUnknown]
  repeat' split
  all_goals simp

/-! ### Opening in IDLE -/

@[simp] theorem State.borrowerInIdle_keeps (b : Nat) :
    (s.borrowerInIdle n b).pending = s.pending ∧ (s.borrowerInIdle n b).badges = s.badges ∧ ∀ m : StationNo,
    ((s.borrowerInIdle n b).st m).line = (s.st m).line := by
  simp only [State.borrowerInIdle]
  repeat' split
  all_goals simp

@[simp] theorem State.openRun_keeps (t : Tone) :
    (s.openRun n t).pending = s.pending ∧ (s.openRun n t).badges = s.badges ∧ ∀ m : StationNo,
    ((s.openRun n t).st m).line = (s.st m).line := by
  simp [State.openRun]

@[simp] theorem State.itemInIdle_keeps (k cls : Nat) (c : Bool) :
    (s.itemInIdle n k cls c).pending = s.pending ∧ (s.itemInIdle n k cls c).badges = s.badges ∧ ∀ m : StationNo,
    ((s.itemInIdle n k cls c).st m).line = (s.st m).line := by
  simp only [State.itemInIdle]
  split <;> simp

@[simp] theorem State.takeNext_keeps (a : NextAction) :
    (s.takeNext n a).pending = s.pending ∧ (s.takeNext n a).badges = s.badges ∧ ∀ m : StationNo,
    ((s.takeNext n a).st m).line = (s.st m).line := by
  cases a <;> simp [State.takeNext]

end Sys2Proof.Machine
end

section
/-! SUPPORT. That every command leaves the queue of commands (95_what_each_step_holds.md), operation by operation. -/

namespace Sys2Proof.Machine

variable (s : State) (n : StationNo)

/-! ### Closing, and the events of the resolver -/

@[simp] theorem State.withdrawBlocks_pending : (s.withdrawBlocks n).pending = s.pending :=
  foldl_keeps (·.pending) _ (by simp) _ s

@[simp] theorem State.settleSlip_pending : (s.settleSlip n).pending = s.pending := by
  simp only [State.settleSlip]
  split <;> simp

@[simp] theorem State.completeClose_pending : (s.completeClose n).pending = s.pending := by
  simp [State.completeClose]

@[simp] theorem State.close_pending : (s.close n).pending = s.pending := by
  simp only [State.close]
  split <;> simp

@[simp] theorem State.closeIfDone_pending : (s.closeIfDone n).pending = s.pending := by
  simp only [State.closeIfDone]
  split <;> simp

@[simp] theorem State.endEvent_pending (tone : Tone) {endings : State → State}
    (h : ∀ t, (endings t).pending = t.pending) : (s.endEvent n tone endings).pending = s.pending := by
  simp only [State.endEvent, State.closeIfDone_pending, State.finishShow_keeps, h]
  split <;> simp

@[simp] theorem State.faultEvent_pending (before : Bool) (tone : Tone) :
    (s.faultEvent n before tone).pending = s.pending := by
  simp only [State.faultEvent]
  repeat' split
  all_goals simp

@[simp] theorem State.borrowerEnding_pending (l : Level) : (s.borrowerEnding n l).pending = s.pending := by
  simp only [State.borrowerEnding]
  split <;> simp

@[simp] theorem State.refuseSilently_pending (i : Nat) : (s.refuseSilently n i).pending = s.pending := by
  simp [State.refuseSilently]

@[simp] theorem State.foldl_refuseItem_pending (is : List Nat) (r : Reason) (d : DecidedBy) :
    (is.foldl (fun s i => s.refuseItem n i r d) s).pending = s.pending :=
  foldl_keeps (·.pending) _ (by simp) _ s

@[simp] theorem State.foldl_refuseSilently_pending (is : List Nat) :
    (is.foldl (fun s i => s.refuseSilently n i) s).pending = s.pending :=
  foldl_keeps (·.pending) _ (by simp) _ s

@[simp] theorem State.foldl_decideCharge_pending (is : List Nat) :
    (is.foldl (fun s i => s.decideCharge n i) s).pending = s.pending :=
  foldl_keeps (·.pending) _ (by simp) _ s

@[simp] theorem State.acknowledge_pending : (s.acknowledge n).pending = s.pending := by
  simp only [State.acknowledge]
  repeat' split
  all_goals simp

@[simp] theorem State.overrideEnding_pending (l : Level) (b : Bool) :
    (State.overrideEnding n l b s).pending = s.pending := by
  simp only [State.overrideEnding]
  repeat' split
  all_goals simp

@[simp] theorem State.takeBadge_pending (k : Nat) : (s.takeBadge n k).pending = s.pending := by
  simp only [State.takeBadge]
  split
  · simp
  · split
    · simp
    · split <;> rename_i heq <;> cases snd_of_eq heq <;> simp

@[simp] theorem State.clearLevel_pending (l : Level) : (s.clearLevel n l).pending = s.pending := by
  simp only [State.clearLevel]
  repeat' split
  all_goals simp

@[simp] theorem State.withdrawItemLimit_pending : (s.withdrawItemLimit n).pending = s.pending := by
  simp only [State.withdrawItemLimit]
  split <;> simp

/-! ### Force-close -/

@[simp] theorem State.voidQueries_pending : (s.voidQueries n).pending = s.pending := by
  simp only [State.voidQueries]
  rw [foldl_keeps (·.pending) State.voidQuery (by simp)]
  simp

@[simp] theorem State.forceClose_pending (counted : Bool) : (s.forceClose n counted).pending = s.pending := by
  simp only [State.forceClose]
  split
  · rfl
  · simp only [State.tone_keeps, State.updCtx_keeps]
    rw [foldl_keeps (·.pending) (fun s l => s.withdrawResolved n l) (by simp)]
    split <;> simp

@[simp] theorem State.emptyAlerts_pending (fault : Bool) : (s.emptyAlerts n fault).pending = s.pending := by
  simp [State.emptyAlerts]

@[simp] theorem State.loseHead_pending : (s.loseHead n).pending = s.pending := by
  simp [State.loseHead]

/-! ### Desk lines -/

@[simp] theorem State.enterCheck_pending : (s.enterCheck n).pending = s.pending := by
  simp only [State.enterCheck]
  split <;> simp

@[simp] theorem State.wake_pending : (s.wake n).pending = s.pending := by
  simp only [State.wake]
  split <;> simp

@[simp] theorem State.fallSilent_pending : (s.fallSilent n).pending = s.pending := by
  simp only [State.fallSilent]
  split <;> simp

@[simp] theorem State.noteQuality_pending (q : Quality) : (s.noteQuality n q).pending = s.pending := by
  simp only [State.noteQuality]
  split <;> simp

@[simp] theorem State.tallyBadScan_pending : (s.tallyBadScan n).pending = s.pending := by
  simp [State.tallyBadScan]

@[simp] theorem State.scanInCheck_pending (o : ScanOutcome) : (s.scanInCheck n o).pending = s.pending := by
  cases o with
  | badge k => simp only [State.scanInCheck]; split <;> simp
  | _ => simp [State.scanInCheck]

@[simp] theorem State.closeFor_pending (a : NextAction) : (s.closeFor n a).pending = s.pending := by
  simp [State.closeFor]

@[simp] theorem State.borrowerScan_pending (b : Nat) : (s.borrowerScan n b).pending = s.pending := by
  simp only [State.borrowerScan]
  repeat' split
  all_goals simp

@[simp] theorem State.itemScan_pending (k cls : Nat) (c : Bool) : (s.itemScan n k cls c).pending = s.pending := by
  simp only [State.itemScan, State.itemInOpen, State.itemInReturns, State.refuseListFull]
  repeat' split
  all_goals simp

@[simp] theorem State.scanInActive_pending (o : ScanOutcome) : (s.scanInActive n o).pending = s.pending := by
  cases o <;> simp [State.scanInActive]

@[simp] theorem State.takeScan_pending (symbol : Text) : (s.takeScan n symbol).pending = s.pending := by
  simp only [State.takeScan]
  split <;> simp

@[simp] theorem State.voidGrant_pending (i : Nat) (x : Item) : (s.voidGrant n i x).pending = s.pending := by
  simp only [State.voidGrant]
  split <;> rename_i heq <;> cases snd_of_eq heq
  · simp
  · split <;> simp

@[simp] theorem State.cancelLast_pending : (s.cancelLast n).pending = s.pending := by
  simp only [State.cancelLast]
  repeat' split
  all_goals simp

@[simp] theorem State.keyInActive_pending (k : Key) : (s.keyInActive n k).pending = s.pending := by
  cases k <;> simp only [State.keyInActive, State.chargeKey, State.returnKey, State.cancelKey,
    State.acknowledge_pending] <;> split <;> simp

@[simp] theorem State.takeKey_pending (k : Key) : (s.takeKey n k).pending = s.pending := by
  simp only [State.takeKey]
  split <;> simp

@[simp] theorem State.takePrinter_pending (p : Printer) : (s.takePrinter n p).pending = s.pending := by
  simp only [State.takePrinter]
  split <;> simp

@[simp] theorem State.takeLockKey_pending (on : Bool) : (s.takeLockKey n on).pending = s.pending := by
  simp only [State.takeLockKey]
  split <;> simp

@[simp] theorem State.takeStatus_pending (r : HeadReport) : (s.takeStatus n r).pending = s.pending := by
  simp [State.takeStatus, State.checkSlip, State.takeCredit, State.noteToken]

@[simp] theorem State.discardSlips_pending : (s.discardSlips n).pending = s.pending := by
  simp only [State.discardSlips, State.feed_keeps, State.updSlips_keeps]
  exact foldl_keeps (·.pending) (fun s i => s.discardSlip n i) (by simp [State.discardSlip]) _ s

@[simp] theorem State.holdExpired_pending : (s.holdExpired n).pending = s.pending := by
  simp only [State.holdExpired]
  repeat' split
  all_goals simp

/-! ### Circulation service and clock -/

@[simp] theorem State.whileLinkUp_pending {s t : State} (h : t.pending = s.pending) :
    (s.whileLinkUp t).pending = s.pending :=
  State.whileLinkUp_keeps (P := fun t => t.pending = s.pending) rfl h

@[simp] theorem State.handItem_pending (p : Nat) (k : Tag × Nat) (o : ItemOutcome) :
    (s.handItem n p k o).pending = s.pending := by
  simp only [State.handItem]
  repeat' split
  all_goals simp

@[simp] theorem State.handOutcome_pending (k : Tag × Nat) (q : Question) (o : ReplyOutcome) :
    (s.handOutcome k q o).pending = s.pending := by
  simp only [State.handOutcome]
  repeat' split
  all_goals simp

@[simp] theorem State.compareLate_pending (q : Question) (d : LapseDecision) (o : ReplyOutcome) :
    (s.compareLate q d o).pending = s.pending := by
  simp only [State.compareLate, State.compareFine, State.conflict]
  repeat' split
  all_goals simp

@[simp] theorem State.takeLate_pending (t : Tag) (q : Question) (d : LapseDecision) (o : ReplyOutcome) :
    (s.takeLate t q d o).pending = s.pending := by
  simp only [State.takeLate]
  split <;> simp

@[simp] theorem State.takeReply_pending (r : ReplyMsg) : (s.takeReply r).pending = s.pending := by
  simp only [State.takeReply, State.staleReply]
  repeat' split
  all_goals simp

@[simp] theorem State.patienceExpired_pending (t : Tag) : (s.patienceExpired t).pending = s.pending := by
  simp only [State.patienceExpired, State.handLapse]
  repeat' split
  all_goals simp

@[simp] theorem State.lingerEnded_pending (t : Tag) : (s.lingerEnded t).pending = s.pending := by
  simp only [State.lingerEnded]
  split <;> simp

@[simp] theorem State.probeExpired_pending : s.probeExpired.pending = s.pending := by
  simp only [State.probeExpired]
  split <;> simp

@[simp] theorem State.probeAnswered_pending (g : Nat) : (s.probeAnswered g).pending = s.pending := by
  simp only [State.probeAnswered, State.staleReply]
  split <;> simp

@[simp] theorem State.linkWentDown_pending : s.linkWentDown.pending = s.pending := by
  simp only [State.linkWentDown]
  split <;> simp

@[simp] theorem State.linkCameUp_pending : s.linkCameUp.pending = s.pending := by
  simp only [State.linkCameUp, State.sendStartUp]
  repeat' split
  all_goals simp

@[simp] theorem State.tick_pending : s.tick.pending = s.pending := by
  simp only [State.tick, State.rollMinute]
  repeat' split
  all_goals simp [State.countSecond]

/-! ### Upload -/

@[simp] theorem State.acceptBlock_pending (b : Block) : (s.acceptBlock b).pending = s.pending := by
  have effects : ∀ t c, (State.acceptEffects t c).pending = t.pending := by
    intro t c
    simp only [State.acceptEffects]
    split <;> simp
  have pass : ∀ t : State, t.endPass.pending = t.pending := by
    intro t
    simp only [State.endPass]
    repeat' split
    all_goals simp
  simp only [State.acceptBlock]
  repeat' split
  all_goals simp [effects, pass]

@[simp] theorem State.retryBlock_pending (b : Block) : (s.retryBlock b).pending = s.pending := by
  simp only [State.retryBlock]
  split <;> simp

@[simp] theorem State.takeReceipt_pending (r : ReceiptMsg) : (s.takeReceipt r).pending = s.pending := by
  simp only [State.takeReceipt, State.mismatch]
  split <;> simp

@[simp] theorem State.receiptExpired_pending : s.receiptExpired.pending = s.pending := by
  simp only [State.receiptExpired]
  split <;> simp

@[simp] theorem State.sendCompleted_pending : s.sendCompleted.pending = s.pending := by
  simp only [State.sendCompleted]
  split <;> simp

@[simp] theorem State.windowEnded_pending : s.windowEnded.pending = s.pending := by
  simp only [State.windowEnded]
  split <;> simp

/-! ### Management -/

/-- R198, R207: a management message keeps the queue where its effect does. -/
theorem State.manage_pending (i : Instr) (tok : Token) (code : Byte) {run : State → State × Answer}
    (h : ∀ t, (run t).1.pending = t.pending) : (s.manage i tok code run).pending = s.pending := by
  simp only [State.manage, State.respond]
  split <;> simp [h]

/-- R199: so does a command with a body. -/
theorem withBody_pending {α : Type} {p : Body α} {body : List Byte} {f : α → State → State × Answer}
    (h : ∀ a t, (f a t).1.pending = t.pending) (t : State) : (withBody p body f t).1.pending = t.pending := by
  simp only [withBody]
  split <;> simp [h]

@[simp] theorem State.setShadow_pending (b : Bank) : (s.setShadow b).pending = s.pending := by
  simp only [State.setShadow]
  split <;> rfl

/-- R72: a load keeps the queue. -/
theorem withLoad_pending {α : Type} (p : Body α) (body : List Byte) (f : α → Bank → Bank) (t : State) :
    (withLoad p body f t).1.pending = t.pending := by
  simp only [withLoad]
  split <;> simp

theorem State.putBorrowerEntry_pending (e : Borrower) : (State.putBorrowerEntry e s).1.pending = s.pending := by
  simp only [State.putBorrowerEntry]
  split
  · simp
  · split
    · rename_i h; exact (State.createBorrower_keeps s h).1
    · rfl

theorem State.deleteBorrower_pending (b : Nat) : (State.deleteBorrower b s).1.pending = s.pending := by
  simp only [State.deleteBorrower]
  split <;> simp

theorem State.readBorrower_pending (b : Nat) : (State.readBorrower b s).1.pending = s.pending := by
  simp only [State.readBorrower]
  split <;> rfl

theorem State.putItem_pending (e : ItemException) : (State.putItem e s).1.pending = s.pending := by
  simp only [State.putItem]
  split <;> rfl

theorem State.deleteItem_pending (k : Nat) : (State.deleteItem k s).1.pending = s.pending := by
  simp only [State.deleteItem]
  split <;> simp

theorem State.loadCalendar_pending (body : List Byte) : (State.loadCalendar body s).1.pending = s.pending := by
  simp only [State.loadCalendar]
  split <;> simp

theorem State.swapBanks_pending : s.swapBanks.1.pending = s.pending := by
  simp only [State.swapBanks]
  split <;> simp

theorem State.setClock_pending (v : Nat × Nat × Nat) : (State.setClock v s).1.pending = s.pending := by
  simp only [State.setClock]
  split <;> simp

theorem State.commandLock_pending (on : Bool) (ns : List StationNo) :
    (State.commandLock on ns s).1.pending = s.pending :=
  foldl_keeps (·.pending) _ (by simp) ns s

theorem State.clearStation_pending : (State.clearStation n s).1.pending = s.pending := by
  simp only [State.clearStation]
  split <;> simp

theorem State.deskConfigured_pending (v : List StationNo × Nat × Nat × Nat) :
    (State.deskConfigured v s).1.pending = s.pending :=
  foldl_keeps (·.pending) _ (by simp [State.configureDesk]) v.1 s

theorem State.configureAlerts_pending (f : AlertFields) : (State.configureAlerts f s n).pending = s.pending := by
  simp only [State.configureAlerts]
  split <;> simp

theorem State.alertsConfigured_pending (v : List StationNo × AlertFields) :
    (State.alertsConfigured v s).1.pending = s.pending :=
  foldl_keeps (·.pending) _ (by simp [State.configureAlerts_pending]) v.1 s

theorem State.clearAlert_pending (v : StationNo × Level) : (State.clearAlert v s).1.pending = s.pending := by
  simp only [State.clearAlert]
  split <;> simp

theorem State.serviceConfigured_pending (f : ServiceFields) : (State.serviceConfigured f s).1.pending = s.pending := by
  simp only [State.serviceConfigured, State.reviewTrip]
  split <;> simp

theorem State.programLoaded_pending (p : Program) : (State.programLoaded p s).1.pending = s.pending := by
  simp only [State.programLoaded]
  split <;> simp

theorem State.uploadConfigured_pending (f : UploadFields) : (State.uploadConfigured f s).1.pending = s.pending := by
  simp only [State.uploadConfigured]
  split <;> simp

theorem State.triggered_pending : s.triggered.1.pending = s.pending := by
  simp only [State.triggered]
  split <;> simp

theorem State.stopped_pending : s.stopped.1.pending = s.pending := by
  simp only [State.stopped, State.stopRun]
  repeat' split
  all_goals simp

theorem State.journalConfigured_pending (v : Option Nat × Option Bool × Option Bool) :
    (State.journalConfigured v s).1.pending = s.pending := by
  simp [State.journalConfigured]

theorem State.clearJournal_pending : s.clearJournal.1.pending = s.pending := by
  simp only [State.clearJournal]
  split <;> simp

theorem State.alarmsConfigured_pending (v : Option Bool × Option Bool) :
    (State.alarmsConfigured v s).1.pending = s.pending := by
  simp [State.alarmsConfigured]

theorem State.latchGroup_pending (g : Group) : (State.latchGroup g s).1.pending = s.pending := by
  simp only [State.latchGroup]
  split <;> rfl

theorem State.readGroup_pending (g : Group) : (State.readGroup g s).1.pending = s.pending := by
  cases g <;> simp only [State.readGroup] <;> split <;> rfl

/-- R198: a management command taken, or held, leaves the queue. -/
@[simp] theorem State.takeCommand_pending (i : Instr) : (s.takeCommand i).pending = s.pending := by
  cases i with
  | unknownCommand tok code body =>
    simp only [State.takeCommand]
    split
    · rfl
    · exact s.manage_pending _ _ _ fun _ => rfl
  | borrowerPut => exact s.manage_pending _ _ _ (withBody_pending fun a t => t.putBorrowerEntry_pending a)
  | borrowerDelete => exact s.manage_pending _ _ _ (withBody_pending fun a t => t.deleteBorrower_pending a)
  | borrowerRead => exact s.manage_pending _ _ _ (withBody_pending fun a t => t.readBorrower_pending a)
  | itemPut => exact s.manage_pending _ _ _ (withBody_pending fun a t => t.putItem_pending a)
  | itemDelete => exact s.manage_pending _ _ _ (withBody_pending fun a t => t.deleteItem_pending a)
  | badgeSet => exact s.manage_pending _ _ _ (withBody_pending fun _ _ => rfl)
  | shadowClear => exact s.manage_pending _ _ _ (withLoad_pending _ _ _)
  | ruleLoad => exact s.manage_pending _ _ _ (withLoad_pending _ _ _)
  | matrixLoad => exact s.manage_pending _ _ _ (withLoad_pending _ _ _)
  | categoryLoad => exact s.manage_pending _ _ _ (withLoad_pending _ _ _)
  | bankSettingsLoad => exact s.manage_pending _ _ _ (withLoad_pending _ _ _)
  | calendarLoad => exact s.manage_pending _ _ _ fun t => t.loadCalendar_pending _
  | closedDatesLoad => exact s.manage_pending _ _ _ (withLoad_pending _ _ _)
  | openDatesLoad => exact s.manage_pending _ _ _ (withLoad_pending _ _ _)
  | bankSwap => exact s.manage_pending _ _ _ (withBody_pending fun _ t => t.swapBanks_pending)
  | clockSet => exact s.manage_pending _ _ _ (withBody_pending fun a t => t.setClock_pending a)
  | stationLock => exact s.manage_pending _ _ _ (withBody_pending fun a t => t.commandLock_pending _ a)
  | stationUnlock => exact s.manage_pending _ _ _ (withBody_pending fun a t => t.commandLock_pending _ a)
  | stationClear => exact s.manage_pending _ _ _ (withBody_pending fun a t => t.clearStation_pending a)
  | deskConfig => exact s.manage_pending _ _ _ (withBody_pending fun a t => t.deskConfigured_pending a)
  | alertConfig => exact s.manage_pending _ _ _ (withBody_pending fun a t => t.alertsConfigured_pending a)
  | alertPoll => exact s.manage_pending _ _ _ (withBody_pending fun _ _ => rfl)
  | alertClear => exact s.manage_pending _ _ _ (withBody_pending fun a t => t.clearAlert_pending a)
  | serviceConfig => exact s.manage_pending _ _ _ (withBody_pending fun a t => t.serviceConfigured_pending a)
  | uploadProgram => exact s.manage_pending _ _ _ (withBody_pending fun a t => t.programLoaded_pending a)
  | uploadConfig => exact s.manage_pending _ _ _ (withBody_pending fun a t => t.uploadConfigured_pending a)
  | uploadTrigger => exact s.manage_pending _ _ _ (withBody_pending fun _ t => t.triggered_pending)
  | uploadStop => exact s.manage_pending _ _ _ (withBody_pending fun _ t => t.stopped_pending)
  | journalConfig => exact s.manage_pending _ _ _ (withBody_pending fun a t => t.journalConfigured_pending a)
  | journalClear => exact s.manage_pending _ _ _ (withBody_pending fun _ t => t.clearJournal_pending)
  | alarmConfig => exact s.manage_pending _ _ _ (withBody_pending fun a t => t.alarmsConfigured_pending a)
  | latch => exact s.manage_pending _ _ _ (withBody_pending fun a t => t.latchGroup_pending a)
  | snapshotRead => exact s.manage_pending _ _ _ (withBody_pending fun a t => t.readGroup_pending a)
  | flagsReadClear => exact s.manage_pending _ _ _ (withBody_pending fun _ _ => rfl)
  | statusRead => exact s.manage_pending _ _ _ (withBody_pending fun _ _ => rfl)
  | restart => exact s.manage_pending _ _ _ (withBody_pending fun _ _ => rfl)
  | _ => rfl

/-! ### Resets -/

/-- R206: a power-on leaves the queue, which is the model's own. -/
theorem State.powerOn_pending (retain : Bool) (straps : Byte) : (s.powerOn retain straps).pending = s.pending := by
  cases retain <;> rfl

/-- R207: so does a restart with the messages held meanwhile. -/
theorem State.restarted_pending (straps : Byte) : (s.restarted straps).pending = s.pending :=
  foldl_keeps (·.pending) State.takeCommand (by simp) s.mgmt.held _

/-! ### Commands -/

theorem ite_pending {s t u : State} (b : Prop) [Decidable b] (ht : t.pending = s.pending) (hu : u.pending = s.pending) :
    (if b then t else u).pending = s.pending := by
  split <;> assumption

/-- Every command answers a next state whose queue is that of the state it is taken in. -/
theorem exec_pending (c : Instr) (s : State) : ∃ t, exec c s = .next t ∧ t.pending = s.pending := by
  cases c with
  | scan n symbol => exact ⟨_, rfl, ite_pending _ (by simp) (by simp)⟩
  | headStatus n r => exact ⟨_, rfl, ite_pending _ (by simp) (by simp)⟩
  | silenceTimeout n => exact ⟨_, rfl, ite_pending _ (by simp) (by simp)⟩
  | transactionTimerExpiry n => exact ⟨_, rfl, ite_pending _ (by simp) (by simp)⟩
  | minuteArrival => exact ⟨_, rfl, ite_pending _ (by simp) (by simp)⟩
  | powerOn retain straps => exact ⟨_, rfl, s.powerOn_pending retain straps⟩
  | restartTakesEffect straps => exact ⟨_, rfl, ite_pending _ (s.restarted_pending straps) (by simp)⟩
  | _ => exact ⟨_, rfl, by simp⟩

end Sys2Proof.Machine

namespace Sys2Proof.Proofs
open Sys2Proof Sys2Proof.Machine

/-- Settles O2: the operations keep the queue one by one, and a discarded frame or message only clears what was sent. -/
theorem commandsLeaveTheQueue : Obligations.CommandsLeaveTheQueue :=
  ⟨exec_pending, fun _ _ _ => ⟨rfl, rfl⟩⟩

end Sys2Proof.Proofs
end

section
/-! SUPPORT. Check digits (R12) and the settling of O4. -/

namespace Sys2Proof.Machine

theorem weightAt_eq (i : Nat) : weightAt i = [3, 7, 1].getD (i % 3) 0 := by
  obtain h | h | h : i % 3 = 0 ∨ i % 3 = 1 ∨ i % 3 = 2 := by omega
  all_goals simp [weightAt, h]

/-- R12: the weighted sum, as the sum over the digits with their positions. -/
theorem weightedSum_eq (ds : List Nat) (i : Nat) :
    weightedSum i ds = ((ds.zipIdx i).map fun p => [3, 7, 1].getD (p.2 % 3) 0 * p.1).sum := by
  induction ds generalizing i with
  | nil => rfl
  | cons d ds ih => simp [weightedSum, weightAt_eq, ih]

theorem numberOf_eq (ds : List Nat) : numberOf ds = ds.foldl (fun a d => 10 * a + d) 0 := by
  simp only [numberOf, Nat.mul_comm]

theorem labelClass_eq (ds : List Nat) : labelClass ds = 10 * ds.getD 1 0 + ds.getD 2 0 := by
  simp only [labelClass, Nat.mul_comm]

end Sys2Proof.Machine

namespace Sys2Proof.Proofs
open Sys2Proof Sys2Proof.Machine

/-- Settles O4: both sides test the same check digit, and the form gives the outcome. -/
theorem checkDigitOfEveryForm : Obligations.CheckDigitOfEveryForm := by
  intro symbol ds f hd hf
  have hsum : checkDigit ds.dropLast =
      (10 - ((ds.dropLast.zipIdx).map fun p => [3, 7, 1].getD (p.2 % 3) 0 * p.1).sum % 10) % 10 := by
    rw [checkDigit, weightedSum_eq]
  simp only [classify, hd, hf, ← hsum, ← numberOf_eq, ← labelClass_eq]
  by_cases hc : checkDigit ds.dropLast = ds.getLastD 0
  · rw [if_pos hc, if_neg (not_not.mpr hc.symm)]
    cases f with
    | item => rw [clampClass, Nat.min_comm]; rfl
    | _ => rfl
  · rw [if_neg hc, if_pos (Ne.symm hc)]

end Sys2Proof.Proofs
end

section
/-! SUPPORT. One second of the timers, and the settling of O28. -/

namespace Sys2Proof.Machine

@[simp] theorem State.countSecond_st (s : State) (n : StationNo) : s.countSecond.st n = (s.st n).second := by
  simp [State.countSecond, State.st]

@[simp] theorem State.countSecond_query (s : State) (g : Tag) :
    s.countSecond.queries[g] = { s.queries[g] with state := s.queries[g].state.second } := by
  simp [State.countSecond]

/-- R86: a second within a minute is the timers' second with the clock's. -/
theorem State.tick_within (s : State) (h : s.clock.second < 59) :
    s.tick = { s.countSecond with clock := { s.clock with second := s.clock.second + 1 } } :=
  if_pos h

end Sys2Proof.Machine

namespace Sys2Proof.Proofs
open Sys2Proof Sys2Proof.Machine

/-- Settles O28: `State.countSecond` is one second of every timer, station by station and query by query. -/
theorem secondCountsTimersDown : Obligations.SecondCountsTimersDown := by
  intro s h
  refine ⟨_, rfl, fun n => ?_, fun g => ?_, ?_⟩
  · rw [State.tick_within s.fresh h]
    show (s.countSecond.st n) = _
    rw [State.countSecond_st, Station.second]
    cases (s.st n).ctx.timer <;> rfl
  · rw [State.tick_within s.fresh h]
    show s.countSecond.queries[g] = _
    rw [State.countSecond_query]
    cases s.queries[g].state <;> rfl
  · rw [State.tick_within s.fresh h]
    rfl

end Sys2Proof.Proofs
end

section
/-! SUPPORT. Numbers and fields as bytes, desk frames and trunk messages read back (R1, R197, R198, R208), and the
settling of O53. -/

namespace Sys2Proof.Machine

/-! ### Numbers as bytes -/

theorem be_succ (w n : Nat) : be (w + 1) n = BitVec.ofNat 8 (n / 256 ^ w) :: be w n := by
  simp [be, List.range_succ]

@[simp] theorem length_be (w n : Nat) : (be w n).length = w := by
  simp [be]

theorem beNat_cons (b : Byte) (bs : List Byte) : beNat (b :: bs) = b.toNat * 256 ^ bs.length + beNat bs := by
  have key : ∀ (bs : List Byte) (a : Nat),
      bs.foldl (fun a b => a * 256 + b.toNat) a = a * 256 ^ bs.length + beNat bs := by
    intro bs
    induction bs with
    | nil => intro a; simp [beNat]
    | cons c cs ih =>
      intro a
      have h := ih (0 * 256 + c.toNat)
      simp only [beNat, List.foldl_cons, List.length_cons] at h ⊢
      rw [h, ih]
      simp only [beNat]
      ring
  have h := key bs (0 * 256 + b.toNat)
  simpa [beNat] using h

/-- R208: the bytes of a number read back. -/
@[simp] theorem beNat_be (w n : Nat) : beNat (be w n) = n % 256 ^ w := by
  induction w with
  | zero => simp [be, beNat, Nat.mod_one]
  | succ w ih =>
    have split : n % (256 ^ w * 256) = n % 256 ^ w + 256 ^ w * (n / 256 ^ w % 256) := Nat.mod_mul
    rw [be_succ, beNat_cons, ih, length_be, BitVec.toNat_ofNat, pow_succ 256 w, split, Nat.add_comm,
      Nat.mul_comm]

theorem byte_toNat {k : Nat} (h : k < 256) : (byte k).toNat = k := by
  simp [byte, Nat.mod_eq_of_lt h]

/-! ### Fields at their offsets -/

theorem slice_skip {xs ys : List Byte} {off w : Nat} (h : xs.length ≤ off) :
    slice (xs ++ ys) off w = slice ys (off - xs.length) w := by
  simp [slice, List.drop_append, List.drop_eq_nil_of_le h]

theorem slice_cons (b : Byte) (bs : List Byte) (off w : Nat) : slice (b :: bs) (off + 1) w = slice bs off w := rfl

theorem slice_here {xs ys : List Byte} {w : Nat} (h : xs.length = w) : slice (xs ++ ys) 0 w = xs := by
  simp [slice, ← h]

theorem slice_all {xs : List Byte} {w : Nat} (h : xs.length = w) : slice xs 0 w = xs := by
  simp [slice, ← h]

/-! ### Desk frames -/

theorem xorAll_closed (bs : List Byte) : xorAll (bs ++ [xorAll bs]) = 0 := by
  simp [xorAll]

/-- R208: the kind and the body of a frame. -/
theorem framed_deskFrame (k : Nat) {body : List Byte} (h : body.length < 256) :
    framed (deskFrame k body) = some (byte k, body) := by
  have hx : xorAll (byte k :: byte body.length :: (body ++ [xorAll (byte k :: byte body.length :: body)])) = 0 :=
    xorAll_closed (byte k :: byte body.length :: body)
  have hl : (body ++ [xorAll (byte k :: byte body.length :: body)]).length = (byte body.length).toNat + 1 := by
    simp [byte_toNat h]
  exact (if_pos ⟨rfl, hl, hx⟩).trans (congrArg (fun b => some (byte k, b)) List.dropLast_concat)

theorem tokenField_be {tok : Option Nat} (h : ∀ k, tok = some k → 1 ≤ k ∧ k ≤ 65535) :
    tokenField (beNat (be 2 (tok.getD 0))) = tok := by
  cases tok with
  | none => simp [tokenField]
  | some k =>
    obtain ⟨h1, h2⟩ := h k rfl
    have : k % 65536 = k := Nat.mod_eq_of_lt (by omega)
    have hk : k ≠ 0 := by omega
    simp [tokenField, this, hk]

theorem be_two (n : Nat) : ∃ a b, be 2 n = [a, b] := ⟨_, _, rfl⟩

/-- R1: the frame of a HEAD_STATUS read back. -/
theorem decodeDesk_headStatus (n : StationNo) {r : HeadReport} (h : validReport r = true) :
    decodeDesk n (deskFrame 3 ([byte r.printer.ctorIdx] ++ firstOf r.lockKey ++ [byte r.credit] ++
      be 2 (r.token.getD 0))) = some (.headStatus n r) := by
  obtain ⟨p, l, c, t⟩ := r
  simp only [validReport, Bool.and_eq_true, decide_eq_true_eq] at h
  obtain ⟨hc, ht⟩ := h
  have hb : (byte c).toNat = c := byte_toNat (by omega)
  have htok := tokenField_be (tok := t) fun k hk => by subst hk; simpa using ht
  obtain ⟨a, b, hab⟩ := be_two (t.getD 0)
  rw [hab] at htok
  have hp : printers[(byte p.ctorIdx).toNat]? = some p := by cases p <;> rfl
  have hl : lockKeys[(byte (!l).toNat).toNat]? = some l := by cases l <;> rfl
  rw [hab, decodeDesk, framed_deskFrame 3 (by simp [firstOf])]
  simp only [firstOf, List.cons_append, List.nil_append]
  rw [if_neg (by decide), if_neg (by decide), if_pos (by decide)]
  simp only [hp, hl, hb, hc, htok, if_true]

/-- R1: the frame of a KEY read back. -/
theorem decodeDesk_key (n : StationNo) (k : Key) :
    decodeDesk n (deskFrame 2 [byte k.ctorIdx]) = some (.key n k) := by
  rw [decodeDesk, framed_deskFrame 2 (by simp)]
  cases k <;> rfl

/-- R1: the frame of a SCAN read back. -/
theorem decodeDesk_scan (n : StationNo) {symbol : Text} (h : validSymbol symbol = true) :
    decodeDesk n (deskFrame 1 symbol) = some (.scan n symbol) := by
  have hs : symbol.length ≤ 20 := by simp [validSymbol] at h; exact h.2
  rw [decodeDesk, framed_deskFrame 1 (by omega)]
  exact if_pos h

/-! ### Trunk messages -/

/-- R197: a message to this cabinet whose length field agrees is read by its class. -/
theorem decodeTrunk_message {cls cabinet : Nat} {body : List Byte} (hk : cls < 256) (hc : cabinet < 256)
    (hb : body.length < 65536) : decodeTrunk cabinet (trunkMessage cls cabinet body) = decodeClass cls body := by
  have h0 : fieldAt (trunkMessage cls cabinet body) 0 1 = cls := by
    simp [fieldAt, slice, trunkMessage, beNat, byte, Nat.mod_eq_of_lt hk]
  have h1 : fieldAt (trunkMessage cls cabinet body) 1 1 = cabinet := by
    simp [fieldAt, slice, trunkMessage, beNat, byte, Nat.mod_eq_of_lt hc]
  have h2 : fieldAt (trunkMessage cls cabinet body) 2 2 = body.length := by
    have hs : slice (trunkMessage cls cabinet body) 2 2 = be 2 body.length := by
      rw [trunkMessage, List.append_assoc, slice_skip (by simp)]
      exact slice_here (by simp)
    simp [fieldAt, hs, Nat.mod_eq_of_lt hb]
  have h4 : (trunkMessage cls cabinet body).drop 4 = body := by
    simp [trunkMessage]
  have hl : 4 ≤ (trunkMessage cls cabinet body).length := by
    simp only [trunkMessage, List.length_append, List.length_cons, List.length_nil, length_be]
    omega
  simp [decodeTrunk, h0, h1, h2, h4, hl]

/-- R198: a management message read back as its token, its code and its body. -/
theorem decodeTrunk_management {cabinet : Nat} (tok : Token) (code : Byte) {body : List Byte} (hc : cabinet < 256)
    (hb : body.length < 65531) :
    decodeTrunk cabinet (trunkMessage 0 cabinet (be 4 tok.toNat ++ [code] ++ body)) =
      some (managementCommand tok code body) := by
  have ht : fieldAt (be 4 tok.toNat ++ ([code] ++ body)) 0 4 = tok.toNat := by
    have : tok.toNat % 256 ^ 4 = tok.toNat := Nat.mod_eq_of_lt tok.isLt
    rw [fieldAt, slice_here (by simp), beNat_be, this]
  rw [decodeTrunk_message (by decide) hc (by simp; omega), List.append_assoc]
  have h5 : 5 ≤ (be 4 tok.toNat ++ ([code] ++ body)).length := by simp; omega
  have hd : (be 4 tok.toNat).drop 5 = [] := List.drop_eq_nil_of_le (by simp)
  rw [decodeClass, if_pos rfl, if_pos h5, ht]
  simp [List.drop_append, hd]

/-- R198: the command that a code of the list, or another code, names. -/
theorem managementCommand_of {i : Instr} {tok : Token} {code : Byte} {body : List Byte}
    (h : commandOf i = some (tok, code, body)) (hw : i.wf = true) : managementCommand tok code body = i := by
  cases i with
  | unknownCommand tok' code' body' =>
    simp only [commandOf, Option.some.injEq, Prod.mk.injEq] at h
    obtain ⟨rfl, rfl, rfl⟩ := h
    simp only [Instr.wf, Bool.and_eq_true, Bool.not_eq_true'] at hw
    have hn : commandTable.find? (fun p => p.1 == code') = none := by
      rw [List.find?_eq_none]
      intro p hp hb
      have hm : code' ∈ commandCodes := List.mem_map.mpr ⟨p, hp, by simpa using hb⟩
      have : commandCodes.contains code' = true := by simpa using hm
      rw [this] at hw
      exact absurd hw.1 (by decide)
    simp [managementCommand, hn]
  | _ => cases h <;> rfl

theorem wf_body_length {i : Instr} {tok : Token} {code : Byte} {body : List Byte}
    (h : commandOf i = some (tok, code, body)) (hw : i.wf = true) : body.length < 65531 := by
  cases i <;> cases h
  case unknownCommand => simp only [Instr.wf, Bool.and_eq_true, decide_eq_true_eq] at hw; exact hw.2
  all_goals exact of_decide_eq_true hw

/-- R208: the bytes of a REPLY read back. -/
theorem decodeReply_replyBytes {r : ReplyMsg} (h : r.wf = true) : decodeReply (replyBytes r) = r := by
  simp only [ReplyMsg.wf, List.all_cons, List.all_nil, Bool.and_true, Bool.and_eq_true, decide_eq_true_eq] at h
  obtain ⟨⟨⟨⟨⟨h1, h2, h3, h4, h5, h6, h7, h8, h9⟩, h10, h11, h12, h13⟩, h14⟩, hb⟩, hi⟩ := h
  cases r
  simp only at *
  simp only [decodeReply, replyBytes, List.append_assoc, fieldAt, ReplyMsg.mk.injEq]
  simp [slice_here, slice_skip, slice_all, slice_cons, Nat.mod_eq_of_lt, *]

/-- R208: the four kinds of desk frame read back. -/
theorem decodeDesk_deskBytes {n : StationNo} {i : Instr} {bytes : List Byte} (hw : i.wf = true)
    (hl : lineOf i = some n) (hb : deskBytes i = some bytes) : decodeDesk n bytes = some i := by
  cases i <;> cases hb <;> cases hl
  case scan => exact decodeDesk_scan n hw
  case key k => exact decodeDesk_key n k
  case headStatus => exact decodeDesk_headStatus n hw
  case attach => simp [decodeDesk, framed_deskFrame 4 (body := []) (by simp), byte]

/-- R208: the messages to the part read back. -/
theorem decodeTrunk_trunkBytes {cabinet : Nat} {i : Instr} {bytes : List Byte} (hc : cabinet < 256) (hw : i.wf = true)
    (hb : trunkBytes cabinet i = some bytes) : decodeTrunk cabinet bytes = some i := by
  have management : (commandOf i).map (fun c => (0, be 4 c.1.toNat ++ [c.2.1] ++ c.2.2)) = classBytes i →
      decodeTrunk cabinet bytes = some i := by
    intro h
    rw [trunkBytes, ← h] at hb
    cases hi : commandOf i with
    | none => simp [hi] at hb
    | some c =>
      obtain ⟨tok, code, body⟩ := c
      simp only [hi, Option.map_some, Option.some.injEq] at hb
      rw [← hb, decodeTrunk_management tok code hc (wf_body_length hi hw), managementCommand_of hi hw]
  cases i with
  | reply r =>
    obtain rfl : trunkMessage 4 cabinet (replyBytes r) = bytes := Option.some.inj hb
    have hlen : (replyBytes r).length = 44 := by
      simp only [Instr.wf, ReplyMsg.wf, Bool.and_eq_true, decide_eq_true_eq] at hw
      simp [replyBytes, hw.1.2, hw.2]
    rw [decodeTrunk_message (by decide) hc (by omega)]
    simp [decodeClass, hlen, decodeReply_replyBytes hw]
  | probeAnswer gen =>
    obtain rfl : trunkMessage 6 cabinet (be 1 gen) = bytes := Option.some.inj hb
    have hg : gen % 256 = gen := Nat.mod_eq_of_lt (of_decide_eq_true hw)
    rw [decodeTrunk_message (by decide) hc (by simp)]
    simp [decodeClass, fieldAt, slice_all, hg]
  | receipt r =>
    obtain ⟨run, slot, block, v⟩ := r
    obtain rfl : trunkMessage 8 cabinet _ = bytes := Option.some.inj hb
    simp only [Instr.wf, ReceiptMsg.wf, Bool.and_eq_true, decide_eq_true_eq] at hw
    obtain ⟨⟨h1, h2⟩, h3⟩ := hw
    rw [decodeTrunk_message (by decide) hc (by simp)]
    simp [decodeClass, fieldAt, List.append_assoc, slice_here, slice_skip, slice_all, Nat.mod_eq_of_lt, h1, h2, h3]
    cases v <;> rfl
  | _ => exact management rfl

end Sys2Proof.Machine

namespace Sys2Proof.Proofs
open Sys2Proof Sys2Proof.Machine

/-- Settles O53: each layout read back field by field. -/
theorem arrivalsRoundTrip : Obligations.ArrivalsRoundTrip :=
  ⟨fun _ _ _ => decodeDesk_deskBytes, fun _ _ _ => decodeTrunk_trunkBytes⟩

end Sys2Proof.Proofs
end

section
/-! SUPPORT. The alert resolver: its sets and settings under resolution (R134 to R139), and an event of it at a station
whose context is cleared. -/

namespace Sys2Proof.Machine

/-! ### Sets of levels -/

@[simp] theorem LevelSet.mem_insert (x : LevelSet) (l k : Level) : (x.insert l).mem k = (decide (k = l) || x.mem k) := by
  cases l <;> cases k <;> rfl

@[simp] theorem LevelSet.mem_erase (x : LevelSet) (l k : Level) : (x.erase l).mem k = (!decide (k = l) && x.mem k) := by
  cases l <;> cases k <;> rfl

@[simp] theorem LevelSet.mem_empty (k : Level) : LevelSet.empty.mem k = false := by
  cases k <;> rfl

@[simp] theorem LevelSet.mem_onlyL0 (k : Level) : LevelSet.onlyL0.mem k = decide (k = .l0) := by
  cases k <;> rfl

/-- R136: a search of the priority order finds the one level that qualifies. -/
theorem find_orderFrom (low l : Level) : (orderFrom low).find? (fun k => decide (k = l)) = some l := by
  cases low <;> cases l <;> rfl

/-! ### Operations on the sets -/

variable (r : Resolver)

@[simp] theorem Resolver.showing_fst : r.showing.1 = r.displayed := by
  unfold Resolver.showing
  cases r.displayed <;> rfl

@[simp] theorem Resolver.tidy_keeps (l : Level) :
    (r.tidy l).pending = r.pending ∧ (r.tidy l).inService = r.inService ∧ (r.tidy l).mask = r.mask ∧
    (r.tidy l).holdSet = r.holdSet ∧ (r.tidy l).autoAck = r.autoAck ∧ (r.tidy l).staged = r.staged := by
  unfold Resolver.tidy
  split <;> simp

@[simp] theorem Resolver.rotate_keeps (l : Level) :
    (r.rotate l).pending = r.pending ∧ (r.rotate l).inService = r.inService ∧ (r.rotate l).mask = r.mask ∧
    (r.rotate l).holdSet = r.holdSet ∧ (r.rotate l).autoAck = r.autoAck ∧ (r.rotate l).staged = r.staged := by
  unfold Resolver.rotate
  split <;> simp

@[simp] theorem Resolver.leave_keeps (l : Level) :
    (r.leave l).pending = r.pending ∧ (r.leave l).mask = r.mask ∧ (r.leave l).holdSet = r.holdSet ∧
    (r.leave l).autoAck = r.autoAck ∧ (r.leave l).staged = r.staged := by
  unfold Resolver.leave
  split <;> simp

/-- R134, R136: a level that leaves service stands there no more; every other stays. -/
@[simp] theorem Resolver.leave_inService (l k : Level) :
    (r.leave l).inService.mem k = (!decide (k = l) && r.inService.mem k) := by
  unfold Resolver.leave
  split
  · simp
  · by_cases h : k = l <;> simp_all

@[simp] theorem Resolver.withdraw_keeps (l : Level) :
    (r.withdraw l).mask = r.mask ∧ (r.withdraw l).holdSet = r.holdSet ∧ (r.withdraw l).autoAck = r.autoAck ∧
    (r.withdraw l).staged = r.staged := by
  simp [Resolver.withdraw, Resolver.unpend]

/-- R134: a level withdrawn stands in neither set. -/
@[simp] theorem Resolver.withdraw_sets (l k : Level) :
    (r.withdraw l).pending.mem k = (!decide (k = l) && r.pending.mem k) ∧
    (r.withdraw l).inService.mem k = (!decide (k = l) && r.inService.mem k) := by
  simp [Resolver.withdraw, Resolver.unpend]

/-- R137: the level that resolution takes is pending. -/
theorem Resolver.pending_of_candidate {r : Resolver} {l : Level} (h : r.candidate = some l) : r.pending.mem l = true := by
  unfold Resolver.candidate at h
  split at h
  · rename_i k hk
    have hp := List.find?_some hk
    split at h
    · cases h
    · cases h; simp_all
  · cases h

/-! ### Resolution -/

/-- R137, R138: what holds of the resolver, and survives each move of resolution, holds when resolution ends: a candidate
enters service and is shown, and an auto-ack level leaves again. -/
theorem State.resolve_preserves {P : Resolver → Prop} {n : StationNo}
    (serve : ∀ r l, r.candidate = some l → P r → P (r.serve l))
    (shown : ∀ r x, P r → P { r with shown := x })
    (leave : ∀ r l, r.autoAck.mem l = true → P r → P (r.leave l)) :
    ∀ (k : Nat) (s : State), P (s.st n).alerts → P ((State.resolve n k s).st n).alerts
  | 0, _, h => h
  | k + 1, s, h => by
    simp only [State.resolve]
    split
    · exact h
    · rename_i l hl
      have hs : P (((s.updAlerts n fun r => r.serve l).showAlerts n .none).st n).alerts := by
        simpa [State.showAlerts] using shown _ _ (serve _ l hl h)
      split
      · rename_i ha
        refine State.resolve_preserves serve shown leave k _ ?_
        simpa using leave _ l ha hs
      · exact hs

/-- The settings of a resolver (R144), which no event but an ALERT_CONFIG changes. -/
def Resolver.settings (r : Resolver) : LevelSet × LevelSet × LevelSet × Option AlertFields :=
  (r.mask, r.holdSet, r.autoAck, r.staged)

@[simp] theorem State.resolve_settings (s : State) (n : StationNo) (k : Nat) :
    ((State.resolve n k s).st n).alerts.settings = (s.st n).alerts.settings :=
  State.resolve_preserves (P := fun r => r.settings = (s.st n).alerts.settings)
    (fun _ _ _ h => h) (fun _ _ h => h) (fun r l _ h => by simpa [Resolver.settings] using h) k s rfl

/-- R137: a level that stands in a set goes on standing in one, unless it is acknowledged at once. -/
theorem State.resolve_stands {s : State} {n : StationNo} {l : Level} (k : Nat)
    (ha : (s.st n).alerts.autoAck.mem l = false)
    (hl : (s.st n).alerts.pending.mem l = true ∨ (s.st n).alerts.inService.mem l = true) :
    ((State.resolve n k s).st n).alerts.pending.mem l = true ∨
      ((State.resolve n k s).st n).alerts.inService.mem l = true := by
  refine (State.resolve_preserves (P := fun r => r.autoAck.mem l = false ∧ (r.pending.mem l = true ∨
    r.inService.mem l = true)) ?_ (fun _ _ h => h) ?_ k s ⟨ha, hl⟩).2
  · rintro r k - ⟨h1, h2⟩
    refine ⟨h1, ?_⟩
    by_cases hk : l = k <;> simp_all [Resolver.serve]
  · rintro r k hk ⟨h1, h2⟩
    have : l ≠ k := by rintro rfl; simp [h1] at hk
    simpa [this, h1] using h2

/-- R137: resolution brings in no level that stands in neither set. -/
theorem State.resolve_absent {s : State} {n : StationNo} {l : Level} (k : Nat)
    (hp : (s.st n).alerts.pending.mem l = false) (hi : (s.st n).alerts.inService.mem l = false) :
    ((State.resolve n k s).st n).alerts.pending.mem l = false ∧
      ((State.resolve n k s).st n).alerts.inService.mem l = false := by
  refine State.resolve_preserves (P := fun r => r.pending.mem l = false ∧ r.inService.mem l = false)
    ?_ (fun _ _ h => h) ?_ k s ⟨hp, hi⟩
  · rintro r k hk ⟨h1, h2⟩
    have hpk := Resolver.pending_of_candidate hk
    have : l ≠ k := by rintro rfl; simp [h1] at hpk
    simp [Resolver.serve, h1, h2, this]
  · rintro r k - ⟨h1, h2⟩
    simp [h1, h2]

/-- R137: resolution with nothing to take. -/
theorem State.resolve_none {s : State} {n : StationNo} (k : Nat) (h : (s.st n).alerts.candidate = none) :
    State.resolve n k s = s := by
  cases k with
  | zero => rfl
  | succ k => simp [State.resolve, h]

/-! ### What is left of the resolver by the end of its event -/

variable (s : State) (n : StationNo)

@[simp] theorem State.showAlerts_alerts (t : Tone) :
    ((s.showAlerts n t).st n).alerts = { (s.st n).alerts with shown := (s.st n).alerts.showing } := by
  simp [State.showAlerts]

@[simp] theorem State.reportHold_sets :
    ((s.reportHold n).st n).alerts.pending = (s.st n).alerts.pending ∧
    ((s.reportHold n).st n).alerts.inService = (s.st n).alerts.inService ∧
    ((s.reportHold n).st n).alerts.settings = (s.st n).alerts.settings := by
  simp only [State.reportHold]
  repeat' split
  all_goals simp [Resolver.settings]

@[simp] theorem State.finishShow_sets (t : Tone) :
    ((s.finishShow n t).st n).alerts.pending = (s.st n).alerts.pending ∧
    ((s.finishShow n t).st n).alerts.inService = (s.st n).alerts.inService ∧
    ((s.finishShow n t).st n).alerts.settings = (s.st n).alerts.settings := by
  simp only [State.finishShow]
  split <;> simp [Resolver.settings]

/-! ### What has been sent stays sent -/

variable {s}

theorem State.mem_sendDesk {o : Out} (h : o ∈ s.sent) (f : DeskOut) : o ∈ (s.sendDesk n f).sent := by
  unfold State.sendDesk
  split <;> simp [h]

theorem State.mem_tone {o : Out} (h : o ∈ s.sent) (t : Tone) : o ∈ (s.tone n t).sent :=
  State.mem_sendDesk n h _

theorem State.mem_showAlerts {o : Out} (h : o ∈ s.sent) (t : Tone) : o ∈ (s.showAlerts n t).sent := by
  simpa [State.showAlerts, State.display] using State.mem_sendDesk n h _

theorem State.mem_resolve {o : Out} (k : Nat) (h : o ∈ s.sent) : o ∈ (State.resolve n k s).sent := by
  induction k generalizing s with
  | zero => exact h
  | succ k ih =>
    simp only [State.resolve]
    split
    · exact h
    · have hs : ∀ l, o ∈ ((s.updAlerts n fun r => r.serve l).showAlerts n .none).sent := fun l =>
        State.mem_showAlerts n (by simpa using h) _
      split
      · exact ih (by simpa using hs _)
      · exact hs _

theorem State.mem_reportHold {o : Out} (h : o ∈ s.sent) : o ∈ (s.reportHold n).sent := by
  simp only [State.reportHold]
  repeat' split
  · exact h
  · simpa using h
  · exact State.mem_tone n (by simpa using h) _
  · simpa using h
  · exact State.mem_tone n (by simpa using h) _

theorem State.mem_finishShow {o : Out} (h : o ∈ s.sent) (t : Tone) : o ∈ (s.finishShow n t).sent := by
  simp only [State.finishShow]
  split
  · exact h
  · exact State.mem_showAlerts n h t

/-! ### An event at a station whose context is cleared -/

@[simp] theorem Ctx.beginHold_cleared (c : Ctx) : c.cleared.beginHold = c.cleared := rfl
@[simp] theorem Ctx.endHold_cleared (c : Ctx) : c.cleared.endHold = c.cleared := rfl
@[simp] theorem Ctx.cleared_cleared (c : Ctx) : c.cleared.cleared = c.cleared := rfl
@[simp] theorem Ctx.cleared_tx (c : Ctx) : c.cleared.tx = .idle := rfl
@[simp] theorem Ctx.cleared_items (c : Ctx) : c.cleared.items = [] := rfl

/-- R139: a cleared context is untouched by the report of the hold condition. -/
theorem State.reportHold_cleared {s : State} {n : StationNo} (h : (s.st n).ctx = (s.st n).ctx.cleared) :
    ((s.reportHold n).st n).ctx = (s.st n).ctx := by
  rw [State.reportHold_ctx, h]
  simp

/-- R20: no outcome is parked where the list is empty. -/
theorem State.applyParked_empty {s : State} {n : StationNo} (h : (s.st n).ctx.items = []) : s.applyParked n = s := by
  simp [State.applyParked, h]

/-- R40: no close completes at a station that is not CLOSING. -/
theorem State.closeIfDone_of_ne {s : State} {n : StationNo} (h : (s.st n).ctx.tx ≠ .closing) : s.closeIfDone n = s :=
  if_neg fun hc => h hc.1

/-- R137 to R139: an event of the resolver at such a station is its resolution, its report and its display. -/
theorem State.endEvent_cleared {s : State} {n : StationNo} (h : (s.st n).ctx = (s.st n).ctx.cleared) (tone : Tone) :
    s.endEvent n tone id = ((State.resolve n 8 s).reportHold n).finishShow n tone := by
  have hr : ((State.resolve n 8 s).st n).ctx = ((State.resolve n 8 s).st n).ctx.cleared := by simpa using h
  have hc := State.reportHold_cleared hr
  have hi : (((State.resolve n 8 s).reportHold n).st n).ctx.items = [] := by rw [hc, hr]; rfl
  have ht : ((((State.resolve n 8 s).reportHold n).finishShow n tone).st n).ctx.tx ≠ .closing := by
    rw [(State.finishShow_parts _ n n tone).2.1, hc, hr]
    simp
  simp only [State.endEvent, State.applyParked_empty hi, ite_self, id]
  exact State.closeIfDone_of_ne ht

/-- A change of the sets alone, followed by an event of the resolver, leaves a cleared context and the station's other
parts. -/
theorem State.endEvent_cleared_parts {s : State} {n : StationNo} (h : (s.st n).ctx = (s.st n).ctx.cleared) (tone : Tone) :
    ((s.endEvent n tone id).st n).ctx = (s.st n).ctx ∧ ((s.endEvent n tone id).st n).line = (s.st n).line ∧
    ((s.endEvent n tone id).st n).slips = (s.st n).slips ∧
    ((s.endEvent n tone id).st n).tallies = (s.st n).tallies := by
  have hr : ((State.resolve n 8 s).st n).ctx = ((State.resolve n 8 s).st n).ctx.cleared := by simpa using h
  rw [State.endEvent_cleared h]
  simp [State.reportHold_cleared hr]

theorem State.endEvent_cleared_other {s : State} {n m : StationNo} (h : (s.st n).ctx = (s.st n).ctx.cleared)
    (hm : m ≠ n) (tone : Tone) : (s.endEvent n tone id).st m = s.st m := by
  rw [State.endEvent_cleared h]
  simp [hm]

/-- States that agree but for the stations and what was sent. -/
theorem State.eq_of_rest {s t : State} (h : t.pending = s.pending ∧ t.borrowers = s.borrowers ∧ t.recency = s.recency ∧
    t.exceptions = s.exceptions ∧ t.badges = s.badges ∧ t.bankA = s.bankA ∧ t.bankB = s.bankB ∧ t.active = s.active ∧
    t.generation = s.generation ∧ t.clock = s.clock ∧ t.service = s.service ∧ t.queries = s.queries ∧
    t.loans = s.loans ∧ t.journal = s.journal ∧ t.upload = s.upload ∧ t.mgmt = s.mgmt) :
    t = { s with stations := t.stations, sent := t.sent } := by
  cases s
  cases t
  simp_all

end Sys2Proof.Machine
end

section
/-! SUPPORT. Frames at a desk line: what waking, sending and noting a scan make of a state (R1, R2, R15). -/

namespace Sys2Proof.Machine

variable {s : State} {n : StationNo}

/-! ### Sending to a head that is attached -/

/-- R2: a DISPLAY without a message index at a line that is not DETACHED. -/
theorem State.tone_attached (h : (s.st n).line.link ≠ .detached) (t : Tone) :
    s.tone n t = s.sending (s.sent ++ [.desk n (s.displayNow n t)]) :=
  if_neg h

theorem State.toHead_attached (h : (s.st n).line.link ≠ .detached) (fs : List DeskOut) :
    s.toHead n fs = fs.map (.desk n) :=
  if_neg h

/-- A DISPLAY shows the link, the transaction state and the alerts of its station, and nothing else of the state. -/
theorem State.displayNow_eq {t : State} (hl : (t.st n).line.link = (s.st n).line.link)
    (hc : (t.st n).ctx.tx = (s.st n).ctx.tx) (ha : (t.st n).alerts = (s.st n).alerts) (tone : Tone) :
    t.displayNow n tone = s.displayNow n tone := by
  simp [State.displayNow, Station.shownState, hl, hc, ha]

/-! ### Waking -/

theorem State.wake_attached (h : (s.st n).line.link ≠ .detached) : s.wake n = s.heard n :=
  if_neg h

theorem State.wake_detached (h : (s.st n).line.link = .detached) : s.wake n = s.enterCheck n :=
  if_pos h

@[simp] theorem State.heard_st (s : State) (n : StationNo) :
    (s.heard n).st n = { s.st n with line := { (s.st n).line with silence := some 0 } } := by
  simp [State.heard]

/-! ### Scans -/

theorem joinHistory_eq (h : List Quality) (q : Quality) : joinHistory h q = (h ++ [q]).drop (h.length - 7) := by
  simp [joinHistory, Config.maxHistory]

@[simp] theorem State.scanned_st (s : State) (n : StationNo) (q : Quality) :
    (s.scanned n q).st n = { s.st n with line := { (s.st n).line with
      silence := some 0, history := joinHistory (s.st n).line.history q } } := by
  simp [State.scanned, joinHistory_eq]

theorem State.scanned_other {m : StationNo} (h : m ≠ n) (q : Quality) : (s.scanned n q).st m = s.st m := by
  simp [State.scanned, State.heard, h]

/-- R108: no flag raised, no flag changed. -/
theorem State.stick_nothing (s : State) : s.stick { classClamped := false } = s := by
  simp [State.stick, StickyFlags.union]

/-- R15: an outcome that does not cross the threshold joins the history and does nothing else. -/
theorem State.noteQuality_uncrossed {q : Quality} (h : (s.st n).line.crosses q = false) :
    s.noteQuality n q = s.updLine n fun l => { l with history := joinHistory l.history q } := by
  simp [State.noteQuality, h]

theorem Line.crosses_good (l : Line) : l.crosses .good = false := by
  simp [Line.crosses]

/-- R15: whether a line crosses depends on its history and its threshold. -/
theorem Line.crosses_congr {k l : Line} (hh : k.history = l.history) (ht : k.threshold = l.threshold) (q : Quality) :
    k.crosses q = l.crosses q := by
  simp [Line.crosses, hh, ht]

/-- R5, R7, R14: a SCAN at an attached line, noted and then handled by the link state. -/
theorem State.takeScan_attached (h : (s.st n).line.link ≠ .detached) (symbol : Text) :
    s.takeScan n symbol =
      let u := ((s.heard n).stick { classClamped := (classify symbol).clamped }).noteQuality n (classify symbol).quality
      match (u.st n).line.link with
      | .check => u.scanInCheck n (classify symbol)
      | .active => u.scanInActive n (classify symbol)
      | .detached => u := by
  rw [← State.wake_attached h]
  rfl

/-- The state that a SCAN is handled in where it does not cross the threshold. -/
theorem State.noted_uncrossed {q : Quality} (h : (s.st n).line.crosses q = false) (f : StickyFlags) :
    ((s.heard n).stick f).noteQuality n q = (s.scanned n q).stick f := by
  have hc : (((s.heard n).stick f).st n).line.crosses q = false := by
    rw [← h]
    exact Line.crosses_congr (by simp) (by simp) q
  rw [State.noteQuality_uncrossed hc]
  simp only [joinHistory_eq]
  rfl

theorem State.takeScan_check {symbol : Text} (h : (s.st n).line.link = .check)
    (hq : (s.st n).line.crosses (classify symbol).quality = false) :
    s.takeScan n symbol = ((s.scanned n (classify symbol).quality).stick
      { classClamped := (classify symbol).clamped }).scanInCheck n (classify symbol) := by
  rw [State.takeScan_attached (by simp [h]), State.noted_uncrossed hq]
  simp [h]

theorem State.takeScan_active {symbol : Text} (h : (s.st n).line.link = .active)
    (hq : (s.st n).line.crosses (classify symbol).quality = false) :
    s.takeScan n symbol = ((s.scanned n (classify symbol).quality).stick
      { classClamped := (classify symbol).clamped }).scanInActive n (classify symbol) := by
  rw [State.takeScan_attached (by simp [h]), State.noted_uncrossed hq]
  simp [h]

theorem exec_scan {symbol : Text} (h : validSymbol symbol = true) (n : StationNo) (s : State) :
    exec (.scan n symbol) s = .next (s.fresh.takeScan n symbol) :=
  congrArg _ (if_pos h)

/-- R2: a SCAN noted at an attached line that draws nothing but a tone. -/
theorem State.scanned_tone (h : (s.st n).line.link ≠ .detached) (q : Quality) (f : StickyFlags) (t : Tone) :
    ((s.fresh.scanned n q).stick f).tone n t =
      ((s.scanned n q).stick f).sending [.desk n (s.displayNow n t)] := by
  rw [State.tone_attached (by simpa using h), State.displayNow_eq (s := s) (by simp) (by simp) (by simp)]
  rfl

theorem State.heard_tone (h : (s.st n).line.link ≠ .detached) (t : Tone) :
    (s.fresh.heard n).tone n t = (s.heard n).onlyTone n t := by
  rw [State.onlyTone, State.toHead_attached (by simpa using h), State.tone_attached (by simpa using h)]
  rfl

end Sys2Proof.Machine
end

section
/-! The settling of O8. -/

namespace Sys2Proof.Machine

/-- R21, R26, R39: a borrower scan at a LOCKED station in IDLE, OPEN or RETURNS. -/
theorem State.borrowerScan_locked {s : State} {n : StationNo} (hl : (s.st n).ctx.locked = true)
    (ht : (s.st n).ctx.tx = .idle ∨ (s.st n).ctx.tx = .opened ∨ (s.st n).ctx.tx = .returns) (b : Nat) :
    s.borrowerScan n b = s.tone n .locked := by
  obtain h | h | h := ht <;> simp [State.borrowerScan, h, State.borrowerInIdle, hl]

/-- R26: an item that the list does not hold at a LOCKED station in OPEN. -/
theorem State.itemScan_locked {s : State} {n : StationNo} {k : Nat} (hl : (s.st n).ctx.locked = true)
    (ht : (s.st n).ctx.tx = .opened) (hk : (s.st n).ctx.holdsItem k = false) (c : Nat) (m : Bool) :
    s.itemScan n k c m = s.tone n .locked := by
  simp [State.itemScan, ht, State.itemInOpen, hl, hk]

end Sys2Proof.Machine

namespace Sys2Proof.Proofs
open Sys2Proof Sys2Proof.Machine

/-- Settles O8: both scans meet the test of LOCKED before any other effect. -/
theorem lockedStationRefusesScans : Obligations.LockedStationRefusesScans := by
  intro n symbol s hv hlink hlock h
  have hatt : (s.st n).line.link ≠ .detached := by simp [hlink]
  rw [exec_scan hv, State.toHead_attached hatt]
  obtain ⟨⟨b, hb⟩, ht⟩ | ⟨⟨k, c, m, hi, hk⟩, ht⟩ := h
  · rw [State.takeScan_active (by simpa using hlink) (by simp [hb, ScanOutcome.quality, Line.crosses_good]), hb]
    simp only [State.scanInActive]
    rw [State.borrowerScan_locked (by simpa using hlock) (by simpa using ht), State.scanned_tone hatt]
    rfl
  · rw [State.takeScan_active (by simpa using hlink) (by simp [hi, ScanOutcome.quality, Line.crosses_good]), hi]
    simp only [State.scanInActive]
    rw [State.itemScan_locked (by simpa using hlock) (by simpa using ht) (by simpa using hk), State.scanned_tone hatt]
    rfl

end Sys2Proof.Proofs
end

section
/-! SUPPORT. What a close leaves (R41), and the settling of O11. -/

namespace Sys2Proof.Machine

variable {s : State} {n : StationNo}

/-! ### Printing that has nothing to do -/

theorem State.upd_self {f : Station → Station} (h : f (s.st n) = s.st n) : s.upd n f = s := by
  have hs : s.stations.set n (f (s.st n)) = s.stations := by
    rw [h]
    simp [State.st]
  simp only [State.upd, hs]

/-- Two updates of one station in a row are one. -/
theorem State.upd_upd (s : State) (n : StationNo) (f g : Station → Station) :
    (s.upd n f).upd n g = s.upd n fun t => g (f t) := by
  simp [State.upd, State.st]

theorem State.updSlips_self {f : SlipQueue → SlipQueue} (h : f (s.st n).slips = (s.st n).slips) : s.updSlips n f = s :=
  State.upd_self (by simp [h])

theorem State.updLine_self {f : Line → Line} (h : f (s.st n).line = (s.st n).line) : s.updLine n f = s :=
  State.upd_self (by simp [h])

/-- R154: nothing starts at a printer in fault or without credit. -/
theorem SlipQueue.start_idle {l : Line} (h : l.printerTakes = false ∨ l.credit = 0) (q : SlipQueue) : q.start l = q := by
  unfold SlipQueue.start
  repeat' split
  all_goals simp_all

/-- R155: no line goes out at a printer in fault or without credit. -/
theorem State.stream_idle (h : (s.st n).line.printerTakes = false ∨ (s.st n).line.credit = 0) (k : Nat) :
    State.stream n k s = s := by
  cases k with
  | zero => rfl
  | succ k =>
    simp only [State.stream]
    repeat' split
    all_goals simp_all

/-- R154, R155: nothing comes of an event at a printer in fault or without credit. -/
theorem State.feed_idle (h : (s.st n).line.printerTakes = false ∨ (s.st n).line.credit = 0) : s.feed n = s := by
  have hq : s.updSlips n (fun q => q.start (s.st n).line) = s :=
    State.updSlips_self (SlipQueue.start_idle h _)
  simp only [State.feed, hq]
  exact State.stream_idle h _

/-! ### The slip at a close -/

/-- What a close reads of a context and its resolver's events do not reach (R41): all but the state, the interrupted
state and the timer. -/
def Ctx.unheld (c : Ctx) : Ctx := { c with tx := .idle, interrupted := none, timer := .stopped }

@[simp] theorem Ctx.beginHold_unheld (c : Ctx) : c.beginHold.unheld = c.unheld := by
  simp only [Ctx.beginHold]
  split <;> rfl

@[simp] theorem Ctx.endHold_unheld (c : Ctx) : c.endHold.unheld = c.unheld := by
  simp only [Ctx.endHold]
  split <;> rfl

@[simp] theorem State.reportHold_unheld (s : State) (n m : StationNo) :
    ((s.reportHold n).st m).ctx.unheld = (s.st m).ctx.unheld := by
  by_cases hm : m = n
  · subst hm
    rw [State.reportHold_ctx]
    repeat' split
    all_goals simp
  · simp [hm]

@[simp] theorem State.withdrawLevel_unheld (s : State) (n m : StationNo) (l : Level) :
    ((s.withdrawLevel n l).st m).ctx.unheld = (s.st m).ctx.unheld := by
  simp only [State.withdrawLevel]
  split <;> simp [State.settleAlerts]

/-- R41, step 1: what the withdrawal of L1 to L5 leaves. -/
@[simp] theorem State.withdrawBlocks_keeps (s : State) (n : StationNo) :
    (s.withdrawBlocks n).bankA = s.bankA ∧ (s.withdrawBlocks n).bankB = s.bankB ∧
    (s.withdrawBlocks n).active = s.active ∧ (s.withdrawBlocks n).clock = s.clock ∧
    (s.withdrawBlocks n).mgmt = s.mgmt ∧ (s.withdrawBlocks n).journal = s.journal ∧
    ∀ m, ((s.withdrawBlocks n).st m).line = (s.st m).line ∧ ((s.withdrawBlocks n).st m).slips = (s.st m).slips ∧
      ((s.withdrawBlocks n).st m).tallies = (s.st m).tallies ∧
      ((s.withdrawBlocks n).st m).ctx.unheld = (s.st m).ctx.unheld := by
  simp [State.withdrawBlocks, Level.blocks]

theorem Ctx.unheld_slip {c d : Ctx} (h : c.unheld = d.unheld) :
    c.slipText = d.slipText ∧ c.next = d.next ∧ c.cleared = d.cleared ∧ c.items = d.items ∧ c.holding = d.holding := by
  cases c
  cases d
  simp only [Ctx.unheld, Ctx.mk.injEq] at h
  simp_all [Ctx.cleared]
  funext n k hd t
  simp [Ctx.slipText, Ctx.inState]

/-! ### Slots -/

/-- The slot that is the only one to pass a test is found. -/
theorem SlipQueue.find_only {q : SlipQueue} {p : Slot → Bool} {i : Fin 4} (hi : p q.slots[i] = true)
    (ho : ∀ k : Fin 4, k ≠ i → p q.slots[k] = false) : q.find p = some i := by
  have hp : (fun k : Fin 4 => p q.slots[k]) = fun k => decide (k = i) := by
    funext k
    by_cases hk : k = i
    · subst hk; simpa using hi
    · simpa [hk] using ho k hk
  have key : ∀ i : Fin 4, (List.finRange 4).find? (fun k => decide (k = i)) = some i := by decide
  rw [SlipQueue.find, hp]
  exact key i

theorem SlipQueue.find_absent {q : SlipQueue} {p : Slot → Bool} (h : ∀ k : Fin 4, p q.slots[k] = false) :
    q.find p = none := by
  rw [SlipQueue.find, List.find?_eq_none]
  intro k _
  simpa using h k

theorem SlipQueue.reservedSlot_only {q : SlipQueue} {i : Fin 4} (hi : q.slots[i] = .reserved)
    (ho : ∀ k : Fin 4, k ≠ i → q.slots[k] ≠ .reserved) : q.reservedSlot = some i :=
  SlipQueue.find_only (by simpa using hi) fun k hk => by simpa using ho k hk

/-! ### The completion of a close -/

@[simp] theorem State.stream_parts (s : State) (n m : StationNo) (k : Nat) :
    ((State.stream n k s).st m).ctx = (s.st m).ctx ∧ ((State.stream n k s).st m).alerts = (s.st m).alerts ∧
    ((State.stream n k s).st m).tallies = (s.st m).tallies := by
  induction k generalizing s with
  | zero => simp [State.stream]
  | succ k ih =>
    simp only [State.stream]
    repeat' split
    all_goals simp [ih]

@[simp] theorem State.feed_parts (s : State) (n m : StationNo) :
    ((s.feed n).st m).ctx = (s.st m).ctx ∧ ((s.feed n).st m).alerts = (s.st m).alerts ∧
    ((s.feed n).st m).tallies = (s.st m).tallies := by
  simp [State.feed]

@[simp] theorem State.settleSlip_parts (s : State) (n m : StationNo) :
    ((s.settleSlip n).st m).ctx = (s.st m).ctx ∧ ((s.settleSlip n).st m).alerts = (s.st m).alerts ∧
    ((s.settleSlip n).st m).tallies = (s.st m).tallies := by
  simp only [State.settleSlip]
  split <;> simp

theorem State.settleAlerts_cleared (h : (s.st n).ctx = (s.st n).ctx.cleared) :
    ((s.settleAlerts n).st n).ctx = (s.st n).ctx := by
  have hr : ((State.resolve n 8 s).st n).ctx = ((State.resolve n 8 s).st n).ctx.cleared := by simpa using h
  simp [State.settleAlerts, State.reportHold_cleared hr]

theorem State.applyStaged_cleared (h : (s.st n).ctx = (s.st n).ctx.cleared) :
    ((s.applyStaged n).st n).ctx = (s.st n).ctx := by
  simp only [State.applyStaged]
  split
  · rw [State.settleAlerts_cleared (by simpa using h)]
    simp
  · rfl

/-- R41: a close that completes with no next action held clears the context, and settles the slip as it stood. -/
theorem State.completeClose_ends (h : (s.st n).ctx.next = .none) :
    ((s.completeClose n).st n).ctx = (s.st n).ctx.cleared ∧
    ((s.completeClose n).st n).slips = (((s.withdrawBlocks n).settleSlip n).st n).slips := by
  have hu : (((s.withdrawBlocks n).settleSlip n).st n).ctx.unheld = (s.st n).ctx.unheld := by simp
  obtain ⟨-, hn, hc, -⟩ := Ctx.unheld_slip hu
  rw [h] at hn
  simp only [State.completeClose, hn, State.takeNext]
  refine ⟨?_, by simp⟩
  rw [State.applyStaged_cleared (by simp), State.tone_st, State.updCtx_same]
  exact hc

/-- R41, step 2: the slip settled while nothing can start printing. -/
theorem State.settleSlip_slips {i : Fin 4} (hh : (s.st n).ctx.holding = some .reserved)
    (hi : (s.st n).slips.slots[i] = .reserved) (ho : ∀ k : Fin 4, k ≠ i → (s.st n).slips.slots[k] ≠ .reserved)
    (hc : (s.st n).line.credit = 0) :
    ((s.settleSlip n).st n).slips = if (s.st n).ctx.items.any Item.wantsSlip then
      { (s.st n).slips with
        slots := (s.st n).slips.slots.set i (.queued ((s.st n).ctx.slipText n s.mgmt.cabinet s.printHeader s.now))
        order := (s.st n).slips.order ++ [i] }
    else { (s.st n).slips with slots := (s.st n).slips.slots.set i .free } := by
  have hr := SlipQueue.reservedSlot_only hi ho
  simp only [State.settleSlip, Ctx.handsSlip, hh, decide_true, Bool.true_and]
  split
  · rw [State.feed_idle (.inr (by simpa using hc))]
    simp [SlipQueue.hand, hr, SlipQueue.setSlot]
  · simp [SlipQueue.release, hr, SlipQueue.setSlot]

theorem State.printHeader_congr {t : State} (hm : t.mgmt = s.mgmt) (ha : t.bankA = s.bankA) (hb : t.bankB = s.bankB)
    (hs : t.active = s.active) : t.printHeader = s.printHeader := by
  simp [State.printHeader, State.activeBank, hm, ha, hb, hs]

/-- The entries that call for paper, as R41 names them. -/
theorem any_wantsSlip (xs : List Item) : xs.any Item.wantsSlip = true ↔
    ∃ x ∈ xs, x.state = .granted ∨ x.state = .returned ∧ (0 < x.fine.getD 0 ∨ x.routing.isSome = true) := by
  have key : ∀ x : Item, x.wantsSlip = true ↔
      x.state = .granted ∨ x.state = .returned ∧ (0 < x.fine.getD 0 ∨ x.routing.isSome = true) := by
    intro x
    unfold Item.wantsSlip
    split <;> simp_all
  simp [key]

/-- R41: what a completed close makes of the slip queue, from any state that agrees with the station's own but for the
hold and the timer. -/
theorem State.completeClose_slipSettled {u : State} {i : Fin 4} (hn : (s.st n).ctx.next = .none)
    (hu : (u.st n).ctx.unheld = (s.st n).ctx.unheld) (hs : (u.st n).slips = (s.st n).slips)
    (hl : (u.st n).line.credit = 0) (hm : u.mgmt = s.mgmt) (ha : u.bankA = s.bankA) (hb : u.bankB = s.bankB)
    (hsel : u.active = s.active) (hclk : u.clock = s.clock)
    (hh : (s.st n).ctx.holding = some .reserved) (hi : (s.st n).slips.slots[i] = .reserved)
    (ho : ∀ k : Fin 4, k ≠ i → (s.st n).slips.slots[k] ≠ .reserved) : s.slipSettled (u.completeClose n) n i := by
  obtain ⟨-, hun, -⟩ := Ctx.unheld_slip hu
  have hw : ((u.withdrawBlocks n).st n).ctx.unheld = (s.st n).ctx.unheld := by simpa using hu
  obtain ⟨htext, -, -, hitems, hholding⟩ := Ctx.unheld_slip hw
  have hq : ((u.withdrawBlocks n).st n).slips = (s.st n).slips := by simpa using hs
  have hhead : (u.withdrawBlocks n).printHeader = s.printHeader :=
    State.printHeader_congr (by simpa using hm) (by simpa using ha) (by simpa using hb) (by simpa using hsel)
  have hnow : (u.withdrawBlocks n).now = s.now := by simp [State.now, hclk]
  have hcab : (u.withdrawBlocks n).mgmt.cabinet = s.mgmt.cabinet := by simp [hm]
  have key := State.settleSlip_slips (hholding.trans hh) (by rw [hq]; exact hi) (by rw [hq]; exact ho) (by simpa using hl)
  rw [hq, hitems, htext, hhead, hnow, hcab] at key
  unfold State.slipSettled
  dsimp only
  rw [(State.completeClose_ends (hun.trans hn)).2, key]
  by_cases hx : (s.st n).ctx.items.any Item.wantsSlip = true
  · rw [if_pos hx, if_pos ((any_wantsSlip _).mp hx)]
  · rw [if_neg hx, if_neg (mt (any_wantsSlip _).mpr hx)]

end Sys2Proof.Machine

namespace Sys2Proof.Proofs
open Sys2Proof Sys2Proof.Machine

/-- Settles O11: in OPEN the key is a close, and elsewhere it draws a tone. -/
theorem chargeKeyByState : Obligations.ChargeKeyByState := by
  intro n s hlink
  have hatt : (s.st n).line.link ≠ .detached := by simp [hlink]
  have hkey : exec (.key n .charge) s = .next ((s.fresh.heard n).chargeKey n) := by
    show Host.Outcome.next (s.fresh.takeKey n .charge) = _
    simp only [State.takeKey, State.wake_attached (s := s.fresh) (n := n) (by simpa using hatt), State.heard_st,
      State.fresh_st, hlink, State.keyInActive]
  have htone : ∀ t, (s.fresh.heard n).chargeKey n = (s.fresh.heard n).tone n t →
      exec (.key n .charge) s = .next ((s.heard n).onlyTone n t) := by
    intro t h
    rw [hkey, h, State.heard_tone hatt]
  refine ⟨fun ht ha => ?_, fun ht ha => ?_, fun ht => ?_, fun ht => ?_, fun ht => ?_⟩
  · rw [hkey]
    have hclose : (s.fresh.heard n).chargeKey n =
        (((s.fresh.heard n).updCtx n fun c => { c with timer := .stopped }).updCtx n fun c =>
          { c with tx := .closing }).tone n .none := by
      simp only [State.chargeKey, State.heard_st, State.fresh_st, ht, State.close, State.updCtx_same]
      exact if_neg ha
    rw [hclose, State.tone_attached (by simpa using hatt)]
    rw [State.updCtx, State.updCtx, State.upd_upd]
    simp [State.displayNow, Station.shownState, hlink]
    rfl
  · refine ⟨_, hkey, fun hn => ?_⟩
    have hclose : (s.fresh.heard n).chargeKey n =
        ((s.fresh.heard n).updCtx n fun c => { c with timer := .stopped }).completeClose n := by
      simp only [State.chargeKey, State.heard_st, State.fresh_st, ht, State.close, State.updCtx_same]
      exact if_pos ha
    rw [hclose]
    refine ⟨?_, fun i hh hi ho hc => ?_⟩
    · rw [(State.completeClose_ends (by simpa using hn)).1]
      simp [Ctx.cleared]
    · exact State.completeClose_slipSettled hn (by simp [Ctx.unheld]) (by simp) (by simpa using hc)
        rfl rfl rfl rfl rfl hh hi ho
  · obtain ht | ht | ht := ht <;> exact htone .refuse (by simp [State.chargeKey, ht])
  · exact htone .held (by simp [State.chargeKey, ht])
  · exact htone .busy (by simp [State.chargeKey, ht])

end Sys2Proof.Proofs
end

section
/-! SUPPORT. What a change of the station fault condition leaves of a line, and the line after an ATTACH or a silence
timeout (R4, R6). -/

namespace Sys2Proof.Machine

variable {s : State} {n : StationNo}

/-- R137 to R139: what an event of the resolver leaves at a station that is not CLOSING. -/
theorem State.endEvent_keeps (h : (s.st n).ctx.tx ≠ .closing) (tone : Tone) :
    ((s.endEvent n tone id).st n).line = (s.st n).line ∧ ((s.endEvent n tone id).st n).slips = (s.st n).slips ∧
    ((s.endEvent n tone id).st n).tallies.printed = (s.st n).tallies.printed ∧
    ((s.endEvent n tone id).st n).ctx.tx ≠ .closing := by
  have hr : ((State.resolve n 8 s).st n).ctx.tx ≠ .closing := by simpa using h
  have hh : (((State.resolve n 8 s).reportHold n).st n).ctx.tx ≠ .closing := by simpa using hr
  simp only [State.endEvent, id]
  split
  · have hp : (((((State.resolve n 8 s).reportHold n).applyParked n).finishShow n tone).st n).ctx.tx ≠ .closing := by
      simpa using hh
    rw [State.closeIfDone_of_ne hp]
    simpa using hh
  · have hp : ((((State.resolve n 8 s).reportHold n).finishShow n tone).st n).ctx.tx ≠ .closing := by simpa using hh
    rw [State.closeIfDone_of_ne hp]
    simpa using hh

/-- R41: a close that completes without credit leaves the line. -/
theorem State.completeClose_line (h : (s.st n).line.credit = 0) : ((s.completeClose n).st n).line = (s.st n).line := by
  have hs : (((s.withdrawBlocks n).settleSlip n).st n).line = (s.st n).line := by
    simp only [State.settleSlip]
    split
    · rw [State.feed_idle (.inr (by simpa using h))]
      simp
    · simp
  simpa [State.completeClose] using hs

/-- So does an event of the resolver, whatever the station's state. -/
theorem State.endEvent_line (h : (s.st n).line.credit = 0) (tone : Tone) :
    ((s.endEvent n tone id).st n).line = (s.st n).line := by
  have close : ∀ t : State, (t.st n).line = (s.st n).line → ((t.closeIfDone n).st n).line = (s.st n).line := by
    intro t ht
    simp only [State.closeIfDone]
    split
    · rw [State.completeClose_line (by rw [ht]; exact h), ht]
    · exact ht
  simp only [State.endEvent, id]
  refine close _ ?_
  split <;> simp

/-- R135: a change of the station fault condition is a request or a withdrawal of L0, or nothing, and an event. -/
theorem State.faultEvent_eq (before : Bool) (tone : Tone) : s.faultEvent n before tone =
    (s.updAlerts n fun r => if (s.st n).line.fault = true ∧ before = false then r.request .l0 0 none
      else if before = true ∧ (s.st n).line.fault = false then r.withdraw .l0 else r).endEvent n tone id := by
  cases before <;> cases h : (s.st n).line.fault <;> simp [State.faultEvent, h]
  all_goals rw [State.updAlerts, State.upd_self rfl]

theorem State.faultEvent_keeps (h : (s.st n).ctx.tx ≠ .closing) (before : Bool) (tone : Tone) :
    ((s.faultEvent n before tone).st n).line = (s.st n).line ∧
    ((s.faultEvent n before tone).st n).slips = (s.st n).slips ∧
    ((s.faultEvent n before tone).st n).tallies.printed = (s.st n).tallies.printed := by
  rw [State.faultEvent_eq]
  obtain ⟨h1, h2, h3, -⟩ := State.endEvent_keeps (s := s.updAlerts n _) (n := n) (by simpa using h) tone
  exact ⟨by simpa using h1, by simpa using h2, by simpa using h3⟩

theorem State.faultEvent_line (h : (s.st n).line.credit = 0) (before : Bool) (tone : Tone) :
    ((s.faultEvent n before tone).st n).line = (s.st n).line := by
  rw [State.faultEvent_eq, State.endEvent_line (by simpa using h)]
  simp

/-! ### Force-close -/

@[simp] theorem State.voidQueries_st (s : State) (n m : StationNo) : (s.voidQueries n).st m = s.st m := by
  simp only [State.voidQueries]
  rw [foldl_keeps (fun s => s.st m) State.voidQuery (by simp)]
  simp

/-- R46: what the withdrawals of a force-close leave. -/
@[simp] theorem State.foldl_withdrawResolved_parts (s : State) (n m : StationNo) (ls : List Level) :
    ((ls.foldl (fun s l => s.withdrawResolved n l) s).st m).line = (s.st m).line ∧
    ((ls.foldl (fun s l => s.withdrawResolved n l) s).st m).ctx = (s.st m).ctx ∧
    ((ls.foldl (fun s l => s.withdrawResolved n l) s).st m).slips = (s.st m).slips ∧
    ((ls.foldl (fun s l => s.withdrawResolved n l) s).st m).tallies = (s.st m).tallies := by
  refine ⟨?_, ?_, ?_, ?_⟩
  · exact foldl_keeps (fun s => (s.st m).line) _ (by simp) _ _
  · exact foldl_keeps (fun s => (s.st m).ctx) _ (by simp) _ _
  · exact foldl_keeps (fun s => (s.st m).slips) _ (by simp) _ _
  · exact foldl_keeps (fun s => (s.st m).tallies) _ (by simp) _ _

@[simp] theorem State.forceClose_line (s : State) (n m : StationNo) (counted : Bool) :
    ((s.forceClose n counted).st m).line = (s.st m).line := by
  simp only [State.forceClose]
  split
  · rfl
  · simp only [State.tone_st, State.updCtx_parts, State.foldl_withdrawResolved_parts, State.updSlips_parts]
    split <;> simp

/-- R46: a force-close ends in IDLE. -/
theorem State.forceClose_idle (s : State) (n : StationNo) (counted : Bool) :
    ((s.forceClose n counted).st n).ctx.tx = .idle := by
  simp only [State.forceClose]
  split
  · assumption
  · simp

theorem State.loseHead_line (s : State) (n : StationNo) : ((s.loseHead n).st n).line = (s.st n).line := by
  have hi : (((s.forceClose n true).updSlips n (·.release)).st n).ctx.tx ≠ .closing := by
    simp [State.forceClose_idle]
  rw [State.loseHead, State.emptyAlerts, (State.endEvent_keeps (by simpa using hi) _).1]
  simp

/-! ### Printer faults -/

/-- R10, R158: a printer fault reported changes the printer state and what the slip queue makes of it. -/
theorem State.setPrinter_fault {p : Printer} (h : printerFault p = true) : s.setPrinter n p =
    (s.updLine n fun l => { l with printer := p }).updSlips n fun q =>
      if (s.st n).line.printer = p then q else q.printerChange (s.st n).line.printer p := by
  simp only [State.setPrinter]
  split
  · rename_i hp
    rw [State.updLine_self (by rw [← hp]), State.updSlips_self (by simp)]
  · rw [State.feed_idle (.inl (by simp [Line.printerTakes, h]))]

theorem State.setPrinter_fault_line {p : Printer} (h : printerFault p = true) :
    ((s.setPrinter n p).st n).line = { (s.st n).line with printer := p } := by
  rw [State.setPrinter_fault h]
  simp

/-! ### ATTACH and silence -/

/-- The state in which an ATTACH reports the station fault condition. -/
def State.checking (s : State) (n : StationNo) : State :=
  ((if (s.st n).line.link = .active then s.loseHead n else s).setPrinter n .offline).updLine n fun l =>
    { l with link := .check, silence := some 0, history := [], credit := 0 }

theorem State.enterCheck_eq (s : State) (n : StationNo) :
    s.enterCheck n = ((s.checking n).faultEvent n (s.st n).line.fault .none).tone n .none := rfl

/-- R4: the line after an ATTACH. -/
theorem State.enterCheck_line (s : State) (n : StationNo) : ((s.enterCheck n).st n).line = { (s.st n).line with
    link := .check, silence := some 0, history := [], printer := .offline, credit := 0 } := by
  have hl : ((if (s.st n).line.link = .active then s.loseHead n else s).st n).line = (s.st n).line := by
    split
    · exact s.loseHead_line n
    · rfl
  rw [State.enterCheck_eq, State.tone_st, State.faultEvent_line (by simp [State.checking])]
  simp only [State.checking, State.updLine_same, State.setPrinter_fault_line (p := .offline) rfl, hl]

/-- The state in which a silence timeout reports the station fault condition. -/
def State.silenced (s : State) (n : StationNo) : State :=
  ((if (s.st n).line.link = .active then s.loseHead n else s).setPrinter n .offline).updLine n fun l =>
    { l with link := .detached, silence := none, credit := 0 }

theorem State.fallSilent_eq (s : State) (n : StationNo) :
    s.fallSilent n = (s.silenced n).faultEvent n (s.st n).line.fault .none := rfl

/-- R6: the line after a silence timeout. -/
theorem State.fallSilent_line (s : State) (n : StationNo) : ((s.fallSilent n).st n).line = { (s.st n).line with
    link := .detached, silence := none, printer := .offline, credit := 0 } := by
  have hl : ((if (s.st n).line.link = .active then s.loseHead n else s).st n).line = (s.st n).line := by
    split
    · exact s.loseHead_line n
    · rfl
  rw [State.fallSilent_eq, State.faultEvent_line (by simp [State.silenced])]
  simp only [State.silenced, State.updLine_same, State.setPrinter_fault_line (p := .offline) rfl, hl]

end Sys2Proof.Machine
end

section
/-! SUPPORT. The journal ready for a record (R165, R172, R173, R203). -/

namespace Sys2Proof.Machine

variable {s : State}

/-- R172, R173: evaluating the journal alarms changes nothing only where both stand as the pages give them. -/
theorem State.evalJournal_eq_self_iff : s.evalJournal = s ↔
    s.journal.isFull = s.mgmt.alarms.journalFull.active ∧ s.journal.isLow = s.mgmt.alarms.journalLow.active := by
  constructor
  · intro h
    have hf : s.evalJournal.mgmt.alarms.journalFull.active = s.journal.isFull := by
      simp only [State.evalJournal, State.evalLow, State.evalFull]
      repeat' split
      all_goals simp_all
    have hl : s.evalJournal.mgmt.alarms.journalLow.active = s.journal.isLow := by
      simp only [State.evalJournal, State.evalLow, State.evalFull]
      repeat' split
      all_goals simp_all
    rw [h] at hf hl
    exact ⟨hf.symm, hl.symm⟩
  · rintro ⟨hf, hl⟩
    exact State.evalJournal_settled hf hl

/-- Whether the journal is ready rests on the journal and the alarms. -/
theorem State.ready_congr {t : State} {p : Fin 128} (hj : t.journal = s.journal) (hm : t.mgmt.alarms = s.mgmt.alarms)
    (hc : t.mgmt.alarmCond = s.mgmt.alarmCond) : t.ready p ↔ s.ready p := by
  simp only [State.ready, State.evalJournal_eq_self_iff, State.alarmsSettled, hj, hm, hc]

theorem Journal.filling?_state {j : Journal} {p : Fin 128} (h : j.filling? = some p) : j.pages[p].state = .filling := by
  simpa using List.find?_some h

/-- A FILLING page that takes a record goes on FILLING, so no page changes its state. -/
theorem pages_set_state {v : Vector Page 128} {p : Fin 128} (h : v[p].state = .filling) (rs : List Record) (i : Fin 128) :
    (v.set p ⟨.filling, rs⟩)[i].state = v[i].state := by
  by_cases hi : i = p
  · subst hi
    simpa using h.symm
  · have : p.val ≠ i.val := fun e => hi (Fin.ext e.symm)
    simp [this]

theorem pages_set_states {v : Vector Page 128} {p : Fin 128} (h : v[p].state = .filling) (rs : List Record) :
    (v.set p ⟨.filling, rs⟩).toList.map (·.state) = v.toList.map (·.state) := by
  refine List.ext_getElem (by simp) fun k h1 h2 => ?_
  have hk : k < 128 := by simpa using h2
  simpa using pages_set_state h rs ⟨k, hk⟩

@[simp] theorem State.recorded_keeps (s : State) (p : Fin 128) (r : Record) :
    (s.recorded p r).mgmt = s.mgmt ∧ (s.recorded p r).clock = s.clock ∧ (s.recorded p r).service = s.service ∧
    (s.recorded p r).stations = s.stations ∧ (s.recorded p r).sent = s.sent ∧
    (s.recorded p r).queries = s.queries ∧ ∀ n, (s.recorded p r).st n = s.st n :=
  ⟨rfl, rfl, rfl, rfl, rfl, rfl, fun _ => rfl⟩

theorem State.recorded_filling? {p : Fin 128} (h : s.journal.filling? = some p) (r : Record) :
    (s.recorded p r).journal.filling? = s.journal.filling? := by
  simp only [Journal.filling?, State.recorded, pages_set_state (Journal.filling?_state h)]

theorem State.recorded_countOf {p : Fin 128} (h : s.journal.filling? = some p) (r : Record) (x : PageState) :
    (s.recorded p r).journal.countOf x = s.journal.countOf x := by
  have count : ∀ gs : List Page, (gs.filter fun g => decide (g.state = x)).length =
      ((gs.map (·.state)).filter fun y => decide (y = x)).length := by
    intro gs
    simp [List.filter_map, Function.comp_def]
  simp only [Journal.countOf, State.recorded, count, pages_set_states (Journal.filling?_state h)]

/-- R172, R173: a record taken in a page with room moves no journal alarm. -/
theorem State.recorded_evalJournal {p : Fin 128} (h : s.journal.filling? = some p) (he : s.evalJournal = s) (r : Record) :
    (s.recorded p r).evalJournal = s.recorded p r := by
  rw [State.evalJournal_eq_self_iff] at he ⊢
  obtain ⟨hf, hl⟩ := he
  refine ⟨?_, ?_⟩
  · rw [← show s.journal.isFull = (s.recorded p r).mgmt.alarms.journalFull.active from hf]
    simp only [Journal.isFull, State.recorded_filling? h]
  · rw [← show s.journal.isLow = (s.recorded p r).mgmt.alarms.journalLow.active from hl]
    simp only [Journal.isLow, Journal.free, State.recorded_countOf h]
    rfl

/-- R165, R167: a record offered to a FILLING page with room, both journal alarms standing, is taken, and nothing else
comes of it. -/
theorem State.offer_room {p : Fin 128} (h : s.journal.filling? = some p) (hr : s.journal.pages[p].records.length < 63)
    (he : s.evalJournal = s) (r : Record) : s.offer r = (some s.journal.counter, s.recorded p r) := by
  have ht := Journal.take_room r h (show _ < Config.pageRecords by simp only [Config.pageRecords]; omega)
  simp only [State.offer, ht]
  exact congrArg (Prod.mk _) (State.recorded_evalJournal h he r)

/-- R203: so it is for a record written, where the ALARM condition stands too. -/
theorem State.write_ready {p : Fin 128} (h : s.ready p) (r : Record) :
    s.write r = (some s.journal.counter, s.recorded p r) := by
  obtain ⟨hp, hr, he, ha⟩ := h
  simp only [State.write, State.offer_room hp hr he]
  rw [State.settle_settled (s.recorded p r) ha]

end Sys2Proof.Machine
end

section
/-! SUPPORT. What a HEAD_STATUS report makes of the slip queue of its station: nothing starts (R10, R154 to R157). -/

namespace Sys2Proof.Machine

variable {s : State} {n : StationNo}

/-- Two updates of a station that give the same station give the same state. -/
theorem State.upd_congr {f g : Station → Station} (h : f (s.st n) = g (s.st n)) : s.upd n f = s.upd n g := by
  simp only [State.upd, h]

/-- A slip queue in which nothing prints and nothing waits (R150). -/
def SlipQueue.vacant (q : SlipQueue) : Prop := q.order = [] ∧ ∀ i : Fin 4, q.slots[i].busy = false

/-- R150: a queue of FREE and RESERVED slots holds no slip. -/
theorem SlipQueue.vacant_of_unhanded {q : SlipQueue} (ho : q.order = [])
    (hs : ∀ i : Fin 4, q.slots[i] = .free ∨ q.slots[i] = .reserved) : q.vacant := by
  refine ⟨ho, fun i => ?_⟩
  obtain h | h := hs i <;> simp only [h] <;> rfl

theorem SlipQueue.vacant_congr {p q : SlipQueue} (ho : p.order = q.order) (hs : p.slots = q.slots) :
    p.vacant ↔ q.vacant := by
  simp [SlipQueue.vacant, ho, hs]

theorem State.stream_unbusy (h : ∀ i : Fin 4, (s.st n).slips.slots[i].busy = false) (k : Nat) :
    State.stream n k s = s := by
  cases k with
  | zero => rfl
  | succ k => simp [State.stream, SlipQueue.find_absent h]

/-- R154, R155: an empty queue has nothing to start and nothing to send. -/
theorem State.feed_vacant (h : (s.st n).slips.vacant) : s.feed n = s := by
  obtain ⟨ho, hb⟩ := h
  have hq : s.updSlips n (fun q => q.start (s.st n).line) = s :=
    State.updSlips_self (by simp [SlipQueue.start, ho])
  simp only [State.feed, hq]
  exact State.stream_unbusy hb _

/-- R10: what a HEAD_STATUS report does after its printer state and its lock key position are taken. -/
def State.readSlip (s : State) (n : StationNo) (r : HeadReport) : State :=
  (((s.noteToken n r.token).takeCredit n r.credit).takeToken n r.token).checkSlip n r.token

theorem State.takeStatus_eq (s : State) (n : StationNo) (r : HeadReport) : s.takeStatus n r =
    (((s.wake n).takePrinter n r.printer).takeLockKey n r.lockKey).readSlip n r := rfl

theorem State.takePrinter_same {p : Printer} (h : p = (s.st n).line.printer) : s.takePrinter n p = s :=
  if_pos h.symm

theorem State.takeLockKey_same {on : Bool} (h : on = (s.st n).line.lockKey) : s.takeLockKey n on = s :=
  if_pos h.symm

/-- R156: a token that no slot bears is the last printed one, and nothing else comes of it. -/
theorem State.takeToken_unborne {tok : Option Nat}
    (h : ∀ k, tok = some k → ∀ i : Fin 4, (s.st n).slips.slots[i].token? ≠ some k) :
    s.takeToken n tok = s.updSlips n fun q => { q with lastPrinted := tok } := by
  cases tok with
  | none => rfl
  | some k =>
    have hf : (s.st n).slips.find (fun x => decide (x.token? = some k)) = none :=
      SlipQueue.find_absent fun i => by simpa using h k rfl i
    have hf' : ((s.updSlips n fun q => { q with lastPrinted := some k }).st n).slips.find
        (fun x => decide (x.token? = some k)) = none := by
      rw [State.updSlips_same]
      exact hf
    simp only [State.takeToken, hf']

/-- The completion check of every slot (R157). -/
def SlipQueue.checked (q : SlipQueue) (p : Printer) (tok : Option Nat) : SlipQueue :=
  { q with slots := q.slots.map fun x => x.check p tok }

theorem Slot.check_busy (x : Slot) (p : Printer) (tok : Option Nat) : (x.check p tok).busy = x.busy := by
  unfold Slot.check
  repeat' split
  all_goals rfl

theorem SlipQueue.checked_vacant {q : SlipQueue} (h : q.vacant) (p : Printer) (tok : Option Nat) :
    (q.checked p tok).vacant := by
  obtain ⟨ho, hb⟩ := h
  exact ⟨ho, fun i => by simpa [SlipQueue.checked, Slot.check_busy] using hb i⟩

/-- Where nothing can be printed under the credit reported: at a printer in fault, without credit, or with no slip. -/
def State.stillAt (s : State) (n : StationNo) (credit : Nat) : Prop :=
  printerFault (s.st n).line.printer = true ∨ credit = 0 ∨ (s.st n).slips.vacant

theorem State.feed_still {k : Nat} (h : s.stillAt n k) (hk : (s.st n).line.credit = k) : s.feed n = s := by
  obtain h | h | h := h
  · exact State.feed_idle (.inl (by simp [Line.printerTakes, h]))
  · exact State.feed_idle (.inr (hk.trans h))
  · exact State.feed_vacant h

/-- R10: there a report replaces the credit and the last printed token, and the slots have their completion check. -/
theorem State.readSlip_still {r : HeadReport} (h : s.stillAt n r.credit)
    (ht : ∀ k, r.token = some k → ∀ i : Fin 4, (s.st n).slips.slots[i].token? ≠ some k) :
    s.readSlip n r = (s.updLine n fun l => { l with credit := r.credit }).updSlips n fun q =>
      { q.checked (s.st n).line.printer r.token with lastPrinted := r.token, reported := true } := by
  have still : ∀ u : State, (u.st n).line.printer = (s.st n).line.printer → (u.st n).line.credit = r.credit →
      ((s.st n).slips.vacant → (u.st n).slips.vacant) → u.feed n = u := fun u hp hc hv =>
    State.feed_still (h.imp (by simp [hp]) (.imp id hv)) hc
  have hslots : (((s.noteToken n r.token).st n).slips.slots = (s.st n).slips.slots) ∧
      ((s.noteToken n r.token).st n).slips.order = (s.st n).slips.order := by
    simp only [State.noteToken, State.updSlips_same]
    split <;> exact ⟨rfl, rfl⟩
  have hcredit : (s.noteToken n r.token).takeCredit n r.credit =
      (s.noteToken n r.token).updLine n fun l => { l with credit := r.credit } :=
    still _ (by simp [State.noteToken]) (by simp) fun hv => by
      simpa [SlipQueue.vacant_congr hslots.2 hslots.1] using hv
  simp only [State.readSlip, hcredit]
  rw [State.takeToken_unborne (by simpa [hslots.1] using ht), State.checkSlip,
    still _ (by simp [State.noteToken]) (by simp)]
  · simp only [State.noteToken, State.updSlips, State.updLine, State.upd_upd]
    refine State.upd_congr ?_
    simp only [SlipQueue.checked, State.st_upd_same]
    split <;> simp_all
  · intro hv
    have hn : ((s.noteToken n r.token).st n).slips.vacant := (SlipQueue.vacant_congr hslots.2 hslots.1).mpr hv
    simpa [SlipQueue.checked, SlipQueue.vacant] using
      SlipQueue.checked_vacant hn ((s.noteToken n r.token).st n).line.printer r.token

theorem SlipQueue.checked_unhanded {q : SlipQueue} (hs : ∀ i : Fin 4, q.slots[i] = .free ∨ q.slots[i] = .reserved)
    (p : Printer) (tok : Option Nat) : q.checked p tok = q := by
  have : q.slots.map (fun x => x.check p tok) = q.slots := by
    refine Vector.ext fun i hi => ?_
    obtain h | h := hs ⟨i, hi⟩ <;> simp_all [Slot.check]
  simp [SlipQueue.checked, this]

/-- R10: so it is at a station whose queue holds no slip. -/
theorem State.readSlip_unhanded {r : HeadReport} (ho : (s.st n).slips.order = [])
    (hs : ∀ i : Fin 4, (s.st n).slips.slots[i] = .free ∨ (s.st n).slips.slots[i] = .reserved) :
    s.readSlip n r = (s.updLine n fun l => { l with credit := r.credit }).updSlips n fun q =>
      { q with lastPrinted := r.token, reported := true } := by
  rw [State.readSlip_still (.inr (.inr (SlipQueue.vacant_of_unhanded ho hs)))]
  · simp only [State.updSlips, State.updLine, State.upd_upd]
    refine State.upd_congr ?_
    simp only [SlipQueue.checked_unhanded hs]
  · intro k _ i
    obtain h | h := hs i <;> simp [h, Slot.token?]

theorem exec_headStatus {r : HeadReport} (h : validReport r = true) (n : StationNo) (s : State) :
    exec (.headStatus n r) s = .next (s.fresh.takeStatus n r) :=
  congrArg _ (if_pos h)

end Sys2Proof.Machine
end

section
/-! SUPPORT. A change of a lock source (R44), and the settling of O15. -/

namespace Sys2Proof.Machine

variable {s : State} {n : StationNo}

theorem State.sending_upd (s : State) (n : StationNo) (o : List Out) (f : Station → Station) :
    (s.sending o).upd n f = (s.upd n f).sending o := rfl

theorem State.recorded_upd (s : State) (n : StationNo) (p : Fin 128) (r : Record) (f : Station → Station) :
    (s.recorded p r).upd n f = (s.upd n f).recorded p r := rfl

/-- R198, R204: what one message to the trunk adds to what was sent. -/
theorem State.sendTrunk_eq (s : State) (m : TrunkOut) : s.sendTrunk m = s.sending (s.sent ++ s.onTrunk [m]) := by
  simp only [State.sendTrunk, State.onTrunk]
  split <;> simp [State.sending, State.emit]

/-- R44: the record of a change of the LOCKED state of station n, whose context has become `c`. -/
def State.lockRecord (s : State) (n : StationNo) (c : Ctx) : Record :=
  { s.record .stationEvent (some n) with
    flags := c.stationFlags, detail := some (if c.locked then .locked else .unlocked) }

/-- R44, R204: the notice of such a change. -/
def lockNotice (n : StationNo) (c : Ctx) : Notice := .lockState n c.locked c.lockCommand c.lockAlarm c.lockKeySrc

/-- R44: a change of a lock source that changes LOCKED, with the journal ready: the record, the notice and the DISPLAY. -/
theorem State.lockChange_recorded {p : Fin 128} (hp : s.ready p) (hatt : (s.st n).line.link ≠ .detached) {f : Ctx → Ctx}
    (hf : (f (s.st n).ctx).tx = (s.st n).ctx.tx) (hl : (f (s.st n).ctx).locked ≠ (s.st n).ctx.locked) :
    s.lockChange n f = ((s.updCtx n f).recorded p (s.lockRecord n (f (s.st n).ctx))).sending
      (s.sent ++ s.onTrunk [s.stamped (lockNotice n (f (s.st n).ctx))] ++ [.desk n (s.displayNow n .none)]) := by
  have hu : (s.updCtx n f).ready p := (State.ready_congr (by rfl) (by rfl) (by rfl)).mpr hp
  obtain ⟨hfill, hroom, hj, ha⟩ := hu
  have hsource : s.changeSource n f = ((s.updCtx n f).recorded p (s.lockRecord n (f (s.st n).ctx))).sending
      (s.sent ++ s.onTrunk [s.stamped (lockNotice n (f (s.st n).ctx))] ++ [.desk n (s.displayNow n .none)]) := by
    simp only [State.changeSource, State.updCtx_same, if_neg hl, State.offer_room hfill hroom hj, State.notice,
      State.sendTrunk_eq]
    rw [State.tone_attached (by simpa using hatt), State.displayNow_eq (s := s) (by simp) (by simpa using hf) (by simp)]
    rfl
  rw [State.lockChange, hsource, if_neg (by simpa using hl)]
  exact State.settle_settled _ ha

end Sys2Proof.Machine

namespace Sys2Proof.Proofs
open Sys2Proof Sys2Proof.Machine

/-- Settles O15: with no slip in the queue the report replaces credit and token, after the lock key is taken. -/
theorem headStatusWithoutSlips : Obligations.HeadStatusWithoutSlips := by
  intro n r s hv hatt hprinter ho hs
  have hstatus : exec (.headStatus n r) s = .next (((s.fresh.heard n).takeLockKey n r.lockKey).readSlip n r) := by
    rw [exec_headStatus hv, State.takeStatus_eq, State.wake_attached (by simpa using hatt),
      State.takePrinter_same (by simpa using hprinter)]
  have hread : ∀ u : State, (u.st n).slips = (s.st n).slips →
      u.readSlip n r = (u.updLine n fun l => { l with credit := r.credit }).updSlips n fun q =>
        { q with lastPrinted := r.token, reported := true } := fun u hu =>
    State.readSlip_unhanded (by rw [hu]; exact ho) (by rw [hu]; exact hs)
  have hkey : r.lockKey ≠ (s.st n).line.lockKey → (s.fresh.heard n).takeLockKey n r.lockKey =
      ((s.fresh.heard n).updLine n fun l => { l with lockKey := r.lockKey }).lockChange n fun c =>
        { c with lockKeySrc := r.lockKey } := fun h =>
    if_neg (by simpa using Ne.symm h)
  rw [hstatus]
  refine ⟨fun h => ?_, fun h hl => ?_, fun p hp h hl => ?_⟩
  · rw [State.takeLockKey_same (by simpa using h), hread _ (by simp)]
    refine congrArg Host.Outcome.next ?_
    simp only [State.heard, State.updSlips, State.updLine, State.upd_upd]
    rw [h]
    rfl
  · rw [hkey h, State.lockChange_same _ _ _ (by simpa using hl), hread _ (by simp)]
    refine congrArg Host.Outcome.next ?_
    simp only [State.heard, State.updSlips, State.updLine, State.updCtx, State.upd_upd]
    rfl
  · have hturned : (((((s.heard n).updLine n fun l => { l with credit := r.credit, lockKey := r.lockKey }).updSlips n
        fun q => { q with lastPrinted := r.token, reported := true }).updCtx n fun c =>
          { c with lockKeySrc := r.lockKey }).st n).ctx = { (s.st n).ctx with lockKeySrc := r.lockKey } := by
      simp
    rw [hturned] at hl ⊢
    have hready : ((s.fresh.heard n).updLine n fun l => { l with lockKey := r.lockKey }).ready p :=
      (State.ready_congr (by rfl) (by rfl) (by rfl)).mpr hp
    rw [hkey h, State.lockChange_recorded hready (by simpa using hatt) (by simp) (by simpa using hl), hread _ (by simp),
      State.displayNow_eq (s := s) (by simp) (by simp) (by simp)]
    refine congrArg Host.Outcome.next ?_
    simp only [State.heard, State.updSlips, State.updLine, State.updCtx, State.sending_upd, State.recorded_upd,
      State.upd_upd, State.st_upd_same]
    rfl

end Sys2Proof.Proofs
end

section
/-! SUPPORT. An ATTACH leaves the badge list (R70). -/

namespace Sys2Proof.Machine

variable (s : State) (n : StationNo)

@[simp] theorem State.completeClose_badges : (s.completeClose n).badges = s.badges := by
  have hw : (s.withdrawBlocks n).badges = s.badges := foldl_keeps (·.badges) _ (by simp) _ s
  have hs : ((s.withdrawBlocks n).settleSlip n).badges = s.badges := by
    simp only [State.settleSlip]
    split <;> simp [hw]
  simp [State.completeClose, hs]

@[simp] theorem State.endEvent_badges (tone : Tone) : (s.endEvent n tone id).badges = s.badges := by
  simp only [State.endEvent, State.closeIfDone, id]
  repeat' split
  all_goals simp

@[simp] theorem State.faultEvent_badges (before : Bool) (tone : Tone) :
    (s.faultEvent n before tone).badges = s.badges := by
  simp [State.faultEvent_eq]

@[simp] theorem State.forceClose_badges (counted : Bool) : (s.forceClose n counted).badges = s.badges := by
  have hv : (s.voidQueries n).badges = s.badges := by
    simp only [State.voidQueries]
    rw [foldl_keeps (·.badges) State.voidQuery (by simp)]
    simp
  simp only [State.forceClose]
  split
  · rfl
  · simp only [State.tone_keeps, State.updCtx_keeps]
    rw [foldl_keeps (·.badges) (fun s l => s.withdrawResolved n l) (by simp)]
    split <;> simp [hv]

@[simp] theorem State.loseHead_badges : (s.loseHead n).badges = s.badges := by
  simp [State.loseHead, State.emptyAlerts]

@[simp] theorem State.enterCheck_badges : (s.enterCheck n).badges = s.badges := by
  simp only [State.enterCheck_eq, State.checking, State.tone_keeps, State.faultEvent_badges, State.updLine_keeps,
    State.setPrinter_keeps]
  split <;> simp

end Sys2Proof.Machine
end

section
/-! The settling of O5. -/

namespace Sys2Proof.Machine

variable {s : State} {n : StationNo}

/-- R15: an empty history crosses a threshold of 1 only. -/
theorem Line.crosses_empty {l : Line} (hh : l.history = []) {q : Quality} (h : q = .good ∨ l.threshold ≠ 1) :
    l.crosses q = false := by
  obtain rfl | h := h
  · exact l.crosses_good
  · cases q
    · exact l.crosses_good
    · simp [Line.crosses, joinHistory, badCount, Config.maxHistory, hh]
      omega

/-- R15: the first outcome of a history. -/
theorem State.noteQuality_first {q : Quality} (hh : (s.st n).line.history = [])
    (h : q = .good ∨ (s.st n).line.threshold ≠ 1) :
    s.noteQuality n q = s.updLine n fun l => { l with history := [q] } := by
  rw [State.noteQuality_uncrossed (Line.crosses_empty hh h)]
  exact State.upd_congr (by simp [hh, joinHistory, Config.maxHistory])

theorem State.stick_updLine (s : State) (f : StickyFlags) (n : StationNo) (g : Line → Line) :
    (s.stick f).updLine n g = (s.updLine n g).stick f := rfl

/-- R5, R7: a SCAN at a DETACHED line is noted in the state that ATTACH leaves, and handled as in CHECK. -/
theorem State.takeScan_detached {symbol : Text} (h : (s.st n).line.link = .detached)
    (hq : (classify symbol).quality = .good ∨ (s.st n).line.threshold ≠ 1) :
    s.takeScan n symbol = (((s.enterCheck n).updLine n fun l => { l with history := [(classify symbol).quality] }).stick
      { classClamped := (classify symbol).clamped }).scanInCheck n (classify symbol) := by
  have hl := s.enterCheck_line n
  have hq' : (classify symbol).quality = .good ∨ ((s.enterCheck n).st n).line.threshold ≠ 1 := by rwa [hl]
  simp only [State.takeScan, State.wake_detached h]
  rw [State.noteQuality_first (by simp [hl]) (by simpa using hq'), State.stick_updLine]
  simp [hl]

/-- R7: a borrower or an item scanned in CHECK. -/
theorem scanInCheck_item {o : ScanOutcome} (h : (∃ b, o = .borrower b) ∨ ∃ k c m, o = .item k c m) :
    o.quality = .good ∧ ∀ (u : State) (n : StationNo), u.scanInCheck n o = u.tone n .locked := by
  obtain ⟨b, rfl⟩ | ⟨k, c, m, rfl⟩ := h <;> exact ⟨rfl, fun _ _ => rfl⟩

/-- R7, R14: a BAD outcome is counted, and draws its tone. -/
theorem scanInCheck_bad {o : ScanOutcome} (h : o = .badCheck ∨ o = .badForm) :
    o.quality = .bad ∧ o.clamped = false ∧
      ∀ (u : State) (n : StationNo), u.scanInCheck n o = (u.tallyBadScan n).tone n .locked := by
  obtain rfl | rfl := h <;> exact ⟨rfl, rfl, fun _ _ => rfl⟩

/-- R2: what a DISPLAY adds to what was sent, at a state that shows what `u` shows. -/
theorem State.tone_like {u v : State} (hs : v.sent = u.sent) (hl : (v.st n).line.link = (u.st n).line.link)
    (hc : (v.st n).ctx.tx = (u.st n).ctx.tx) (ha : (v.st n).alerts = (u.st n).alerts)
    (hatt : (u.st n).line.link ≠ .detached) (t : Tone) :
    v.tone n t = v.sending (u.sent ++ [.desk n (u.displayNow n t)]) := by
  rw [State.tone_attached (by rwa [hl]), State.displayNow_eq hl hc ha, hs]

end Sys2Proof.Machine

namespace Sys2Proof.Proofs
open Sys2Proof Sys2Proof.Machine

/-- Settles O5: a frame at a DETACHED line meets the state that ATTACH leaves, where no history stands and no slip can be
fed. -/
theorem framesOutsideActive : Obligations.FramesOutsideActive := by
  intro n s
  refine ⟨fun hlink => ⟨fun symbol hv hc => ?_, fun k => ?_⟩, fun hlink => ⟨s.fresh.enterCheck n, rfl, ?_⟩⟩
  · have hatt : (s.st n).line.link ≠ .detached := by simp [hlink]
    obtain ⟨hgood, hlocked⟩ := scanInCheck_item hc
    rw [exec_scan hv, State.takeScan_check (by simpa using hlink) (by rw [hgood]; exact Line.crosses_good _), hlocked,
      hgood, State.scanned_tone hatt, State.toHead_attached hatt]
    rfl
  · have hatt : (s.st n).line.link ≠ .detached := by simp [hlink]
    show Host.Outcome.next (s.fresh.takeKey n k) = _
    simp only [State.takeKey, State.wake_attached (s := s.fresh) (n := n) (by simpa using hatt), State.heard_st,
      State.fresh_st, hlink, State.heard_tone hatt]
  · have hd : (s.fresh.st n).line.link = .detached := hlink
    have hl := s.fresh.enterCheck_line n
    have hscan : ∀ symbol, validSymbol symbol = true →
        ((classify symbol).quality = .good ∨ (s.st n).line.threshold ≠ 1) → exec (.scan n symbol) s = .next
          ((((s.fresh.enterCheck n).updLine n fun l => { l with history := [(classify symbol).quality] }).stick
            { classClamped := (classify symbol).clamped }).scanInCheck n (classify symbol)) := fun symbol hv hq => by
      rw [exec_scan hv, State.takeScan_detached hd hq]
    have hbadges : (s.fresh.enterCheck n).badges = s.badges := by simp
    have hwake : s.fresh.wake n = s.fresh.enterCheck n := State.wake_detached hd
    generalize s.fresh.enterCheck n = u at hl hscan hbadges hwake ⊢
    have hatt : (u.st n).line.link ≠ .detached := by simp [hl]
    refine ⟨fun k => ?_, fun symbol hv => ⟨fun hc => ?_, fun k hk => ⟨fun hb => ?_, fun hb => ?_⟩, fun hbad ht => ?_⟩,
      fun r hv hp hkey ho hs => ?_⟩
    · show Host.Outcome.next (s.fresh.takeKey n k) = _
      simp only [State.takeKey, hwake]
      simp only [hl, State.tone_attached hatt]
    · obtain ⟨hgood, hlocked⟩ := scanInCheck_item hc
      rw [hscan symbol hv (.inl hgood), hlocked, hgood,
        State.tone_like (u := u) (by rfl) (by simp) (by simp) (by simp) hatt]
    · rw [hscan symbol hv (.inl (by simp [hk, ScanOutcome.quality])), hk]
      simp only [ScanOutcome.clamped, State.stick_nothing, ScanOutcome.quality, State.scanInCheck]
      rw [if_neg (by simpa [hbadges] using hb), State.tone_like (u := u) (by rfl) (by simp) (by simp) (by simp) hatt]
    · refine ⟨_, hscan symbol hv (.inl (by simp [hk, ScanOutcome.quality])), ?_⟩
      simp only [hk, ScanOutcome.clamped, State.stick_nothing, ScanOutcome.quality, State.scanInCheck]
      rw [if_pos (by simpa [hbadges] using hb), State.faultEvent_line (by simp [hl])]
      simp
    · obtain ⟨hq, hclamp, htone⟩ := scanInCheck_bad hbad
      rw [hscan symbol hv (.inr ht), htone, hq, hclamp, State.stick_nothing, State.tone_like (u := u) (by rfl)
        (by simp [State.tallyBadScan]) (by simp [State.tallyBadScan]) (by simp [State.tallyBadScan]) hatt]
      rfl
    · rw [exec_headStatus hv, State.takeStatus_eq, hwake, State.takePrinter_same (by rw [hl, hp]),
        State.takeLockKey_same (by rw [hl, hkey]; rfl), State.readSlip_unhanded ho hs]

end Sys2Proof.Proofs
end

section
/-! SUPPORT. A request of a level that the resolver takes at once (R134, R137, R138), and scans that count (R15). -/

namespace Sys2Proof.Machine

variable {s : State} {n : StationNo}

/-- R134: a level requested stands. -/
theorem Resolver.request_stands (r : Resolver) (l : Level) (i : Nat) (o : Option Origin) :
    (r.request l i o).pending.mem l = true ∨ (r.request l i o).inService.mem l = true := by
  simp only [Resolver.request]
  repeat' split
  all_goals simp_all

@[simp] theorem Resolver.request_settings (r : Resolver) (l : Level) (i : Nat) (o : Option Origin) :
    (r.request l i o).settings = r.settings := by
  simp only [Resolver.request]
  repeat' split
  all_goals rfl

/-- R134: a level requested stands after the event, unless it is acknowledged at once. -/
theorem State.requestLevel_stands {l : Level} (ha : (s.st n).alerts.autoAck.mem l = false) (i : Nat)
    (o : Option Origin) :
    ((s.requestLevel n l i o).st n).alerts.pending.mem l = true ∨
      ((s.requestLevel n l i o).st n).alerts.inService.mem l = true := by
  have hset : ((s.st n).alerts.request l i o).autoAck = (s.st n).alerts.autoAck :=
    congrArg (fun x => x.2.2.1) (Resolver.request_settings (s.st n).alerts l i o)
  have h := State.resolve_stands (s := s.updAlerts n fun r => r.request l i o) (n := n) (l := l) 8
    (by rw [State.updAlerts_same]; exact hset ▸ ha) (by simpa using (s.st n).alerts.request_stands l i o)
  simpa [State.requestLevel, State.settleAlerts] using h

/-- R137: a level alone in the sets, and not masked, is taken. -/
theorem Resolver.candidate_only {r : Resolver} {l : Level} (hi : r.inService = .empty)
    (hp : ∀ k, r.pending.mem k = decide (k = l)) (hm : r.mask.mem l = false) : r.candidate = some l := by
  have hf : (fun k => r.inService.mem k || (r.pending.mem k && !r.mask.mem k)) = fun k => decide (k = l) := by
    funext k
    by_cases hk : k = l <;> simp_all
  unfold Resolver.candidate
  rw [hf, find_orderFrom]
  simp [hi]

/-- R138: a level alone in service is displayed. -/
theorem Resolver.displayed_only {r : Resolver} {l : Level} (hi : ∀ k, r.inService.mem k = decide (k = l)) :
    r.displayed = some l := by
  rw [Resolver.displayed, show r.inService.mem = fun k => decide (k = l) from funext hi]
  exact find_orderFrom _ _

/-- R138: the DISPLAY of the level that resolution takes first. -/
theorem State.resolve_displays {l : Level} (k : Nat) (hatt : (s.st n).line.link ≠ .detached)
    (hc : (s.st n).alerts.candidate = some l) (hi : (s.st n).alerts.inService = .empty) :
    .desk n (.display (s.st n).shownState (some l) ((s.st n).alerts.indexOf l) .none) ∈
      (State.resolve n (k + 1) s).sent := by
  have hd : ((s.st n).alerts.serve l).displayed = some l := Resolver.displayed_only fun k => by
    simp [Resolver.serve, hi]
  have hw : ((s.st n).alerts.serve l).showing = (some l, (s.st n).alerts.indexOf l) := by
    unfold Resolver.showing
    rw [hd]
    rfl
  have hshow : .desk n (.display (s.st n).shownState (some l) ((s.st n).alerts.indexOf l) .none) ∈
      ((s.updAlerts n fun r => r.serve l).showAlerts n .none).sent := by
    simp only [State.showAlerts, State.display, State.sendDesk]
    rw [if_neg (by simpa using hatt)]
    simp [hd, hw, Station.shownState]
  simp only [State.resolve, hc]
  split
  · exact State.mem_resolve n k (by simpa using hshow)
  · exact hshow

/-- R15: when a BAD outcome crosses the threshold. -/
theorem Line.crosses_bad (l : Line) : l.crosses .bad = true ↔
    0 < l.threshold ∧ l.history.countP (fun q => decide (q = .bad)) < l.threshold ∧
      l.threshold ≤ (joinHistory l.history .bad).countP fun q => decide (q = .bad) := by
  rw [List.countP_eq_length_filter, List.countP_eq_length_filter, ← badCount, ← badCount]
  simp only [Line.crosses, Bool.and_eq_true, decide_eq_true_eq, and_assoc, true_and]

theorem scanInActive_bad {o : ScanOutcome} (h : o = .badCheck ∨ o = .badForm) (u : State) (n : StationNo) :
    u.scanInActive n o = (u.tallyBadScan n).tone n .badScan := by
  obtain rfl | rfl := h <;> rfl

/-- R7, R14: a BAD scan at an attached line. -/
theorem State.takeScan_bad {symbol : Text} (h : classify symbol = .badCheck ∨ classify symbol = .badForm)
    (hatt : (s.st n).line.link ≠ .detached) : s.takeScan n symbol =
      (((s.heard n).noteQuality n .bad).tallyBadScan n).tone n
        (if (s.st n).line.link = .check then .locked else .badScan) := by
  obtain ⟨hq, hc, hcheck⟩ := scanInCheck_bad h
  have hl : (((s.heard n).noteQuality n .bad).st n).line.link = (s.st n).line.link := by
    simp only [State.noteQuality]
    split <;> simp
  rw [State.takeScan_attached hatt, hq, hc, State.stick_nothing]
  cases hlink : (s.st n).line.link with
  | detached => exact absurd hlink hatt
  | check => simp [hl, hlink, hcheck]
  | active => simp [hl, hlink, scanInActive_bad h]

/-- R7, R14: a badge scan at an attached line. -/
theorem State.takeScan_badge {symbol : Text} {k : Nat} (h : classify symbol = .badge k)
    (hatt : (s.st n).line.link ≠ .detached) : s.takeScan n symbol =
      if (s.st n).line.link = .check then (s.scanned n .good).scanInCheck n (.badge k)
      else (s.scanned n .good).scanInActive n (.badge k) := by
  cases hlink : (s.st n).line.link with
  | detached => exact absurd hlink hatt
  | check =>
    rw [State.takeScan_check hlink (by rw [h]; exact Line.crosses_good _), h]
    simp [ScanOutcome.quality, ScanOutcome.clamped, State.stick_nothing]
  | active =>
    rw [State.takeScan_active hlink (by rw [h]; exact Line.crosses_good _), h]
    simp [ScanOutcome.quality, ScanOutcome.clamped, State.stick_nothing]

end Sys2Proof.Machine
end

section
/-! The settling of O6. -/

namespace Sys2Proof.Machine

variable {s : State} {n : StationNo}

/-- R8: an event at a station with a cleared context reaches no other state but what is sent. -/
theorem State.endEvent_cleared_rest (h : (s.st n).ctx = (s.st n).ctx.cleared) (tone : Tone) :
    s.endEvent n tone id =
      { s with stations := (s.endEvent n tone id).stations, sent := (s.endEvent n tone id).sent } := by
  refine State.eq_of_rest ?_
  rw [State.endEvent_cleared h]
  simp

/-- R138: the last frame of an event that draws a tone. -/
theorem State.finishShow_last (hatt : (s.st n).line.link ≠ .detached) {t : Tone} (ht : t ≠ .none) :
    (s.finishShow n t).sent.getLast? = some (.desk n (.display ((s.finishShow n t).st n).shownState
      ((s.finishShow n t).st n).alerts.showing.1 ((s.finishShow n t).st n).alerts.showing.2 t)) := by
  have hs : s.finishShow n t = s.showAlerts n t := if_neg fun h => ht h.1
  rw [hs]
  have hw : ∀ (r : Resolver) x, { r with shown := x }.showing = r.showing := fun _ _ => rfl
  simp only [State.showAlerts, State.display, State.sendDesk, if_neg hatt]
  simp [hw, Station.shownState]

/-- R135: a change of the station fault condition at a station with a cleared context. -/
theorem State.faultEvent_cleared (h : (s.st n).ctx = (s.st n).ctx.cleared) (before : Bool) (tone : Tone) :
    ((s.faultEvent n before tone).st n).line = (s.st n).line ∧
    ((s.faultEvent n before tone).st n).ctx = (s.st n).ctx ∧
    ((s.faultEvent n before tone).st n).slips = (s.st n).slips ∧
    ((s.faultEvent n before tone).st n).tallies = (s.st n).tallies ∧
    (∀ m, m ≠ n → (s.faultEvent n before tone).st m = s.st m) ∧
    s.faultEvent n before tone =
      { s with stations := (s.faultEvent n before tone).stations, sent := (s.faultEvent n before tone).sent } := by
  rw [State.faultEvent_eq]
  generalize hv : s.updAlerts n _ = v
  have hc : (v.st n).ctx = (s.st n).ctx := by simp [← hv]
  have hcl : (v.st n).ctx = (v.st n).ctx.cleared := by rw [hc]; exact h
  obtain ⟨hctx, hline, hslips, htallies⟩ := State.endEvent_cleared_parts hcl tone
  refine ⟨?_, hctx.trans hc, ?_, ?_, fun m hm => ?_, ?_⟩
  · rw [hline]; simp [← hv]
  · rw [hslips]; simp [← hv]
  · rw [htallies]; simp [← hv]
  · rw [State.endEvent_cleared_other hcl hm]; simp [← hv, hm]
  · have hr := State.endEvent_cleared_rest hcl tone
    rw [hr]
    simp only [← hv]
    rfl

theorem State.faultEvent_last (h : (s.st n).ctx = (s.st n).ctx.cleared) (hatt : (s.st n).line.link ≠ .detached)
    (before : Bool) {t : Tone} (ht : t ≠ .none) :
    (s.faultEvent n before t).sent.getLast? = some (.desk n (.display ((s.faultEvent n before t).st n).shownState
      ((s.faultEvent n before t).st n).alerts.showing.1 ((s.faultEvent n before t).st n).alerts.showing.2 t)) := by
  rw [State.faultEvent_eq, State.endEvent_cleared (by simpa using h)]
  exact State.finishShow_last (by simpa using hatt) ht

/-- R15: a BAD outcome that crosses the threshold requests L7 (R143). -/
theorem State.noteQuality_crossed {q : Quality} (h : (s.st n).line.crosses q = true) : s.noteQuality n q =
    (s.updLine n fun l => { l with history := joinHistory l.history q }).requestLevel n .l7 0 none := by
  simp [State.noteQuality, h]

/-- R138: the DISPLAY of a level requested alone. -/
theorem State.requestLevel_displays {l : Level} (hatt : (s.st n).line.link ≠ .detached)
    (hp : (s.st n).alerts.pending = .empty) (hi : (s.st n).alerts.inService = .empty)
    (hm : (s.st n).alerts.mask.mem l = false) (i : Nat) (o : Option Origin) :
    .desk n (.display (s.st n).shownState (some l) i .none) ∈ (s.requestLevel n l i o).sent := by
  have hr : (s.st n).alerts.request l i o = { (s.st n).alerts with
      pending := LevelSet.empty.insert l, index := (s.st n).alerts.index.set l.idx i
      origin := if l = .l5 then o else (s.st n).alerts.origin } := by
    simp [Resolver.request, hp, hi]
  have hc : ((s.st n).alerts.request l i o).candidate = some l :=
    Resolver.candidate_only (by rw [hr]; exact hi) (by simp [hr]) (by rw [hr]; exact hm)
  have hd := State.resolve_displays (s := s.updAlerts n fun r => r.request l i o) (n := n) (l := l) 7
    (by simpa using hatt) (by simpa using hc) (by rw [State.updAlerts_same, hr]; exact hi)
  refine State.mem_finishShow n (State.mem_reportHold n ?_) _
  simpa [hr, Resolver.indexOf, Station.shownState] using hd

end Sys2Proof.Machine

namespace Sys2Proof.Proofs
open Sys2Proof Sys2Proof.Machine

/-- R8: a badge that is listed withdraws L0 where the printer is not at fault. -/
theorem badgeEvent_withdraws {v : State} {n : StationNo} (hc : (v.st n).ctx = (v.st n).ctx.cleared)
    (hl : (v.st n).line.fault = false) (tone : Tone) :
    ((v.faultEvent n true tone).st n).alerts.pending.mem .l0 = false ∧
      ((v.faultEvent n true tone).st n).alerts.inService.mem .l0 = false := by
  rw [State.faultEvent_eq, State.endEvent_cleared (by simpa using hc)]
  simpa [hl] using State.resolve_absent (s := v.updAlerts n fun r => r.withdraw .l0) (n := n) (l := .l0) 8
    (by simp) (by simp)

/-- Settles O6: a badge ends in an event of the resolver at a cleared context, and a BAD scan in a request of L7. -/
theorem scansCountAndClear : Obligations.ScansCountAndClear := by
  intro n symbol s hv
  refine ⟨fun k hk => ⟨fun hatt hb => ?_, fun hlink hb hc => ?_⟩, fun hbad hatt => ⟨fun hx => ?_, fun h1 h2 h3 _ => ?_⟩⟩
  · have htone : s.fresh.takeScan n symbol = (s.fresh.scanned n .good).tone n .refuse := by
      rw [State.takeScan_badge hk (by simpa using hatt)]
      have hb' : (s.fresh.scanned n .good).badges.contains k = false := hb
      simp only [State.scanInCheck, State.scanInActive, State.takeBadge, hb', Bool.not_false, if_true, ite_self,
        Bool.false_eq_true, if_false]
    rw [exec_scan hv, htone, ← State.stick_nothing (s.fresh.scanned n .good), State.scanned_tone hatt,
      State.stick_nothing]
  · have hatt : (s.st n).line.link ≠ .detached := by simp [hlink]
    have hscan : exec (.scan n symbol) s = .next
        (((s.fresh.scanned n .good).updLine n fun l => { l with link := .active }).faultEvent n true .accept) := by
      have hb' : (s.fresh.scanned n .good).badges.contains k = true := hb
      rw [exec_scan hv, State.takeScan_badge hk (by simpa using hatt), if_pos (by simpa using hlink)]
      simp only [State.scanInCheck, hb', if_true]
    refine ⟨_, hscan, ?_⟩
    generalize hw : (s.fresh.scanned n .good).updLine n (fun l => { l with link := .active }) = w
    have hcw : (w.st n).ctx = (s.st n).ctx := by simp [← hw]
    have hlw : (w.st n).line = { ((s.scanned n .good).st n).line with link := .active } := by simp [← hw]
    have hcl : (w.st n).ctx = (w.st n).ctx.cleared := by rw [hcw]; exact hc
    obtain ⟨hline, hctx, hslips, htallies, hother, hrest⟩ := State.faultEvent_cleared hcl true .accept
    refine ⟨hline.trans hlw, hctx.trans hcw, ?_, ?_, fun hf => ?_, ?_, fun m hm => ?_, ?_⟩
    · rw [hslips]; simp [← hw]
    · rw [htallies]; simp [← hw]
    · exact badgeEvent_withdraws hcl (by simp [Line.fault, hlw, hf]) _
    · rw [State.faultEvent_last hcl (by simp [hlw]) true (by simp)]
      have hidle : (s.st n).ctx.tx = .idle := by rw [hc]; rfl
      simp [Station.shownState, hline, hlw, hctx, hcw, hidle]
    · rw [hother m hm]
      simp [← hw, hm, State.scanned_other]
    · refine State.eq_of_rest ?_
      rw [hrest]
      simp [← hw, State.scanned, State.heard]
  · rw [exec_scan hv, State.takeScan_bad hbad (by simpa using hatt)]
    have hx' : ((s.fresh.heard n).st n).line.crosses .bad = false := by
      rw [Bool.eq_false_iff]
      intro hcross
      rw [Line.crosses_bad] at hcross
      exact hx (by simpa using hcross)
    rw [State.noteQuality_uncrossed hx', State.tone_like (u := s.fresh) (by rfl) (by simp [State.tallyBadScan])
      (by simp [State.tallyBadScan]) (by simp [State.tallyBadScan]) hatt]
    simp only [joinHistory_eq]
    rfl
  · have hx : ((s.fresh.heard n).st n).line.crosses .bad = true :=
      (Line.crosses_bad _).mpr ⟨by simpa using h1, by simpa using h2, by simpa using h3⟩
    refine ⟨_, by rw [exec_scan hv, State.takeScan_bad hbad (by simpa using hatt)], ?_⟩
    rw [State.noteQuality_crossed hx]
    generalize hw : (s.fresh.heard n).updLine n _ = w
    have hst : w.st n = (s.scanned n .bad).st n := by simp [← hw]
    have hline : (w.st n).line = ((s.scanned n .bad).st n).line := by rw [hst]
    refine ⟨?_, ?_, fun ha => ?_, fun hp hi hm => ?_, fun m hm => ?_, ?_⟩
    · simp [State.tallyBadScan, hst]
    · simp [State.tallyBadScan, hst, sat32, satAdd, Config.maxCount32]
    · simpa [State.tallyBadScan] using State.requestLevel_stands (by simpa [hst] using ha) 0 none
    · refine State.mem_tone n ?_ _
      have hd := State.requestLevel_displays (s := w) (n := n) (l := .l7) (by simpa [hst] using hatt)
        (by simpa [hst] using hp) (by simpa [hst] using hi) (by simpa [hst] using hm) 0 none
      simpa [State.tallyBadScan, hst, Station.shownState] using hd
    · simp [State.tallyBadScan, hm, ← hw, State.heard]
    · refine State.eq_of_rest ?_
      simp [State.tallyBadScan, ← hw, State.heard]

end Sys2Proof.Proofs
end

section
/-! SUPPORT. The lines that a PRINTING slip sends (R155), and a queue of one slip. -/

namespace Sys2Proof.Machine

variable {s : State} {n : StationNo} {i : Fin 4}

/-! ### Lines -/

/-- R155: the lines of a slip that go out from line `sent` on, `m` of them, the last of the slip marked. -/
def slipLines (n : StationNo) (tok : Nat) (lines : List Text) (sent m : Nat) : List Out :=
  (List.range m).map fun j =>
    .desk n (.slipLine tok (sent + j) (lines.getD (sent + j) []) (decide (sent + j + 1 = lines.length)))

theorem slipLines_succ (n : StationNo) (tok : Nat) (lines : List Text) (sent m : Nat) :
    slipLines n tok lines sent (m + 1) =
      .desk n (.slipLine tok sent (lines.getD sent []) (decide (sent + 1 = lines.length))) ::
        slipLines n tok lines (sent + 1) m := by
  simp only [slipLines, List.range_succ_eq_map, List.map_cons, List.map_map, Nat.add_zero]
  refine congrArg _ (List.map_congr_left fun j _ => ?_)
  have : sent + (j + 1) = sent + 1 + j := by omega
  simp [this]

/-- R155: the PRINTING slot i has sent `m` lines more. -/
def State.sentLines (s : State) (n : StationNo) (i : Fin 4) (text : List Text) (tok sent : Nat) (rep : Bool)
    (ready m : Nat) : State :=
  ((s.updLine n fun l => { l with credit := l.credit - m }).updSlips n fun q =>
    q.setSlot i (.printing text tok (sent + m) rep (if m = 0 then ready else 0))).sending
      (s.sent ++ slipLines n tok (streamed text rep) sent m)

theorem State.sentLines_zero {text : List Text} {tok sent : Nat} {rep : Bool} {ready : Nat}
    (h : (s.st n).slips.slots[i] = .printing text tok sent rep ready) :
    s.sentLines n i text tok sent rep ready 0 = s := by
  have hs : s.updSlips n (fun q => q.setSlot i (.printing text tok sent rep ready)) = s := by
    refine State.updSlips_self ?_
    rw [SlipQueue.setSlot, ← h]
    simp
  simp only [State.sentLines, Nat.sub_zero, Nat.add_zero, if_true, State.updLine_self]
  rw [hs]
  simp [State.sending, slipLines]

theorem State.sentLines_succ (s : State) (n : StationNo) (i : Fin 4) (text : List Text) (tok sent : Nat) (rep : Bool)
    (ready m : Nat) : s.sentLines n i text tok sent rep ready (m + 1) =
      (((s.emit (.desk n (.slipLine tok sent ((streamed text rep).getD sent [])
        (decide (sent + 1 = (streamed text rep).length))))).updSlips n fun q =>
          q.setSlot i (.printing text tok (sent + 1) rep 0)).updLine n fun l =>
            { l with credit := l.credit - 1 }).sentLines n i text tok (sent + 1) rep 0 m := by
  have h1 : sent + (m + 1) = sent + 1 + m := by omega
  have h2 : ∀ k, k - (m + 1) = k - 1 - m := fun k => by omega
  simp only [State.sentLines, slipLines_succ, State.updLine, State.updSlips, State.upd_upd, SlipQueue.setSlot,
    Vector.set_set, h1, h2, ite_self, Nat.add_one_ne_zero, if_false]
  rw [List.append_cons]
  rfl

/-- One element of a vector replaced, read at an index of the same kind. -/
theorem getElem_set_fin {α : Type} {k : Nat} (v : Vector α k) (i j : Fin k) (x : α) :
    (v.set i x)[j] = if j = i then x else v[j] := by
  by_cases h : j = i
  · subst h
    simp
  · have : i.val ≠ j.val := fun e => h (Fin.ext e.symm)
    simp [this, h]

theorem SlipQueue.setSlot_slots (q : SlipQueue) (i k : Fin 4) (x : Slot) :
    (q.setSlot i x).slots[k] = if k = i then x else q.slots[k] :=
  getElem_set_fin _ _ _ _

/-- No other slot than i is PRINTING or INTERRUPTED. -/
def SlipQueue.busyOnly (q : SlipQueue) (i : Fin 4) : Prop := ∀ k : Fin 4, k ≠ i → q.slots[k].busy = false

theorem SlipQueue.busyOnly_setSlot {q : SlipQueue} (h : q.busyOnly i) (x : Slot) : (q.setSlot i x).busyOnly i := by
  intro k hk
  rw [SlipQueue.setSlot_slots, if_neg hk]
  exact h k hk

/-- R155: what streaming sends: as many lines as the credit allows and the slip still has. -/
theorem State.stream_printing {text : List Text} {tok : Nat} {rep : Bool} {k : Nat} :
    ∀ {s : State} {sent ready : Nat}, (s.st n).line.link ≠ .detached → (s.st n).line.printerTakes = true →
      (s.st n).line.credit = k → (s.st n).slips.busyOnly i →
      (s.st n).slips.slots[i] = .printing text tok sent rep ready →
      State.stream n k s = s.sentLines n i text tok sent rep ready (min k ((streamed text rep).length - sent)) := by
  induction k with
  | zero =>
    intro s sent ready _ _ _ _ hslot
    rw [Nat.zero_min, State.sentLines_zero hslot]
    rfl
  | succ k ih =>
    intro s sent ready hatt htakes hcredit hbusy hslot
    have hfind : (s.st n).slips.find Slot.busy = some i := SlipQueue.find_only (by rw [hslot]; rfl) hbusy
    by_cases hsent : sent < (streamed text rep).length
    · have hm : min (k + 1) ((streamed text rep).length - sent) =
          min k ((streamed text rep).length - (sent + 1)) + 1 := by omega
      have hline : (streamed text rep)[sent]? = some ((streamed text rep).getD sent []) := by
        simp [hsent]
      rw [hm, State.sentLines_succ, ← ih]
      · simp only [State.stream, hfind, hslot, hline]
        rw [if_pos ⟨htakes, by omega⟩, State.sendDesk, if_neg hatt]
      · simpa using hatt
      · simpa [Line.printerTakes] using htakes
      · simpa using by omega
      · simpa using SlipQueue.busyOnly_setSlot hbusy _
      · simp [SlipQueue.setSlot]
    · have hm : min (k + 1) ((streamed text rep).length - sent) = 0 := by omega
      have hline : (streamed text rep)[sent]? = none := by simpa using hsent
      rw [hm, State.sentLines_zero hslot]
      simp only [State.stream, hfind, hslot, hline]

end Sys2Proof.Machine
end

section
/-! SUPPORT. What a HEAD_STATUS report makes of a queue of one slip (R154 to R158). -/

namespace Sys2Proof.Machine

variable {s : State} {n : StationNo} {i : Fin 4}

/-- R150: the queue holds the slip of slot i and no other. -/
def SlipQueue.sole (q : SlipQueue) (i : Fin 4) : Prop :=
  q.order = [i] ∧ ∀ k : Fin 4, k ≠ i → q.slots[k] = .free ∨ q.slots[k] = .reserved

theorem SlipQueue.sole.busyOnly {q : SlipQueue} (h : q.sole i) : q.busyOnly i := by
  intro k hk
  obtain h | h := h.2 k hk <;> simp only [h] <;> rfl

theorem SlipQueue.sole.setSlot {q : SlipQueue} (h : q.sole i) (x : Slot) : (q.setSlot i x).sole i := by
  refine ⟨h.1, fun k hk => ?_⟩
  rw [SlipQueue.setSlot_slots, if_neg hk]
  exact h.2 k hk

/-- A change of every slot that leaves FREE and RESERVED is a change of the one slip's. -/
theorem SlipQueue.sole.map_slots {q : SlipQueue} (h : q.sole i) {f : Slot → Slot} (hf : f .free = .free)
    (hr : f .reserved = .reserved) : q.slots.map f = q.slots.set i (f q.slots[i]) := by
  refine Vector.ext fun k hk => ?_
  by_cases hki : (⟨k, hk⟩ : Fin 4) = i
  · subst hki
    simp
  · have : i.val ≠ k := fun e => hki (Fin.ext e.symm)
    obtain hx | hx := h.2 ⟨k, hk⟩ hki <;> simp_all

/-! ### Feeding -/

theorem SlipQueue.start_unqueued {q : SlipQueue} (ho : q.order = [i]) (h : ∀ text, q.slots[i] ≠ .queued text)
    (l : Line) : q.start l = q := by
  simp only [SlipQueue.start, ho]

/-- R155: a PRINTING slip that has nothing to wait for. -/
theorem State.feed_printing {text : List Text} {tok sent ready : Nat} {rep : Bool}
    (hatt : (s.st n).line.link ≠ .detached) (ht : (s.st n).line.printerTakes = true) (hq : (s.st n).slips.sole i)
    (hs : (s.st n).slips.slots[i] = .printing text tok sent rep ready) :
    s.feed n = s.sentLines n i text tok sent rep ready
      (min (s.st n).line.credit ((streamed text rep).length - sent)) := by
  have hstart : s.updSlips n (fun q => q.start (s.st n).line) = s :=
    State.updSlips_self (SlipQueue.start_unqueued hq.1 (by simp [hs]) _)
  simp only [State.feed, hstart]
  exact State.stream_printing hatt ht rfl hq.busyOnly hs

/-- R155: nothing goes out without credit, nor after the last line. -/
theorem State.feed_spent {text : List Text} {tok sent ready : Nat} {rep : Bool} (hatt : (s.st n).line.link ≠ .detached)
    (hq : (s.st n).slips.sole i) (hs : (s.st n).slips.slots[i] = .printing text tok sent rep ready)
    (h : (s.st n).line.credit = 0 ∨ (streamed text rep).length ≤ sent) : s.feed n = s := by
  cases ht : (s.st n).line.printerTakes with
  | false => exact State.feed_idle (.inl ht)
  | true =>
    have hm : min (s.st n).line.credit ((streamed text rep).length - sent) = 0 := by omega
    rw [State.feed_printing hatt ht hq hs, hm, State.sentLines_zero hs]

/-- R158: an INTERRUPTED slip sends nothing. -/
theorem State.feed_interrupted {text : List Text} {tok : Nat} (hq : (s.st n).slips.sole i)
    (hs : (s.st n).slips.slots[i] = .interrupted text tok) : s.feed n = s := by
  have hstart : s.updSlips n (fun q => q.start (s.st n).line) = s :=
    State.updSlips_self (SlipQueue.start_unqueued hq.1 (by simp [hs]) _)
  have hfind : (s.st n).slips.find Slot.busy = some i := SlipQueue.find_only (by rw [hs]; rfl) hq.busyOnly
  simp only [State.feed, hstart]
  cases (s.st n).line.credit with
  | zero => rfl
  | succ k => simp only [State.stream, hfind, hs]

/-- R154: the QUEUED slip starts under the next token, and its lines go out. -/
theorem State.feed_queued {text : List Text} {tok : Nat} (hatt : (s.st n).line.link ≠ .detached)
    (ht : (s.st n).line.printerTakes = true) (hc : 0 < (s.st n).line.credit) (hq : (s.st n).slips.sole i)
    (hs : (s.st n).slips.slots[i] = .queued text) (htok : (s.st n).slips.nextToken = tok) :
    s.feed n = (s.updSlips n fun q =>
      { q.setSlot i (.printing text tok 0 false 0) with token := tokenAfter tok }).sentLines n i text tok 0 false 0
        (min (s.st n).line.credit text.length) := by
  have hnone : (s.st n).slips.find Slot.busy = none := SlipQueue.find_absent fun k => by
    by_cases hk : k = i
    · subst hk
      rw [hs]
      rfl
    · exact hq.busyOnly k hk
  have hstart : (s.st n).slips.start (s.st n).line =
      { (s.st n).slips.setSlot i (.printing text tok 0 false 0) with token := tokenAfter tok } := by
    simp [SlipQueue.start, hq.1, hs, hnone, ht, hc, htok]
  have hupd : s.updSlips n (fun q => q.start (s.st n).line) = s.updSlips n fun q =>
      { q.setSlot i (.printing text tok 0 false 0) with token := tokenAfter tok } :=
    State.upd_congr (by simp only [hstart])
  simp only [State.feed, hupd]
  rw [State.stream_printing (i := i) (text := text) (tok := tok) (rep := false) (sent := 0) (ready := 0)
    (by simpa using hatt) (by simpa using ht) rfl
    (by rw [State.updSlips_same]; exact SlipQueue.busyOnly_setSlot hq.busyOnly _) (by simp [SlipQueue.setSlot])]
  simp [streamed]

/-! ### The token reported -/

/-- R150: the queue without its one slip. -/
theorem SlipQueue.sole.drop {q : SlipQueue} (h : q.sole i) :
    q.drop i = { q with slots := q.slots.set i .free, order := [] } := by
  simp [SlipQueue.drop, SlipQueue.setSlot, h.1]

theorem SlipQueue.sole.freed {q : SlipQueue} (h : q.sole i) (k : Fin 4) :
    (q.slots.set i .free)[k] = .free ∨ (q.slots.set i .free)[k] = .reserved := by
  rw [getElem_set_fin]
  split
  · exact .inl rfl
  · exact h.2 k ‹_›

/-- R156: the token reported that the one slip bears completes it. -/
theorem State.takeToken_borne {k : Nat} (hq : (s.st n).slips.sole i) (hk : (s.st n).slips.slots[i].token? = some k) :
    s.takeToken n (some k) = (s.updSlips n fun q =>
      { q with slots := q.slots.set i .free, order := [], lastPrinted := some k }).updTallies n fun t =>
        { t with printed := sat32 t.printed 1 } := by
  have hfind : (s.st n).slips.find (fun x => decide (x.token? = some k)) = some i :=
    SlipQueue.find_only (by simpa using hk) fun j hj => by
      obtain h | h := hq.2 j hj <;> simp [h, Slot.token?]
  have hfind' : ((s.updSlips n fun q => { q with lastPrinted := some k }).st n).slips.find
      (fun x => decide (x.token? = some k)) = some i := by
    rw [State.updSlips_same]
    exact hfind
  have hdrop : (s.updSlips n fun q => { q with lastPrinted := some k }).updSlips n (fun q => q.drop i) =
      s.updSlips n fun q => { q with slots := q.slots.set i .free, order := [], lastPrinted := some k } := by
    simp only [State.updSlips, State.upd_upd]
    refine State.upd_congr ?_
    simp [SlipQueue.drop, SlipQueue.setSlot, hq.1]
  simp only [State.takeToken, hfind', hdrop]
  refine State.feed_vacant ?_
  simp only [State.updTallies_parts, State.updSlips_same]
  exact SlipQueue.vacant_of_unhanded rfl hq.freed

/-- R157: the completion check has nothing to do once no slip is left. -/
theorem State.checkSlip_unhanded {tok : Option Nat} (ho : (s.st n).slips.order = [])
    (hs : ∀ k : Fin 4, (s.st n).slips.slots[k] = .free ∨ (s.st n).slips.slots[k] = .reserved) :
    s.checkSlip n tok = s := by
  have h := SlipQueue.checked_unhanded hs (s.st n).line.printer tok
  have hu : s.updSlips n (fun q => { q with slots := q.slots.map fun x => x.check (s.st n).line.printer tok }) = s :=
    State.updSlips_self h
  simp only [State.checkSlip, hu]
  exact State.feed_vacant (SlipQueue.vacant_of_unhanded ho hs)

/-- R157: the completion check of the one slip. -/
theorem State.checkSlip_sole (hq : (s.st n).slips.sole i) (tok : Option Nat) : s.checkSlip n tok =
    (s.updSlips n fun q => q.setSlot i ((s.st n).slips.slots[i].check (s.st n).line.printer tok)).feed n := by
  have hm := hq.map_slots (f := fun x => x.check (s.st n).line.printer tok) rfl rfl
  have hu : s.updSlips n (fun q => { q with slots := q.slots.map fun x => x.check (s.st n).line.printer tok }) =
      s.updSlips n fun q => q.setSlot i ((s.st n).slips.slots[i].check (s.st n).line.printer tok) :=
    State.upd_congr (by simp only [hm, SlipQueue.setSlot])
  simp only [State.checkSlip, hu]

/-- R156: a token that the one slip does not bear is borne by none. -/
theorem SlipQueue.sole.unborne {q : SlipQueue} (h : q.sole i) {tok : Option Nat}
    (hi : ∀ k, tok = some k → q.slots[i].token? ≠ some k) :
    ∀ k, tok = some k → ∀ j : Fin 4, q.slots[j].token? ≠ some k := by
  intro k hk j
  by_cases hj : j = i
  · subst hj
    exact hi k hk
  · obtain hx | hx := h.2 j hj <;> simp [hx, Slot.token?]

/-- R156, R157: so a report of the one slip's token ends with the queue empty and the slip counted. -/
theorem State.takeToken_completes {k : Nat} (hq : (s.st n).slips.sole i)
    (hk : (s.st n).slips.slots[i].token? = some k) :
    (s.takeToken n (some k)).checkSlip n (some k) = (s.updSlips n fun q =>
      { q with slots := q.slots.set i .free, order := [], lastPrinted := some k }).updTallies n fun t =>
        { t with printed := sat32 t.printed 1 } := by
  rw [State.takeToken_borne hq hk]
  exact State.checkSlip_unhanded (by simp) (by simpa using hq.freed)

end Sys2Proof.Machine
end

section
/-! SUPPORT. One HEAD_STATUS report at a queue of one slip, case by case (R10, R154 to R158). -/

namespace Sys2Proof.Machine

variable {s : State} {n : StationNo} {i : Fin 4} {r : HeadReport}

/-- R162: the last printed token that the credit of a report meets. -/
theorem State.noteToken_eq (s : State) (n : StationNo) (tok : Option Nat) : s.noteToken n tok = s.updSlips n fun q =>
    { q with lastPrinted := if q.reported then q.lastPrinted else tok, reported := true } := by
  simp only [State.noteToken, State.updSlips]
  refine State.upd_congr ?_
  cases h : (s.st n).slips.reported with
  | false => simp
  | true =>
    simp only [if_true]
    rw [← h]

/-- R10: the credit of a report, with the token noted, before anything is fed. -/
def State.credited (s : State) (n : StationNo) (r : HeadReport) : State :=
  (s.updLine n fun l => { l with credit := r.credit }).updSlips n fun q =>
    { q with lastPrinted := if q.reported then q.lastPrinted else r.token, reported := true }

theorem State.readSlip_eq (s : State) (n : StationNo) (r : HeadReport) :
    s.readSlip n r = (((s.credited n r).feed n).takeToken n r.token).checkSlip n r.token := by
  simp only [State.readSlip, State.noteToken_eq, State.takeCredit, State.credited, State.updLine, State.updSlips,
    State.upd_upd]

@[simp] theorem State.credited_st (s : State) (n : StationNo) (r : HeadReport) : (s.credited n r).st n =
    { s.st n with
      line := { (s.st n).line with credit := r.credit }
      slips := { (s.st n).slips with
        lastPrinted := if (s.st n).slips.reported then (s.st n).slips.lastPrinted else r.token, reported := true } } := by
  simp [State.credited]

theorem State.credited_sole (h : (s.st n).slips.sole i) : ((s.credited n r).st n).slips.sole i := by
  simpa [SlipQueue.sole] using h

/-- R156: the one slip has been printed: its slot is FREE and it is counted. -/
def State.slipPrinted (s : State) (n : StationNo) (i : Fin 4) (k : Nat) : State :=
  (s.updSlips n fun q =>
    { q with slots := q.slots.set i .free, order := [], lastPrinted := some k, reported := true }).updTallies n
      fun t => { t with printed := min 4294967295 (t.printed + 1) }

/-- R156: the report of the token of a slip for which no line goes out any more. -/
theorem State.readSlip_completes {k : Nat} (hq : (s.st n).slips.sole i) (hr : r.token = some k)
    (hk : (s.st n).slips.slots[i].token? = some k)
    (h : (∃ text, (s.st n).slips.slots[i] = .interrupted text k) ∨ r.credit = 0) :
    s.readSlip n r = (s.updLine n fun l => { l with credit := r.credit }).slipPrinted n i k := by
  have hfeed : (s.credited n r).feed n = s.credited n r := by
    obtain ⟨text, h⟩ | h := h
    · exact State.feed_interrupted (State.credited_sole hq) (by simpa using h)
    · exact State.feed_idle (.inr (by simpa using h))
  rw [State.readSlip_eq, hfeed, hr, State.takeToken_completes (State.credited_sole hq) (by simpa using hk)]
  simp only [State.credited, State.slipPrinted, State.updLine, State.updSlips, State.updTallies, State.upd_upd]
  rfl

/-- R155, R156: the report of the token of a PRINTING slip: what the credit allows goes out, and the slip is complete. -/
theorem State.readSlip_prints {text : List Text} {tok sent ready : Nat} {rep : Bool}
    (hatt : (s.st n).line.link ≠ .detached) (hq : (s.st n).slips.sole i)
    (hs : (s.st n).slips.slots[i] = .printing text tok sent rep ready) (hr : r.token = some tok)
    (ht : (s.st n).line.printerTakes = true) :
    let m := min r.credit ((streamed text rep).length - sent)
    s.readSlip n r = ((s.updLine n fun l => { l with credit := r.credit - m }).slipPrinted n i tok).sending
      (s.sent ++ slipLines n tok (streamed text rep) sent m) := by
  intro m
  have hfeed : (s.credited n r).feed n = (s.credited n r).sentLines n i text tok sent rep ready m := by
    rw [State.feed_printing (i := i) (text := text) (tok := tok) (sent := sent) (rep := rep) (ready := ready)
      (by simpa using hatt) (by simpa [Line.printerTakes] using ht) (State.credited_sole hq) (by simpa using hs)]
    simp [m]
  have hsole : (((s.credited n r).sentLines n i text tok sent rep ready m).st n).slips.sole i := by
    simpa [State.sentLines] using (State.credited_sole hq).setSlot _
  rw [State.readSlip_eq, hfeed, hr, State.takeToken_completes hsole
    (by simp [State.sentLines, SlipQueue.setSlot, Slot.token?])]
  simp only [State.credited, State.slipPrinted, State.sentLines, State.updLine, State.updSlips, State.updTallies,
    State.sending_upd, State.upd_upd, SlipQueue.setSlot, Vector.set_set]
  rfl

/-- R154, R155: a report that lets the QUEUED slip start: it goes out under the next token. -/
theorem State.readSlip_starts {text : List Text} (hatt : (s.st n).line.link ≠ .detached) (hq : (s.st n).slips.sole i)
    (hs : (s.st n).slips.slots[i] = .queued text) (hne : text ≠ []) (hp : (s.st n).line.printer = .ready)
    (hc : 0 < r.credit) {tok : Nat} (htok : ((s.credited n r).st n).slips.nextToken = tok) (hr : r.token ≠ some tok) :
    let m := min r.credit text.length
    s.readSlip n r = ((s.updLine n fun l => { l with credit := r.credit - m }).updSlips n fun q =>
      { q with
        slots := q.slots.set i (.printing text tok m false (if m = text.length then 1 else 0))
        token := tokenAfter tok, lastPrinted := r.token, reported := true }).sending
      (s.sent ++ slipLines n tok text 0 m) := by
  intro m
  have hpos : 0 < text.length := List.length_pos_of_ne_nil hne
  have hm : m ≠ 0 := by simp only [m]; omega
  have hfeed : (s.credited n r).feed n = ((s.credited n r).updSlips n fun q =>
      { q.setSlot i (.printing text tok 0 false 0) with token := tokenAfter tok }).sentLines n i text tok 0 false 0
        m := by
    rw [State.feed_queued (i := i) (text := text) (by simpa using hatt) (by simp [Line.printerTakes, hp, printerFault])
      (by simpa using hc) (State.credited_sole hq) (by simpa using hs) htok]
    simp [m]
  rw [State.readSlip_eq, hfeed]
  generalize hu : ((s.credited n r).updSlips n _).sentLines n i text tok 0 false 0 m = u
  have hline : (u.st n).line = { (s.st n).line with credit := r.credit - m } := by
    simp [← hu, State.sentLines]
  have hsole : (u.st n).slips.sole i := by
    simpa [← hu, State.sentLines, SlipQueue.sole, SlipQueue.setSlot] using (hq.setSlot _)
  have hslot : (u.st n).slips.slots[i] = .printing text tok m false 0 := by
    simp [← hu, State.sentLines, SlipQueue.setSlot]
  rw [State.takeToken_unborne (hsole.unborne fun k hk => by rw [hslot, Slot.token?]; rwa [← hk, ne_comm])]
  generalize hv : u.updSlips n _ = v
  have hvslips : (v.st n).slips = { (u.st n).slips with lastPrinted := r.token } := by simp [← hv]
  have hvline : (v.st n).line = { (s.st n).line with credit := r.credit - m } := by simp [← hv, hline]
  have hvsole : (v.st n).slips.sole i := by rw [hvslips]; exact hsole
  have hvslot : (v.st n).slips.slots[i] = .printing text tok m false 0 := by rw [hvslips]; exact hslot
  have hcheck : (Slot.printing text tok m false 0).check .ready r.token =
      .printing text tok m false (if m = text.length then 1 else 0) := by
    have hle : m ≤ text.length := Nat.min_le_right _ _
    simp only [Slot.check, streamed, Bool.false_eq_true, if_false, hr, Config.reprintAfter]
    split
    · rw [if_neg (by omega)]
    · rw [if_pos (by omega)]
      rfl
  rw [State.checkSlip_sole hvsole, hvslot, hvline]
  simp only [hp, hcheck]
  rw [State.feed_spent (i := i) (text := text) (tok := tok) (sent := m) (rep := false)
    (ready := if m = text.length then 1 else 0) (by simp [hvline, hatt]) (by simpa using hvsole.setSlot _)
    (by simp [SlipQueue.setSlot]) (by simp [hvline, streamed, m]; omega)]
  simp only [← hv, ← hu, State.sentLines, State.credited, State.updLine, State.updSlips, State.sending_upd,
    State.upd_upd, SlipQueue.setSlot, Vector.set_set]
  rfl

/-- R157: the slip whose lines have all gone out, and another token reported at READY. -/
theorem State.readSlip_waits {text : List Text} {tok sent ready : Nat} {rep : Bool} (hq : (s.st n).slips.sole i)
    (hs : (s.st n).slips.slots[i] = .printing text tok sent rep ready) (hsent : sent = (streamed text rep).length)
    (hp : (s.st n).line.printer = .ready) (hc : r.credit = 0) (hr : r.token ≠ some tok) :
    s.readSlip n r = (s.updLine n fun l => { l with credit := r.credit }).updSlips n fun q =>
      { q with
        slots := q.slots.set i
          (if 2 ≤ ready then .printing text tok 0 true 0 else .printing text tok sent rep (ready + 1))
        lastPrinted := r.token, reported := true } := by
  have hcheck : (Slot.printing text tok sent rep ready).check .ready r.token =
      if 2 ≤ ready then .printing text tok 0 true 0 else .printing text tok sent rep (ready + 1) := by
    simp only [Slot.check, hsent, Nat.lt_irrefl, if_false, hr, Config.reprintAfter]
    simp only [show 3 ≤ ready + 1 ↔ 2 ≤ ready by omega]
  rw [State.readSlip_still (.inr (.inl hc)) (hq.unborne fun k hk => by rw [hs, Slot.token?]; rwa [← hk, ne_comm])]
  simp only [State.updLine, State.updSlips, State.upd_upd]
  refine State.upd_congr ?_
  have hm := hq.map_slots (f := fun x => x.check .ready r.token) rfl rfl
  rw [hs, hcheck] at hm
  simp only [SlipQueue.checked, hp, hm]

/-- R158: the slots of the queue after a report that neither streams nor completes, and that its check leaves. -/
theorem State.readSlip_keeps {x : Slot} (h : s.stillAt n r.credit) (hq : (s.st n).slips.sole i)
    (hs : (s.st n).slips.slots[i] = x) (hx : x.check (s.st n).line.printer r.token = x)
    (hr : ∀ k, r.token = some k → x.token? ≠ some k) :
    ((s.readSlip n r).st n).slips = { (s.st n).slips with lastPrinted := r.token, reported := true } ∧
      ((s.readSlip n r).st n).tallies = (s.st n).tallies := by
  have hm := hq.map_slots (f := fun x => x.check (s.st n).line.printer r.token) rfl rfl
  rw [hs, hx, ← hs] at hm
  replace hm := hm.trans (b := (s.st n).slips.slots.set i (s.st n).slips.slots[i]) (c := (s.st n).slips.slots) (by simp)
  rw [State.readSlip_still h (hq.unborne fun k hk => by rw [hs]; exact hr k hk)]
  simp [SlipQueue.checked, hm]

/-- R10, R158: a new printer state, while no line can go out under it. -/
theorem State.setPrinter_idle {p : Printer} (h : printerFault p = true ∨ (s.st n).line.credit = 0)
    (hp : (s.st n).line.printer ≠ p) : s.setPrinter n p =
      (s.updLine n fun l => { l with printer := p }).updSlips n fun q => q.printerChange (s.st n).line.printer p := by
  simp only [State.setPrinter, if_neg hp]
  exact State.feed_idle (h.imp (by simp [Line.printerTakes]) (by simp))

theorem State.takePrinter_idle {p : Printer} (h : printerFault p = true ∨ (s.st n).line.credit = 0)
    (hp : (s.st n).line.printer ≠ p) (ht : (s.st n).ctx.tx ≠ .closing) :
    ((s.takePrinter n p).st n).line = { (s.st n).line with printer := p } ∧
    ((s.takePrinter n p).st n).slips = (s.st n).slips.printerChange (s.st n).line.printer p ∧
    ((s.takePrinter n p).st n).tallies.printed = (s.st n).tallies.printed := by
  have hs := State.setPrinter_idle h hp
  obtain ⟨h1, h2, h3⟩ := State.faultEvent_keeps (s := s.setPrinter n p) (n := n) (by rw [hs]; simpa using ht)
    (s.st n).line.fault .none
  simp only [State.takePrinter, if_neg hp]
  exact ⟨by rw [h1, hs]; simp, by rw [h2, hs]; simp, by rw [h3, hs]; simp⟩

/-- R158: a report that changes the printer state while no line can go out: what the change leaves in the one slip's slot
stays, and the token is taken. -/
theorem State.takeStatus_changed {x : Slot} (hatt : (s.st n).line.link ≠ .detached)
    (h : printerFault r.printer = true ∨ (s.st n).line.credit = 0) (hp : (s.st n).line.printer ≠ r.printer)
    (hl : r.lockKey = (s.st n).line.lockKey) (ht : (s.st n).ctx.tx ≠ .closing)
    (hq : ((s.st n).slips.printerChange (s.st n).line.printer r.printer).sole i)
    (hs : ((s.st n).slips.printerChange (s.st n).line.printer r.printer).slots[i] = x)
    (hx : x.check r.printer r.token = x) (hr : ∀ k, r.token = some k → x.token? ≠ some k)
    (hc : printerFault r.printer = true ∨ r.credit = 0) :
    ((s.takeStatus n r).st n).slips = { (s.st n).slips.printerChange (s.st n).line.printer r.printer with
      lastPrinted := r.token, reported := true } ∧
    ((s.takeStatus n r).st n).tallies.printed = (s.st n).tallies.printed := by
  obtain ⟨hline, hslips, htally⟩ := State.takePrinter_idle (s := s.heard n) (n := n) (p := r.printer) (by simpa using h)
    (by simpa using hp) (by simpa using ht)
  rw [State.takeStatus_eq, State.wake_attached hatt]
  generalize (s.heard n).takePrinter n r.printer = u at hline hslips htally
  have hline' : (u.st n).line = { (s.st n).line with silence := some 0, printer := r.printer } := by simpa using hline
  have hslips' : (u.st n).slips = (s.st n).slips.printerChange (s.st n).line.printer r.printer := by simpa using hslips
  rw [State.takeLockKey_same (by simpa [hline'] using hl)]
  obtain ⟨h1, h2⟩ := State.readSlip_keeps (s := u) (n := n) (i := i) (r := r) (x := x)
    (hc.imp (by simp [hline']) .inl) (by rw [hslips']; exact hq) (by simpa [hslips'] using hs)
    (by simpa [hline'] using hx) hr
  exact ⟨by rw [h1, hslips'], by rw [h2]; simpa using htally⟩

end Sys2Proof.Machine
end

section
/-! The settling of O16. -/

namespace Sys2Proof.Proofs
open Sys2Proof Sys2Proof.Machine

/-- Settles O16: a report that repeats printer and lock key is read at the queue of one slip; one that changes the printer
changes that slip first. -/
theorem slipPrinting : Obligations.SlipPrinting := by
  intro n i r s hv hatt hkey hord hoth
  have hq : (s.st n).slips.sole i := ⟨hord, hoth⟩
  have hsame : r.printer = (s.st n).line.printer →
      exec (.headStatus n r) s = .next ((s.fresh.heard n).readSlip n r) := by
    intro hp
    rw [exec_headStatus hv, State.takeStatus_eq, State.wake_attached (by simpa using hatt),
      State.takePrinter_same (by simpa using hp), State.takeLockKey_same (by simpa using hkey)]
  have hatt' : ((s.fresh.heard n).st n).line.link ≠ .detached := by simpa using hatt
  have hq' : ((s.fresh.heard n).st n).slips.sole i := by simpa using hq
  refine ⟨fun text hs hne hr hp hc => ?_, fun tok hr hk hp h => ?_, fun text tok sent rep ready hs hr hp ht => ?_,
    fun text tok sent rep ready hs hr => ⟨fun hf hf' htx => ?_, fun hsent hrp hp hc => ?_⟩,
    fun text tok hs hr hrp hc hc' hf htx => ?_⟩
  · intro next tok m hle hrt
    have hnext : ∀ k ≤ 65535, tokenAfter k = next k := by
      intro k hk
      simp only [tokenAfter, next]
      split <;> split <;> omega
    have hnextle : ∀ k ≤ 65535, next k ≤ 65535 := by
      intro k hk
      simp only [next]
      split <;> omega
    have htokle : tok ≤ 65535 := by
      simp only [tok]
      by_cases hlast : (if (s.st n).slips.reported then (s.st n).slips.lastPrinted else r.token) =
        some (s.st n).slips.token
      · rw [if_pos hlast]; exact hnextle _ hle
      · rw [if_neg hlast]; exact hle
    have htok : (((s.fresh.heard n).credited n r).st n).slips.nextToken = tok := by
      simp [SlipQueue.nextToken, hnext _ hle, tok]
    rw [hsame (by rw [hr, hp]), State.readSlip_starts hatt' hq' (by simpa using hs) hne (by simpa using hp) hc htok hrt,
      hnext _ htokle]
    simp only [slipLines, Nat.zero_add, State.updLine, State.updSlips, State.upd_upd]
    rfl
  · rw [hsame hp, State.readSlip_completes hq' hr (by simpa using hk) (h.imp (by simpa using ·) id)]
    rfl
  · intro lines m
    rw [hsame hp, State.readSlip_prints hatt' hq' (by simpa using hs) hr (by simp [Line.printerTakes, ← hp, ht])]
    simp only [State.slipPrinted, State.updLine, State.updSlips, State.updTallies, State.upd_upd]
    rfl
  · have hchange : (s.st n).slips.printerChange (s.st n).line.printer r.printer = { (s.st n).slips with
        slots := (s.st n).slips.slots.set i (.interrupted text tok), faultTimer := some 0 } := by
      have hm := hq.map_slots (f := Slot.interrupt) rfl rfl
      rw [hs] at hm
      simp only [SlipQueue.printerChange, hf, hf', hm, if_true, Slot.interrupt, Bool.false_eq_true, if_false]
    obtain ⟨h1, h2⟩ := State.takeStatus_changed (s := s.fresh) (n := n) (i := i) (r := r) (x := .interrupted text tok)
      (by simpa using hatt) (.inl hf) (by intro e; simp [← e, hf'] at hf) (by simpa using hkey) (by simpa using htx)
      (by simp only [State.fresh_st, hchange]; exact hq.setSlot _) (by simp [hchange]) rfl
      (fun k hk => by rw [Slot.token?]; rwa [← hk, ne_comm]) (.inl hf)
    refine ⟨_, exec_headStatus hv n s, ?_, h2⟩
    rw [h1]
    simp only [State.fresh_st, hchange]
  · rw [hsame (by rw [hrp, hp]), State.readSlip_waits hq' (by simpa using hs) hsent (by simpa using hp) hc hr]
    rfl
  · have hchange : (s.st n).slips.printerChange (s.st n).line.printer r.printer = { (s.st n).slips with
        slots := (s.st n).slips.slots.set i (.printing text tok 0 true 0), faultTimer := none } := by
      have hm := hq.map_slots (f := Slot.resume) rfl rfl
      rw [hs] at hm
      have hnew : printerFault .ready = false := rfl
      simp [SlipQueue.printerChange, hf, hnew, hrp, hm, Slot.resume]
    obtain ⟨h1, h2⟩ := State.takeStatus_changed (s := s.fresh) (n := n) (i := i) (r := r)
      (x := .printing text tok 0 true 0) (by simpa using hatt) (.inr hc') (by intro e; rw [State.fresh_st, hrp] at e; simp [e, printerFault] at hf)
      (by simpa using hkey) (by simpa using htx)
      (by simp only [State.fresh_st, hchange]; exact hq.setSlot _) (by simp [hchange]) (by simp [Slot.check, streamed])
      (fun k hk => by rw [Slot.token?]; rwa [← hk, ne_comm]) (.inr hc)
    refine ⟨_, exec_headStatus hv n s, ?_, h2⟩
    rw [h1]
    simp only [State.fresh_st, hchange]

end Sys2Proof.Proofs
end

section
/-! SUPPORT. A force-close without a record (R46, R47), and the settling of O43. -/

namespace Sys2Proof.Machine

variable {s : State} {n : StationNo}

/-- R198: a response sent is an answer. -/
theorem State.sendTrunk_answers (s : State) (tok : Token) (code : Byte) (r : Result) (body : List Byte) :
    (s.sendTrunk (.response tok code r body)).answers tok code r := by
  intro h
  have hl : s.service.linkUp = true := by simpa using h
  exact ⟨body, by simp [State.sendTrunk, hl]⟩

/-! ### The release of a reservation -/

/-- R151: no slot is RESERVED. -/
def SlipQueue.unreserved (q : SlipQueue) : Prop := ∀ i : Fin 4, q.slots[i] ≠ .reserved

theorem SlipQueue.release_unreserved {q : SlipQueue} (h : q.unreserved) : q.release = q := by
  have hr : q.reservedSlot = none := SlipQueue.find_absent fun k => by simpa using h k
  simp [SlipQueue.release, hr]

/-- R151: a release of the only reservation. -/
theorem SlipQueue.release_only {q : SlipQueue} {i : Fin 4} (hi : q.slots[i] = .reserved)
    (ho : ∀ k : Fin 4, k ≠ i → q.slots[k] ≠ .reserved) : q.release = q.setSlot i .free := by
  simp [SlipQueue.release, SlipQueue.reservedSlot_only hi ho]

/-- R151: at most one slot was RESERVED, and none is after a release. -/
theorem SlipQueue.unreserved_release {q : SlipQueue}
    (h : ∀ i k : Fin 4, q.slots[i] = .reserved → q.slots[k] = .reserved → i = k) : q.release.unreserved := by
  by_cases hq : q.unreserved
  · rwa [SlipQueue.release_unreserved hq]
  · obtain ⟨i, hi⟩ := not_forall_not.mp hq
    have ho : ∀ k : Fin 4, k ≠ i → q.slots[k] ≠ .reserved := fun k hk hr => hk (h k i hr hi)
    rw [SlipQueue.release_only hi ho]
    intro k
    rw [SlipQueue.setSlot_slots]
    split
    · simp
    · exact ho k ‹_›

/-! ### Force-close without a record -/

theorem State.voidQueries_keeps (s : State) (n : StationNo) :
    (s.voidQueries n).journal = s.journal ∧ (s.voidQueries n).service = s.service ∧ (s.voidQueries n).mgmt = s.mgmt ∧
    (s.voidQueries n).clock = s.clock := by
  simp only [State.voidQueries]
  rw [foldl_keeps (·.journal) State.voidQuery (by simp), foldl_keeps (·.service) State.voidQuery (by simp),
    foldl_keeps (·.mgmt) State.voidQuery (by simp), foldl_keeps (·.clock) State.voidQuery (by simp)]
  simp

/-- R46, R47: what a force-close that writes no record does at its station. -/
theorem State.forceClose_uncounted (h : (s.st n).ctx.tx = .idle → (s.st n).ctx = (s.st n).ctx.cleared) :
    ((s.forceClose n false).st n).ctx = (s.st n).ctx.cleared ∧
    ((s.forceClose n false).st n).slips =
      (if (s.st n).ctx.tx = .idle then (s.st n).slips else (s.st n).slips.release) ∧
    ((s.forceClose n false).st n).tallies = (s.st n).tallies ∧
    (s.forceClose n false).journal = s.journal ∧ ∀ m, m ≠ n → (s.forceClose n false).st m = s.st m := by
  simp only [State.forceClose]
  split
  · rename_i hi
    exact ⟨h hi, rfl, rfl, rfl, fun _ _ => rfl⟩
  · simp only [Bool.false_and, Bool.false_eq_true, if_false, State.tone_st, State.tone_keeps, State.updCtx_same,
      State.updCtx_keeps, State.foldl_withdrawResolved_parts]
    refine ⟨by simp, by simp, by simp, ?_, fun m hm => ?_⟩
    · rw [foldl_keeps (·.journal) (fun s l => s.withdrawResolved n l) (by simp)]
      simp [State.voidQueries_keeps]
    · rw [State.updCtx_other _ hm, foldl_keeps (fun t => t.st m) (fun s l => s.withdrawResolved n l) (by simp [hm])]
      simp [hm]

/-- R148: the emptying of the sets at a station with a cleared context. -/
theorem State.emptyAlerts_cleared (h : (s.st n).ctx = (s.st n).ctx.cleared) (fault : Bool) :
    ((s.emptyAlerts n fault).st n).ctx = (s.st n).ctx ∧ ((s.emptyAlerts n fault).st n).line = (s.st n).line ∧
    ((s.emptyAlerts n fault).st n).slips = (s.st n).slips ∧
    ((s.emptyAlerts n fault).st n).tallies = (s.st n).tallies ∧ (s.emptyAlerts n fault).journal = s.journal ∧
    ∀ m, m ≠ n → (s.emptyAlerts n fault).st m = s.st m := by
  rw [State.emptyAlerts]
  generalize hv : s.updAlerts n _ = v
  have hc : (v.st n).ctx = (s.st n).ctx := by simp [← hv]
  have hcl : (v.st n).ctx = (v.st n).ctx.cleared := by rw [hc]; exact h
  obtain ⟨hctx, hline, hslips, htallies⟩ := State.endEvent_cleared_parts hcl .none
  refine ⟨hctx.trans hc, ?_, ?_, ?_, ?_, fun m hm => ?_⟩
  · rw [hline]; simp [← hv]
  · rw [hslips]; simp [← hv]
  · rw [htallies]; simp [← hv]
  · rw [State.endEvent_cleared_rest hcl]; simp [← hv]
  · rw [State.endEvent_cleared_other hcl hm]; simp [← hv, hm]

/-- R46, R47: what STATION_CLEAR does at a station whose context is cleared if it is IDLE. -/
theorem State.clearStation_parts (h : (s.st n).ctx.tx = .idle → (s.st n).ctx = (s.st n).ctx.cleared) :
    ((State.clearStation n s).1.st n).ctx = (s.st n).ctx.cleared ∧
    ((State.clearStation n s).1.st n).line = { (s.st n).line with
      history := [], link := if (s.st n).line.link = .check then .active else (s.st n).line.link } ∧
    ((State.clearStation n s).1.st n).slips =
      (if (s.st n).ctx.tx = .idle then (s.st n).slips else (s.st n).slips.release).release ∧
    ((State.clearStation n s).1.st n).tallies = (s.st n).tallies ∧ (State.clearStation n s).1.journal = s.journal ∧
    ∀ m, m ≠ n → (State.clearStation n s).1.st m = s.st m := by
  obtain ⟨hctx, hslips, htallies, hjournal, hother⟩ := State.forceClose_uncounted h
  have hline := State.forceClose_line s n n false
  simp only [State.clearStation]
  generalize hw : (((s.forceClose n false).updSlips n (·.release)).updLine n _) = w
  have hcw : (w.st n).ctx = (s.st n).ctx.cleared := by simp [← hw, hctx]
  obtain ⟨h1, h2, h3, h4, h5, h6⟩ := State.emptyAlerts_cleared (s := w) (n := n) (by simp [hcw]) (w.st n).line.fault
  have hst : ∀ (u : State) (b : Bool) (m : StationNo), ((if b then u.tone n .none else u).st m) = u.st m := by
    intro u b m
    cases b <;> simp
  have hj : ∀ (u : State) (b : Bool), (if b then u.tone n .none else u).journal = u.journal := by
    intro u b
    cases b <;> simp
  simp only [hst, hj]
  refine ⟨h1.trans hcw, ?_, ?_, ?_, ?_, fun m hm => ?_⟩
  · rw [h2]; simp [← hw, hline]
  · rw [h3]; simp [← hw, hslips]
  · rw [h4]; simp [← hw, htallies]
  · rw [h5]; simp [← hw, hjournal]
  · rw [h6 m hm]; simp [← hw, hm, hother]

end Sys2Proof.Machine

namespace Sys2Proof.Proofs
open Sys2Proof Sys2Proof.Machine

/-- Settles O43: the transaction is force-closed without a record, and an event of the resolver follows at the cleared
context. -/
theorem stationClearEffect : Obligations.StationClearEffect := by
  intro tok body n s hr hb hidle
  refine ⟨(State.clearStation n s.fresh).1.sendTrunk (.response tok 0x32 .done []), ?_, ?_⟩
  · show Host.Outcome.next (s.fresh.takeCommand (.stationClear tok body)) = _
    refine congrArg _ ?_
    show s.fresh.manage _ tok 0x32 (withBody Body.station body State.clearStation) = _
    rw [State.manage_taken _ _ _ _ _ (by simpa using hr), withBody_ok _ _ hb]
    rfl
  obtain ⟨hctx, hline, hslips, htallies, hjournal, hother⟩ := State.clearStation_parts (s := s.fresh) (n := n) hidle
  refine ⟨by simpa using hctx, by rw [State.sendTrunk_st, hline]; rfl, by simpa using htallies, by simpa using hjournal,
    fun honly => ?_, fun m hm => by simpa using hother m hm, State.sendTrunk_answers _ _ _ _ _⟩
  have hreleased : (s.st n).slips.release.unreserved := SlipQueue.unreserved_release honly
  show ((((State.clearStation n s.fresh).1.sendTrunk _).st n).slips).unreserved
  rw [State.sendTrunk_st, hslips, State.fresh_st]
  split
  · exact hreleased
  · rwa [SlipQueue.release_unreserved hreleased]

end Sys2Proof.Proofs
end

section
/-! SUPPORT. The discard of the slips that wait (R159), at its station and in the journal. -/

namespace Sys2Proof.Machine

variable {s : State} {n : StationNo} {i : Fin 4}

/-! ### The slip queue -/

theorem SlipQueue.drop_slots (q : SlipQueue) (i k : Fin 4) :
    (q.drop i).slots[k] = if k = i then .free else q.slots[k] :=
  getElem_set_fin _ _ _ _

/-- R150: the queue after the slips of some slots are dropped, one after the other. -/
theorem SlipQueue.foldl_drop (is : List (Fin 4)) (q : SlipQueue) :
    is.foldl SlipQueue.drop q = { q with
      slots := (is.foldl SlipQueue.drop q).slots, order := q.order.filter fun i => decide (i ∉ is) } ∧
    ∀ k : Fin 4, (is.foldl SlipQueue.drop q).slots[k] = if k ∈ is then .free else q.slots[k] := by
  induction is generalizing q with
  | nil => simp
  | cons i is ih =>
    obtain ⟨hq, hs⟩ := ih (q.drop i)
    simp only [List.foldl_cons]
    refine ⟨?_, fun k => ?_⟩
    · rw [hq]
      simp only [SlipQueue.drop, SlipQueue.setSlot, List.filter_filter]
      congr 1
      refine List.filter_congr fun j _ => ?_
      by_cases hj : j = i <;> simp [hj]
    · rw [hs k, SlipQueue.drop_slots]
      by_cases hk : k = i <;> simp [hk]

/-! ### At the station -/

/-- R159: the record of a slip that is lost. -/
def State.slipLostRecord (s : State) (n : StationNo) (tok : Option Nat) : Record :=
  { s.record .stationEvent (some n) with detail := some .slipLost, slipToken := tok }

theorem State.discardSlip_eq (s : State) (n : StationNo) (i : Fin 4) : s.discardSlip n i =
    ((s.write (s.slipLostRecord n (s.st n).slips.slots[i].token?)).2.updTallies n fun t =>
      { t with lost := sat32 t.lost 1 }).updSlips n fun q => q.drop i := rfl

/-- R159: what one discard does at its station; its record may lock or unlock the station (R203). -/
@[simp] theorem State.discardSlip_parts (s : State) (n : StationNo) (i : Fin 4) :
    ((s.discardSlip n i).st n).line = (s.st n).line ∧ ((s.discardSlip n i).st n).slips = (s.st n).slips.drop i ∧
    ((s.discardSlip n i).st n).tallies = { (s.st n).tallies with lost := sat32 (s.st n).tallies.lost 1 } ∧
    ((s.discardSlip n i).st n).ctx.unalarmed = (s.st n).ctx.unalarmed := by
  simp [State.discardSlip_eq]

theorem State.foldl_discardSlip_parts (s : State) (n : StationNo) (is : List (Fin 4)) :
    ((is.foldl (fun s i => s.discardSlip n i) s).st n).line = (s.st n).line ∧
    ((is.foldl (fun s i => s.discardSlip n i) s).st n).slips = is.foldl SlipQueue.drop (s.st n).slips ∧
    ((is.foldl (fun s i => s.discardSlip n i) s).st n).tallies = (if is = [] then (s.st n).tallies else
      { (s.st n).tallies with lost := min 4294967295 ((s.st n).tallies.lost + is.length) }) ∧
    ((is.foldl (fun s i => s.discardSlip n i) s).st n).ctx.unalarmed = (s.st n).ctx.unalarmed := by
  induction is generalizing s with
  | nil => simp
  | cons i is ih =>
    obtain ⟨h1, h2, h3, h4⟩ := ih (s.discardSlip n i)
    obtain ⟨d1, d2, d3, d4⟩ := s.discardSlip_parts n i
    simp only [List.foldl_cons]
    refine ⟨h1.trans d1, by rw [h2, d2], ?_, h4.trans d4⟩
    rw [h3, d3]
    simp only [sat32, satAdd, Config.maxCount32]
    split
    · rename_i hn
      simp [hn]
    · simp only [reduceCtorEq, if_false, List.length_cons]
      congr 1
      omega

/-! ### In a journal with room -/

/-- The journal has room for `k` records more in page p, and the alarms stand (R165, R172, R173, R203). -/
def State.roomFor (s : State) (p : Fin 128) (k : Nat) : Prop :=
  s.journal.filling? = some p ∧ s.journal.pages[p].records.length + k < 64 ∧ s.evalJournal = s ∧ s.alarmsSettled

theorem State.roomFor.ready {p : Fin 128} {k : Nat} (h : s.roomFor p (k + 1)) : s.ready p := by
  obtain ⟨h1, h2, h3, h4⟩ := h
  exact ⟨h1, by omega, h3, h4⟩

theorem State.roomFor_congr {t : State} {p : Fin 128} {k : Nat} (hj : t.journal = s.journal) (hm : t.mgmt = s.mgmt) :
    t.roomFor p k ↔ s.roomFor p k := by
  simp only [State.roomFor, State.evalJournal_eq_self_iff, State.alarmsSettled, hj, hm]

/-- R165: a record taken leaves room for one fewer. -/
theorem State.roomFor.recorded {p : Fin 128} {k : Nat} (h : s.roomFor p (k + 1)) (r : Record) :
    (s.recorded p r).roomFor p k := by
  obtain ⟨h1, h2, h3, h4⟩ := h
  refine ⟨by rw [State.recorded_filling? h1, h1], ?_, State.recorded_evalJournal h1 h3 r, h4⟩
  have : (s.recorded p r).journal.pages[p].records.length = s.journal.pages[p].records.length + 1 := by
    simp [State.recorded]
  omega

theorem State.discardSlip_ready {p : Fin 128} (h : s.ready p) : s.discardSlip n i =
    ((s.recorded p (s.slipLostRecord n (s.st n).slips.slots[i].token?)).updTallies n fun t =>
      { t with lost := sat32 t.lost 1 }).updSlips n fun q => q.drop i := by
  rw [State.discardSlip_eq, State.write_ready h]

/-- R159: in a page with room every discard leaves its record, oldest handing first, and only the station moves. -/
theorem State.foldl_discardSlip_room {p : Fin 128} {q : SlipQueue} (is : List (Fin 4)) (hnodup : is.Nodup) :
    ∀ {s x : State}, s.roomFor p is.length → x.journal = s.journal →
      (∀ i ∈ is, (s.st n).slips.slots[i] = q.slots[i]) →
      (∀ m, m ≠ n → (is.foldl (fun s i => s.discardSlip n i) s).st m = s.st m) ∧
        (is.foldl (fun s i => s.discardSlip n i) s).journal =
          (is.foldl (fun x i => x.recorded p (s.slipLostRecord n q.slots[i].token?)) x).journal := by
  induction is with
  | nil =>
    intro s x _ hj _
    exact ⟨fun _ _ => rfl, hj.symm⟩
  | cons i is ih =>
    intro s x hroom hj hslots
    obtain ⟨hi, hnodup⟩ := List.nodup_cons.mp hnodup
    have hd := State.discardSlip_ready (n := n) (i := i) (State.roomFor.ready hroom)
    rw [hslots i (by simp)] at hd
    have hrec : (s.discardSlip n i).slipLostRecord n = s.slipLostRecord n := by rw [hd]; rfl
    have hroom' : (s.discardSlip n i).roomFor p is.length := by
      rw [hd]
      exact (State.roomFor_congr (by rfl) (by rfl)).mpr (State.roomFor.recorded hroom _)
    have hj' : (x.recorded p (s.slipLostRecord n q.slots[i].token?)).journal = (s.discardSlip n i).journal := by
      rw [hd]
      simp [State.recorded, hj]
    have hslots' : ∀ k ∈ is, ((s.discardSlip n i).st n).slips.slots[k] = q.slots[k] := by
      intro k hk
      have hne : k ≠ i := by rintro rfl; exact hi hk
      rw [(s.discardSlip_parts n i).2.1, SlipQueue.drop_slots, if_neg hne, hslots k (by simp [hk])]
    obtain ⟨h1, h2⟩ := ih hnodup hroom' hj' hslots'
    simp only [List.foldl_cons]
    refine ⟨fun m hm => (h1 m hm).trans ?_, ?_⟩
    · rw [hd]; simp [hm]
    · rw [h2, hrec]

/-! ### In a full journal -/

@[simp] theorem State.lost_st (s : State) (m : StationNo) : s.lost.st m = s.st m := rfl

theorem State.discardSlip_lost (h : s.journal.filling? = none) (ha : s.alarmsSettled) : s.discardSlip n i =
    (s.lost.updTallies n fun t => { t with lost := sat32 t.lost 1 }).updSlips n fun q => q.drop i := by
  rw [State.discardSlip_eq, State.write_lost _ _ h ha]

/-- R171: with no page FILLING every discard counts as an overflow. -/
theorem State.foldl_discardSlip_full (is : List (Fin 4)) : ∀ {s : State}, s.journal.filling? = none → s.alarmsSettled →
    (∀ m, m ≠ n → (is.foldl (fun s i => s.discardSlip n i) s).st m = s.st m) ∧
    (is.foldl (fun s i => s.discardSlip n i) s).journal = (if is = [] then s.journal else
      { s.journal with overflow := min 4294967295 (s.journal.overflow + is.length) }) ∧
    ((is ≠ [] ∨ s.mgmt.sticky.journalOverflowed = true) →
      (is.foldl (fun s i => s.discardSlip n i) s).mgmt.sticky.journalOverflowed = true) := by
  induction is with
  | nil =>
    intro s _ _
    simp
  | cons i is ih =>
    intro s h ha
    have hd := State.discardSlip_lost (n := n) (i := i) h ha
    obtain ⟨h1, h2, h3⟩ := ih (s := s.discardSlip n i) (by rw [hd]; exact h) (by rw [hd]; exact ha)
    simp only [List.foldl_cons]
    refine ⟨fun m hm => (h1 m hm).trans ?_, ?_, fun _ => h3 (.inr ?_)⟩
    · rw [hd]; simp [hm]
    · rw [h2, hd]
      simp only [State.updSlips_keeps, State.updTallies_keeps, State.lost, reduceCtorEq, if_false, List.length_cons]
      split
      · rename_i hn
        simp [hn]
      · congr 1
        omega
    · rw [hd]; simp [State.lost]

end Sys2Proof.Machine
end

section
/-! The settling of O44. -/

namespace Sys2Proof.Machine

variable {s : State} {n : StationNo} {T P H : Nat}

/-- R16, R43, R160: the three settings of DESK_CONFIG at one station. -/
def Station.configured (T P H : Nat) (t : Station) : Station :=
  { t with
    line := { t.line with threshold := T }, ctx := { t.ctx with period := P }, slips := { t.slips with holdTime := H } }

/-- R16, R43, R160: the settings stand, and the fault timer is read against the new hold time. -/
theorem State.configureDesk_eq (T P H : Nat) (s : State) (n : StationNo) :
    State.configureDesk T P H s n = (s.upd n (Station.configured T P H)).holdExpired n := by
  simp only [State.configureDesk, State.updLine, State.updCtx, State.updSlips, State.upd_upd]
  rfl

/-- R160: no hold time that the fault timer has not reached expires. -/
theorem State.holdExpired_early (h : ∀ k, (s.st n).slips.faultTimer = some k → k < (s.st n).slips.holdTime) :
    s.holdExpired n = s := by
  simp only [State.holdExpired]
  split
  · rename_i k hk
    exact if_neg (by have := h k hk; omega)
  · rfl

/-- R16, R43, R160: DESK_CONFIG at stations whose fault timers have not reached the new hold time. -/
theorem State.foldl_configureDesk (ns : List StationNo) : ∀ {s : State},
    (∀ n ∈ ns, ∀ k, (s.st n).slips.faultTimer = some k → k < H) →
    (∀ m, (ns.foldl (State.configureDesk T P H) s).st m = if m ∈ ns then (s.st m).configured T P H else s.st m) ∧
      ns.foldl (State.configureDesk T P H) s =
        { s with stations := (ns.foldl (State.configureDesk T P H) s).stations } := by
  induction ns with
  | nil =>
    intro s _
    simp
  | cons n ns ih =>
    intro s h
    have hstep : State.configureDesk T P H s n = s.upd n (Station.configured T P H) := by
      rw [State.configureDesk_eq]
      exact State.holdExpired_early (by simpa [Station.configured] using h n (by simp))
    have hst : ∀ m, (State.configureDesk T P H s n).st m = if m = n then (s.st m).configured T P H else s.st m := by
      intro m
      rw [hstep]
      by_cases hm : m = n
      · subst hm; simp
      · simp [hm]
    obtain ⟨h1, h2⟩ := ih (s := State.configureDesk T P H s n) fun m hm k hk => by
      refine h m (by simp [hm]) k ?_
      rw [hst] at hk
      split at hk <;> exact hk
    simp only [List.foldl_cons]
    refine ⟨fun m => ?_, ?_⟩
    · rw [h1, hst]
      by_cases hm : m = n <;> by_cases hn : m ∈ ns <;> simp [hm, hn, Station.configured]
    · rw [h2, hstep]
      rfl

/-- R199: the answer of DESK_CONFIG. -/
theorem deskConfigured_result (ns : List StationNo) (a b c : Nat) (s : State) :
    (State.deskConfigured (ns, a, b, c) s).2.result =
      if a ≤ 8 ∧ 5 ≤ b ∧ b ≤ 600 ∧ 60 ≤ c ∧ c ≤ 3600 then .done else .clamped := by
  have hiff : ((clampTo 0 8 a, clampTo 5 600 b, clampTo 60 3600 c) = (a, b, c)) ↔
      a ≤ 8 ∧ 5 ≤ b ∧ b ≤ 600 ∧ 60 ≤ c ∧ c ≤ 3600 := by
    simp only [clampTo, Prod.mk.injEq]
    omega
  simp only [State.deskConfigured, clampedOr, hiff]
  by_cases h : a ≤ 8 ∧ 5 ≤ b ∧ b ≤ 600 ∧ 60 ≤ c ∧ c ≤ 3600
  · rw [if_pos h, if_neg (by simp [h])]
    rfl
  · rw [if_neg h, if_pos (by simpa only [Bool.not_eq_true', decide_eq_false_iff_not, hiff] using h)]

theorem exec_deskConfig {tok : Token} {body : List Byte} {ns : List StationNo} {a b c : Nat}
    (hr : s.mgmt.restarting = false) (hb : parseBody deskConfigBody body = .ok (ns, a, b, c)) : ∃ bytes, exec (.deskConfig tok body) s =
      .next ((ns.foldl (State.configureDesk (min 8 a) (max 5 (min 600 b)) (max 60 (min 3600 c))) s.fresh).sendTrunk
        (.response tok 0x33 (if a ≤ 8 ∧ 5 ≤ b ∧ b ≤ 600 ∧ 60 ≤ c ∧ c ≤ 3600 then .done else .clamped) bytes)) := by
  refine ⟨(State.deskConfigured (ns, a, b, c) s.fresh).2.body, ?_⟩
  show Host.Outcome.next (s.fresh.manage _ tok 0x33 (withBody deskConfigBody body State.deskConfigured)) = _
  rw [State.manage_taken _ _ _ _ _ (by simpa using hr), withBody_ok _ _ hb, deskConfigured_result]
  simp only [State.deskConfigured, clampTo, Nat.zero_max]

/-- R159: the slots whose slips wait, oldest handing first. -/
def SlipQueue.waiting (q : SlipQueue) : List (Fin 4) := q.order.filter fun i => q.slots[i].discardable

theorem SlipQueue.mem_waiting {q : SlipQueue} {i : Fin 4} (h : i ∈ q.order) :
    i ∈ q.waiting ↔ q.slots[i].discardable = true := by
  simp [SlipQueue.waiting, h]

/-- R159: the discard while the fault holds. -/
theorem State.discardSlips_fault (hf : printerFault (s.st n).line.printer = true) : s.discardSlips n =
    ((s.st n).slips.waiting.foldl (fun s i => s.discardSlip n i) s).updSlips n fun q =>
      { q with faultTimer := some 0 } := by
  have hl := (s.foldl_discardSlip_parts n (s.st n).slips.waiting).1
  simp only [State.discardSlips]
  rw [← SlipQueue.waiting, hl, if_pos hf]
  exact State.feed_idle (.inl (by simp [Line.printerTakes, hl, hf]))

theorem State.discardSlips_parts (hf : printerFault (s.st n).line.printer = true) :
    ((s.discardSlips n).st n).line = (s.st n).line ∧
    ((s.discardSlips n).st n).slips =
      { (s.st n).slips.waiting.foldl SlipQueue.drop (s.st n).slips with faultTimer := some 0 } ∧
    ((s.discardSlips n).st n).tallies = (if (s.st n).slips.waiting = [] then (s.st n).tallies else
      { (s.st n).tallies with lost := min 4294967295 ((s.st n).tallies.lost + (s.st n).slips.waiting.length) }) ∧
    ((s.discardSlips n).st n).ctx.unalarmed = (s.st n).ctx.unalarmed := by
  obtain ⟨h1, h2, h3, h4⟩ := s.foldl_discardSlip_parts n (s.st n).slips.waiting
  rw [State.discardSlips_fault hf]
  exact ⟨by simpa using h1, by simp [h2], by simpa using h3, by simpa using h4⟩

/-- R159: what a discard in a printer fault leaves, whatever is sent before and after it. -/
theorem State.slipsDiscarded_of {t : State} {o : List Out} (hf : printerFault (s.st n).line.printer = true)
    (hst : ∀ m, t.st m = ((s.sending o).discardSlips n).st m) (hj : t.journal = ((s.sending o).discardSlips n).journal)
    (hm : t.mgmt = ((s.sending o).discardSlips n).mgmt) : s.slipsDiscarded t n := by
  have hfs : printerFault ((s.sending o).st n).line.printer = true := hf
  obtain ⟨-, hslips, htallies, -⟩ := State.discardSlips_parts hfs
  obtain ⟨horder, hslots⟩ := SlipQueue.foldl_drop (s.st n).slips.waiting (s.st n).slips
  have hq : (t.st n).slips =
      { (s.st n).slips.waiting.foldl SlipQueue.drop (s.st n).slips with faultTimer := some 0 } := by
    rw [hst, hslips]
    rfl
  have hothers : ∀ m, m ≠ n →
      ((s.st n).slips.waiting.foldl (fun s i => s.discardSlip n i) (s.sending o)).st m = s.st m → t.st m = s.st m := by
    intro m hmn h
    rw [hst, State.discardSlips_fault hfs, State.updSlips_other _ hmn]
    exact h
  have hjournal : t.journal = ((s.st n).slips.waiting.foldl (fun s i => s.discardSlip n i) (s.sending o)).journal := by
    rw [hj, State.discardSlips_fault hfs]
    rfl
  refine ⟨?_, fun i => ?_, ?_, fun hnodup p h1 h2 h3 h4 => ?_, fun hgone h1 h2 => ?_⟩
  · rw [hq, horder]
    simp only [SlipQueue.mk.injEq, true_and, and_true]
    refine List.filter_congr fun i hi => ?_
    simp [SlipQueue.mem_waiting hi]
  · rw [hq]
    exact hslots i
  · rw [hst, htallies]
    rfl
  · obtain ⟨ho, hjr⟩ := State.foldl_discardSlip_room (n := n) (q := (s.st n).slips) (p := p) (s := s.sending o) (x := s)
      (s.st n).slips.waiting (hnodup.filter _)
      ((State.roomFor_congr (s := s) (by rfl) (by rfl)).mpr ⟨h1, h2, h3, h4⟩) rfl (fun _ _ => rfl)
    exact ⟨fun m hmn => hothers m hmn (ho m hmn), hjournal.trans hjr⟩
  · obtain ⟨ho, hjr, hsticky⟩ := State.foldl_discardSlip_full (n := n) (s := s.sending o) (s.st n).slips.waiting h1 h2
    refine ⟨fun m hmn => hothers m hmn (ho m hmn), ?_, ?_⟩
    · rw [hm, State.discardSlips_fault hfs]
      exact hsticky (.inl hgone)
    · rw [hjournal, hjr, if_neg (show (s.st n).slips.waiting ≠ [] from hgone)]
      rfl

end Sys2Proof.Machine

namespace Sys2Proof.Proofs
open Sys2Proof Sys2Proof.Machine

/-- Settles O44: station by station the settings are replaced, and a fault timer at or above the new hold time makes the
discard of a hold expiry. -/
theorem deskConfigClamps : Obligations.DeskConfigClamps := by
  intro tok body ns a b c s hr hb hold answer
  obtain ⟨bytes, hexec⟩ := exec_deskConfig (tok := tok) hr hb
  refine ⟨fun hearly => ⟨_, hexec, fun n => ?_, ?_, State.sendTrunk_answers _ _ _ _ _⟩, fun n k hns hk hle hf => ?_⟩
  · rw [State.sendTrunk_st, (State.foldl_configureDesk (s := s.fresh) ns hearly).1 n]
    rfl
  · refine State.eq_of_rest ?_
    simp only [State.sendTrunk_keeps]
    rw [(State.foldl_configureDesk (s := s.fresh) ns hearly).2]
    simp
  · subst hns
    intro configured
    have hone : [n].foldl (State.configureDesk (min 8 a) (max 5 (min 600 b)) (max 60 (min 3600 c))) s.fresh =
        (configured.sending []).discardSlips n := by
      simp only [List.foldl_cons, List.foldl_nil, State.configureDesk, State.holdExpired, State.updSlips_same,
        State.updCtx_parts, State.updLine_parts, State.fresh_st, hk]
      exact if_pos hle
    have hfc : printerFault (configured.st n).line.printer = true := by simpa [configured] using hf
    rw [hone] at hexec
    obtain ⟨hline, hslips, -, hctx⟩ := State.discardSlips_parts (s := configured.sending []) (n := n) hfc
    refine ⟨_, hexec, State.slipsDiscarded_of (o := []) hfc (fun m => by simp) (by simp) (by simp), ?_, ?_, ?_,
      State.sendTrunk_answers _ _ _ _ _⟩
    · rw [State.sendTrunk_st, hline]
      rfl
    · rw [State.sendTrunk_st, Ctx.eq_of_unalarmed hctx]
      simp [configured]
    · rw [State.sendTrunk_st, hslips, (SlipQueue.foldl_drop _ _).1]
      simp [configured, hold]

end Sys2Proof.Proofs
end

section
/-! SUPPORT. The queries that a force-close abandons (R46, R116), and the slip that it loses (R161). -/

namespace Sys2Proof.Machine

variable {s : State} {n : StationNo}

/-! ### Queries -/

/-- R116: a query after its abandonment: WAITING becomes LAPSED as VOID. -/
def QueryEntry.abandoned (e : QueryEntry) (patience : Nat) : QueryEntry :=
  match e.state with
  | .waiting q _ => { e with state := .lapsed q patience .void }
  | _ => e

@[simp] theorem QueryEntry.abandoned_gen (e : QueryEntry) (k : Nat) : (e.abandoned k).gen = e.gen := by
  unfold QueryEntry.abandoned
  split <;> rfl

@[simp] theorem QueryEntry.abandoned_twice (e : QueryEntry) (k : Nat) : (e.abandoned k).abandoned k = e.abandoned k := by
  cases e with
  | mk g st => cases st <;> rfl

theorem State.lapse_queries (s : State) (t : Tag) :
    (s.lapse t .void).queries = s.queries.set t (s.queries[t].abandoned s.service.patience) := by
  simp only [State.lapse, QueryEntry.abandoned]
  cases h : s.queries[t].state with
  | waiting q k => rfl
  | free => simp
  | lapsed q k d => simp

theorem State.voidQuery_queries (s : State) (k : Option (Tag × Nat)) (g : Tag) : (s.voidQuery k).queries[g] =
    if k = some (g, s.queries[g].gen) then s.queries[g].abandoned s.service.patience else s.queries[g] := by
  cases k with
  | none => rfl
  | some p =>
    obtain ⟨t, gen⟩ := p
    by_cases hgen : s.queries[t].gen = gen
    · have hv : (s.voidQuery (some (t, gen))).queries = s.queries.set t (s.queries[t].abandoned s.service.patience) := by
        rw [← State.lapse_queries]
        simp only [State.voidQuery, if_pos hgen]
      rw [hv, getElem_set_fin]
      by_cases hg : g = t
      · subst hg
        rw [if_pos rfl, if_pos (by rw [hgen])]
      · rw [if_neg hg, if_neg (fun e => hg (by cases e; rfl))]
    · have hv : s.voidQuery (some (t, gen)) = s := by
        simp only [State.voidQuery, if_neg hgen]
      rw [hv, if_neg (fun e => hgen (by cases e; rfl))]

theorem State.foldl_voidQuery_queries (ks : List (Option (Tag × Nat))) (s : State) (g : Tag) :
    (ks.foldl State.voidQuery s).queries[g] = if some (g, s.queries[g].gen) ∈ ks then
      s.queries[g].abandoned s.service.patience else s.queries[g] := by
  induction ks generalizing s with
  | nil => rfl
  | cons k ks ih =>
    have hgen : (s.voidQuery k).queries[g].gen = s.queries[g].gen := by
      rw [State.voidQuery_queries]
      split
      · exact QueryEntry.abandoned_gen _ _
      · rfl
    have hservice : (s.voidQuery k).service = s.service := by simp
    rw [List.foldl_cons, ih, hgen, State.voidQuery_queries, hservice]
    generalize s.queries[g] = e
    by_cases h1 : k = some (g, e.gen) <;> by_cases h2 : some (g, e.gen) ∈ ks <;> simp [h1, h2, eq_comm]

/-- R46: the queries of AWAITING entries and of the borrower check are those that a force-close abandons. -/
theorem State.voidQueries_queries (s : State) (n : StationNo) (g : Tag) : (s.voidQueries n).queries[g] =
    if (s.st n).ctx.lookup = some (g, s.queries[g].gen) ∨
      (∃ x ∈ (s.st n).ctx.items, x.state = .awaiting ∧ x.query = some (g, s.queries[g].gen)) then
      s.queries[g].abandoned s.service.patience else s.queries[g] := by
  have h : s.voidQueries n =
      ((s.st n).ctx.lookup :: ((s.st n).ctx.inState .awaiting).map (·.query)).foldl State.voidQuery s := rfl
  have hmem : some (g, s.queries[g].gen) ∈ (s.st n).ctx.lookup :: ((s.st n).ctx.inState .awaiting).map (·.query) ↔
      ((s.st n).ctx.lookup = some (g, s.queries[g].gen) ∨
        ∃ x ∈ (s.st n).ctx.items, x.state = .awaiting ∧ x.query = some (g, s.queries[g].gen)) := by
    simp [Ctx.inState, eq_comm, and_assoc]
  rw [h, State.foldl_voidQuery_queries]
  exact if_congr hmem rfl rfl

/-! ### The slip that is lost -/

/-- R161: the slip owed is lost, with its record and its count; nothing happens where none is owed. -/
def State.loseSlip (s : State) (n : StationNo) : State :=
  if (s.st n).ctx.handsSlip then
    ((s.writeStation n { s.record .stationEvent (some n) with detail := some .slipLost }).2).updTallies n
      fun t => { t with lost := sat32 t.lost 1 }
  else s

/-- R46: a force-close that counts, step by step. -/
theorem State.forceClose_counted (h : (s.st n).ctx.tx ≠ .idle) : s.forceClose n true =
    ((Level.blocks.foldl (fun s l => s.withdrawResolved n l)
      (((s.voidQueries n).loseSlip n).updSlips n (·.release))).updCtx n Ctx.cleared).tone n .none := by
  simp only [State.forceClose, if_neg h, State.loseSlip, State.voidQueries_st, Bool.true_and]

/-- R161: what is lost is what the transaction owes. -/
theorem Ctx.handsSlip_iff (c : Ctx) : c.handsSlip = true ↔ c.holding = some .reserved ∧
    ∃ x ∈ c.items, x.state = .granted ∨ x.state = .returned ∧ (0 < x.fine.getD 0 ∨ x.routing.isSome = true) := by
  simp only [Ctx.handsSlip, Bool.and_eq_true, decide_eq_true_eq, any_wantsSlip]

/-- R165: a record that opens nothing leaves the station's context but for the ALARM source. -/
theorem State.writeStation_unalarmed {r : Record} (h : r.opens = false) (n m : StationNo) :
    ((s.writeStation n r).2.st m).ctx.unalarmed = (s.st m).ctx.unalarmed := by
  have key := (State.write_parts s m { r with flags := r.flags.union (s.st n).ctx.stationFlags }).2.2.2.2
  have hopens : Record.opens { r with flags := r.flags.union (s.st n).ctx.stationFlags } = false := h
  simp only [State.writeStation]
  split <;> rename_i heq <;> rw [heq] at key
  · simpa [hopens] using key
  · exact key

theorem State.writeStation_ready {r : Record} (h : r.opens = false) {p : Fin 128} (hp : s.ready p) (n : StationNo) :
    (s.writeStation n r).2 = s.recorded p { r with flags := r.flags.union (s.st n).ctx.stationFlags } := by
  have hopens : Record.opens { r with flags := r.flags.union (s.st n).ctx.stationFlags } = false := h
  simp [State.writeStation, State.write_ready hp, hopens]

@[simp] theorem State.loseSlip_parts (s : State) (n : StationNo) :
    ((s.loseSlip n).st n).line = (s.st n).line ∧ ((s.loseSlip n).st n).alerts = (s.st n).alerts ∧
    ((s.loseSlip n).st n).slips = (s.st n).slips ∧ ((s.loseSlip n).st n).ctx.unalarmed = (s.st n).ctx.unalarmed ∧
    (s.loseSlip n).queries = s.queries ∧ (s.loseSlip n).service = s.service := by
  simp only [State.loseSlip]
  split
  · have hu := State.writeStation_unalarmed (s := s)
      (r := { s.record .stationEvent (some n) with detail := some .slipLost }) rfl n n
    simp [hu]
  · simp

theorem State.loseSlip_owed (h : (s.st n).ctx.handsSlip = true) {p : Fin 128} (hp : s.ready p) :
    s.loseSlip n = (s.recorded p { s.record .stationEvent (some n) with
      flags := (s.st n).ctx.stationFlags, detail := some .slipLost }).updTallies n
        fun t => { t with lost := min 4294967295 (t.lost + 1) } := by
  simp only [State.loseSlip, h, if_true]
  rw [State.writeStation_ready rfl hp]
  simp [ResultFlags.union, State.record, sat32, satAdd, Config.maxCount32]

theorem State.loseSlip_unowed (h : (s.st n).ctx.handsSlip = false) : s.loseSlip n = s := by
  simp [State.loseSlip, h]

/-! ### Force-close with a record -/

/-- A withdrawal leaves the settings of the resolver. -/
@[simp] theorem State.withdrawResolved_settings (s : State) (n : StationNo) (l : Level) :
    ((s.withdrawResolved n l).st n).alerts.settings = (s.st n).alerts.settings := by
  simp only [State.withdrawResolved]
  split
  · rw [State.resolve_settings]
    simp [Resolver.settings]
  · rfl

/-- R46, R116, R151: what a force-close that counts leaves besides journal and tallies. -/
theorem State.forceClose_parts (h : (s.st n).ctx.tx ≠ .idle) :
    ((s.forceClose n true).st n).ctx = (((s.voidQueries n).loseSlip n).st n).ctx.cleared ∧
    ((s.forceClose n true).st n).slips = (s.st n).slips.release ∧
    ((s.forceClose n true).st n).alerts.settings = (s.st n).alerts.settings ∧
    ((s.forceClose n true).st n).tallies = (((s.voidQueries n).loseSlip n).st n).tallies ∧
    (s.forceClose n true).journal = ((s.voidQueries n).loseSlip n).journal ∧
    (s.forceClose n true).queries = (s.voidQueries n).queries ∧ (s.forceClose n true).service = s.service := by
  rw [State.forceClose_counted h]
  simp only [State.tone_st, State.tone_keeps, State.updCtx_same, State.updCtx_keeps,
    State.foldl_withdrawResolved_parts]
  rw [foldl_keeps (fun t => (t.st n).alerts.settings) (fun s l => s.withdrawResolved n l) (by simp),
    foldl_keeps (·.journal) (fun s l => s.withdrawResolved n l) (by simp),
    foldl_keeps (·.queries) (fun s l => s.withdrawResolved n l) (by simp),
    foldl_keeps (·.service) (fun s l => s.withdrawResolved n l) (by simp)]
  simp [State.voidQueries_keeps]

end Sys2Proof.Machine
end

section
/-! SUPPORT. What a lost head leaves: L0 alone in the sets (R135, R148), and all that a force-close leaves (R9, R46). -/

namespace Sys2Proof.Machine

variable {s : State} {n : StationNo}

/-! ### L0 alone -/

/-- R135, R148: L0 alone stands, in service or, where it is masked, pending. -/
def Resolver.onlyFault (r : Resolver) : Prop :=
  r.inService = (if r.mask.mem .l0 then .empty else LevelSet.empty.insert .l0) ∧
    r.pending = (if r.mask.mem .l0 then LevelSet.empty.insert .l0 else .empty)

/-- R135: a request of L0 where it stands alone changes neither set. -/
theorem Resolver.onlyFault_request {r : Resolver} (h : r.onlyFault) : (r.request .l0 0 none).onlyFault := by
  obtain ⟨hi, hp⟩ := h
  cases hm : r.mask.mem .l0 <;> simp only [hm, if_true, Bool.false_eq_true, if_false] at hi hp <;>
    simp [Resolver.onlyFault, Resolver.request, hi, hp, hm]

/-- R137: resolution has nothing to take there. -/
theorem Resolver.onlyFault_candidate {r : Resolver} (h : r.onlyFault) : r.candidate = none := by
  obtain ⟨hi, hp⟩ := h
  cases hm : r.mask.mem .l0 <;> simp only [hm, if_true, Bool.false_eq_true, if_false] at hi hp
  · have hf : (fun k => r.inService.mem k || (r.pending.mem k && !r.mask.mem k)) = fun k => decide (k = .l0) := by
      funext k
      simp [hi, hp]
    unfold Resolver.candidate
    rw [hf, find_orderFrom]
    simp [hi]
  · have hf : (fun k => r.inService.mem k || (r.pending.mem k && !r.mask.mem k)) = fun _ => false := by
      funext k
      by_cases hk : k = .l0 <;> simp [hi, hp, hk, hm]
    unfold Resolver.candidate
    rw [hf, List.find?_eq_none.mpr (by simp)]

/-- R137: L0 pending alone is taken at once, unless it is masked. -/
theorem State.resolve_fault (hp : (s.st n).alerts.pending = .onlyL0) (hi : (s.st n).alerts.inService = .empty)
    (ha : (s.st n).alerts.autoAck.mem .l0 = false) (k : Nat) : ((State.resolve n (k + 1) s).st n).alerts.onlyFault := by
  cases hm : (s.st n).alerts.mask.mem .l0 with
  | true =>
    have h : (s.st n).alerts.onlyFault := by
      rw [Resolver.onlyFault, hm, hi, hp]
      exact ⟨rfl, rfl⟩
    rwa [State.resolve_none _ (Resolver.onlyFault_candidate h)]
  | false =>
    have hc : (s.st n).alerts.candidate = some .l0 := Resolver.candidate_only hi (by simp [hp]) hm
    have hserve : ((s.st n).alerts.serve .l0).autoAck.mem .l0 = false := ha
    simp only [State.resolve, hc, State.showAlerts_alerts, State.updAlerts_same, hserve, Bool.false_eq_true, if_false]
    simp only [Resolver.onlyFault, Resolver.serve, hm, hi, hp, Bool.false_eq_true, if_false, true_and]
    rfl

/-- R137 to R139: the end of an event moves no level. -/
theorem State.endEvent_onlyFault (hc : (s.st n).ctx = (s.st n).ctx.cleared) {tone : Tone}
    (h : ((State.resolve n 8 s).st n).alerts.onlyFault) : ((s.endEvent n tone id).st n).alerts.onlyFault := by
  obtain ⟨hp1, hi1, hs1⟩ := State.reportHold_sets (State.resolve n 8 s) n
  obtain ⟨hp2, hi2, hs2⟩ := State.finishShow_sets ((State.resolve n 8 s).reportHold n) n tone
  have hm : ((((State.resolve n 8 s).reportHold n).finishShow n tone).st n).alerts.mask =
      ((State.resolve n 8 s).st n).alerts.mask := congrArg (·.1) (hs2.trans hs1)
  rw [State.endEvent_cleared hc, Resolver.onlyFault, hp2, hp1, hi2, hi1, hm]
  exact h

/-- R148: the sets emptied at a lost head. -/
theorem State.emptyAlerts_onlyFault (hc : (s.st n).ctx = (s.st n).ctx.cleared)
    (ha : (s.st n).alerts.autoAck.mem .l0 = false) (hs : (s.st n).alerts.staged = none) :
    ((s.emptyAlerts n true).st n).alerts.onlyFault := by
  rw [State.emptyAlerts]
  refine State.endEvent_onlyFault (by simpa using hc) (State.resolve_fault ?_ ?_ ?_ 7)
  all_goals simp [Resolver.emptied, hs, ha]

/-- R135: a fault that goes on, or begins, moves no level there. -/
theorem State.faultEvent_onlyFault (hc : (s.st n).ctx = (s.st n).ctx.cleared) (hf : (s.st n).line.fault = true)
    (h : (s.st n).alerts.onlyFault) (before : Bool) (tone : Tone) :
    ((s.faultEvent n before tone).st n).alerts.onlyFault := by
  have hr : ((s.updAlerts n fun r => if (s.st n).line.fault = true ∧ before = false then r.request .l0 0 none
      else if before = true ∧ (s.st n).line.fault = false then r.withdraw .l0 else r).st n).alerts.onlyFault := by
    rw [State.updAlerts_same]
    cases before
    · simpa [hf] using Resolver.onlyFault_request h
    · simpa [hf] using h
  rw [State.faultEvent_eq]
  refine State.endEvent_onlyFault (by simpa using hc) ?_
  rwa [State.resolve_none _ (Resolver.onlyFault_candidate hr)]

/-- The mask after an emptying, and after a fault event, is the one before. -/
theorem State.endEvent_mask (hc : (s.st n).ctx = (s.st n).ctx.cleared) (tone : Tone) :
    ((s.endEvent n tone id).st n).alerts.mask = (s.st n).alerts.mask := by
  obtain ⟨-, -, hs1⟩ := State.reportHold_sets (State.resolve n 8 s) n
  obtain ⟨-, -, hs2⟩ := State.finishShow_sets ((State.resolve n 8 s).reportHold n) n tone
  rw [State.endEvent_cleared hc]
  exact congrArg (·.1) ((hs2.trans hs1).trans (State.resolve_settings s n 8))

theorem State.emptyAlerts_mask (hc : (s.st n).ctx = (s.st n).ctx.cleared) (hs : (s.st n).alerts.staged = none)
    (fault : Bool) : ((s.emptyAlerts n fault).st n).alerts.mask = (s.st n).alerts.mask := by
  rw [State.emptyAlerts, State.endEvent_mask (by simpa using hc)]
  simp [Resolver.emptied, hs]

theorem State.faultEvent_mask (hc : (s.st n).ctx = (s.st n).ctx.cleared) (before : Bool) (tone : Tone) :
    ((s.faultEvent n before tone).st n).alerts.mask = (s.st n).alerts.mask := by
  have hr : ∀ r : Resolver, (r.request .l0 0 none).mask = r.mask := fun r =>
    congrArg (·.1) (r.request_settings .l0 0 none)
  rw [State.faultEvent_eq, State.endEvent_mask (by simpa using hc), State.updAlerts_same]
  repeat' split
  all_goals simp [hr]

end Sys2Proof.Machine
end

section
/-! The settling of O17. -/

namespace Sys2Proof.Machine

variable {s : State} {n : StationNo}

/-- What a context keeps but for the ALARM source, it keeps when it is cleared. -/
theorem Ctx.cleared_unalarmed {c d : Ctx} (h : c.unalarmed = d.unalarmed) :
    c.cleared.unalarmed = d.cleared.unalarmed := by
  rw [Ctx.eq_of_unalarmed h]
  rfl

/-- R9, R46: a head is lost where the station shows what the force-close left, with its reservation released and L0 alone
in its sets. -/
theorem State.headLost_of {t : State} (hctx : (t.st n).ctx = ((s.fresh.forceClose n true).st n).ctx)
    (htallies : (t.st n).tallies = ((s.fresh.forceClose n true).st n).tallies)
    (hservice : t.service = (s.fresh.forceClose n true).service)
    (hqueries : t.queries = (s.fresh.forceClose n true).queries)
    (hjournal : t.journal = (s.fresh.forceClose n true).journal)
    (hslots : ∀ i : Fin 4, ((s.fresh.forceClose n true).st n).slips.release.slots[i] = .free →
      (t.st n).slips.slots[i] = .free)
    (halerts : (s.st n).alerts.autoAck.mem .l0 = false → (s.st n).alerts.staged = none →
      (t.st n).alerts.onlyFault ∧ (t.st n).alerts.mask = (s.st n).alerts.mask) : s.headLost t n := by
  have hsets : (s.st n).alerts.autoAck.mem .l0 = false → (s.st n).alerts.staged = none →
      (t.st n).alerts.inService = (if (s.st n).alerts.mask.mem .l0 then .empty else LevelSet.empty.insert .l0) ∧
      (t.st n).alerts.pending = (if (s.st n).alerts.mask.mem .l0 then LevelSet.empty.insert .l0 else .empty) := by
    intro ha hs
    obtain ⟨⟨h1, h2⟩, hm⟩ := halerts ha hs
    rw [hm] at h1 h2
    exact ⟨h1, h2⟩
  by_cases htx : (s.st n).ctx.tx = .idle
  · have hf : s.fresh.forceClose n true = s.fresh := by
      simp only [State.forceClose, State.fresh_st, htx, if_true]
    rw [hf] at hctx htallies hservice hqueries hjournal hslots
    have hctx' : (t.st n).ctx = (s.st n).ctx := hctx
    refine ⟨by rw [hctx', htx], fun h => absurd htx h, hservice, fun g q k _ h => absurd htx h.1, fun g _ => ?_,
      fun i hi ho => ?_, fun h => absurd htx h.1, fun _ => ⟨hjournal, htallies, by rw [hctx']⟩, hsets⟩
    · rw [hqueries]
      rfl
    · refine hslots i ?_
      rw [State.fresh_st, SlipQueue.release_only hi ho]
      simp [SlipQueue.setSlot]
  · obtain ⟨fctx, fslips, -, ftallies, fjournal, fqueries, fservice⟩ :=
      State.forceClose_parts (s := s.fresh) (n := n) htx
    obtain ⟨-, -, -, lctx, -, -⟩ := (s.fresh.voidQueries n).loseSlip_parts n
    have hunalarmed : (t.st n).ctx.unalarmed = (s.st n).ctx.cleared.unalarmed := by
      rw [hctx, fctx]
      refine Ctx.cleared_unalarmed ?_
      rw [lctx, State.voidQueries_st, State.fresh_st]
    obtain ⟨vjournal, -, vmgmt, vclock⟩ := s.fresh.voidQueries_keeps n
    have vqueries : ∀ g : Tag, (s.fresh.voidQueries n).queries[g] =
        if (s.st n).ctx.lookup = some (g, s.queries[g].gen) ∨
          (∃ x ∈ (s.st n).ctx.items, x.state = .awaiting ∧ x.query = some (g, s.queries[g].gen)) then
          s.queries[g].abandoned s.service.patience else s.queries[g] := s.fresh.voidQueries_queries n
    refine ⟨by rw [hctx]; exact State.forceClose_idle _ _ _, fun _ => Ctx.eq_of_unalarmed hunalarmed,
      hservice.trans fservice, fun g q k hq h => ?_, fun g h => ?_, fun i hi ho => hslots i ?_, fun h p hp => ?_,
      fun h => ?_, hsets⟩
    · rw [hqueries, fqueries, vqueries, if_pos h.2, QueryEntry.abandoned, hq]
    · rw [hqueries, fqueries, vqueries]
      split
      · rename_i hab
        obtain hn | hn := h
        · exact absurd ⟨htx, hab⟩ hn
        · rw [QueryEntry.abandoned]
          split
          · rename_i q k hq
            exact absurd ⟨q, k, hq⟩ hn
          · rfl
      · rfl
    · have hrel : (s.st n).slips.release = (s.st n).slips.setSlot i .free := SlipQueue.release_only hi ho
      have hun : ((s.st n).slips.setSlot i .free).unreserved := by
        intro k
        rw [SlipQueue.setSlot_slots]
        split
        · simp
        · exact ho k ‹_›
      rw [fslips, State.fresh_st, hrel, SlipQueue.release_unreserved hun]
      simp [SlipQueue.setSlot]
    · have hh : (((s.fresh.voidQueries n).st n).ctx).handsSlip = true := by
        simpa [Ctx.handsSlip_iff] using h.2
      have hready : (s.fresh.voidQueries n).ready p :=
        (State.ready_congr (s := s) vjournal (by rw [vmgmt]; rfl) (by rw [vmgmt]; rfl)).mpr hp
      have hlose := State.loseSlip_owed hh hready
      have hrec : (s.fresh.voidQueries n).record .stationEvent (some n) = s.record .stationEvent (some n) := by
        simp only [State.record, vclock]
        rfl
      rw [hlose] at fctx ftallies fjournal
      refine ⟨?_, ?_, ?_⟩
      · rw [hjournal, fjournal, hrec]
        simp only [State.updTallies_keeps, State.recorded, vjournal, State.voidQueries_st, State.fresh_st]
        rfl
      · rw [htallies, ftallies]
        simp
      · rw [hctx, fctx]
        simp [Ctx.cleared]
    · have hh : (((s.fresh.voidQueries n).st n).ctx).handsSlip = false := by
        rw [Bool.eq_false_iff]
        intro hh
        exact h ⟨htx, by simpa [Ctx.handsSlip_iff] using hh⟩
      rw [State.loseSlip_unowed hh] at fctx ftallies fjournal
      refine ⟨?_, ?_, ?_⟩
      · rw [hjournal, fjournal, vjournal]
        rfl
      · rw [htallies, ftallies]
        simp
      · rw [hctx, fctx]
        simp [Ctx.cleared]

/-- R148: what is left outside the stations by the emptying of the sets at a cleared context. -/
theorem State.emptyAlerts_rest (h : (s.st n).ctx = (s.st n).ctx.cleared) (fault : Bool) :
    (s.emptyAlerts n fault).queries = s.queries ∧ (s.emptyAlerts n fault).service = s.service := by
  rw [State.emptyAlerts, State.endEvent_cleared_rest (by simpa using h)]
  exact ⟨rfl, rfl⟩

/-- R46: a force-close leaves a cleared context, and the settings of the resolver. -/
theorem State.forceClose_cleared (hidle : (s.st n).ctx.tx = .idle → (s.st n).ctx = (s.st n).ctx.cleared) :
    ((s.forceClose n true).st n).ctx = ((s.forceClose n true).st n).ctx.cleared ∧
      ((s.forceClose n true).st n).alerts.settings = (s.st n).alerts.settings := by
  by_cases htx : (s.st n).ctx.tx = .idle
  · have hf : s.forceClose n true = s := by simp only [State.forceClose, htx, if_true]
    rw [hf]
    exact ⟨hidle htx, rfl⟩
  · obtain ⟨fctx, -, fsettings, -⟩ := State.forceClose_parts htx
    rw [fctx]
    exact ⟨rfl, fsettings⟩

/-- R4, R6, R9: an ACTIVE station whose head is lost, once the printer, the line and the fault condition follow. -/
theorem State.headLost_of_loseHead {t : State} {F : Line → Line} {before : Bool}
    (hidle : (s.st n).ctx.tx = .idle → (s.st n).ctx = (s.st n).ctx.cleared) (hF : ∀ l, (F l).fault = true)
    (hst : t.st n = ((((s.fresh.loseHead n).setPrinter n .offline).updLine n F).faultEvent n before .none).st n)
    (ht : t.service = ((((s.fresh.loseHead n).setPrinter n .offline).updLine n F).faultEvent n before .none).service ∧
      t.queries = ((((s.fresh.loseHead n).setPrinter n .offline).updLine n F).faultEvent n before .none).queries ∧
      t.journal = ((((s.fresh.loseHead n).setPrinter n .offline).updLine n F).faultEvent n before .none).journal) :
    s.headLost t n := by
  obtain ⟨fcleared, fsettings⟩ := State.forceClose_cleared (s := s.fresh) (n := n) hidle
  rw [State.fresh_st] at fsettings
  have hlose : s.fresh.loseHead n = ((s.fresh.forceClose n true).updSlips n (·.release)).emptyAlerts n true := rfl
  rw [hlose] at hst ht
  generalize hf : s.fresh.forceClose n true = f at *
  have ucleared : ((f.updSlips n (·.release)).st n).ctx = ((f.updSlips n (·.release)).st n).ctx.cleared := by
    simpa using fcleared
  obtain ⟨vctx, -, vslips, vtallies, vjournal, -⟩ := State.emptyAlerts_cleared ucleared true
  obtain ⟨vqueries, vservice⟩ := State.emptyAlerts_rest ucleared true
  have vmask := fun h => State.emptyAlerts_mask ucleared h true
  have vonly := State.emptyAlerts_onlyFault ucleared
  generalize (f.updSlips n (·.release)).emptyAlerts n true = v at *
  have wctx : (((v.setPrinter n .offline).updLine n F).st n).ctx = (f.st n).ctx := by
    simpa [State.setPrinter_fault (p := .offline) rfl] using vctx
  have wcleared : (((v.setPrinter n .offline).updLine n F).st n).ctx =
      (((v.setPrinter n .offline).updLine n F).st n).ctx.cleared := by rw [wctx]; exact fcleared
  have walerts : (((v.setPrinter n .offline).updLine n F).st n).alerts = (v.st n).alerts := by
    simp [State.setPrinter_fault (p := .offline) rfl]
  obtain ⟨-, tctx, tslips, ttallies, -, trest⟩ := State.faultEvent_cleared wcleared before .none
  have wfault : (((v.setPrinter n .offline).updLine n F).st n).line.fault = true := by
    rw [State.updLine_same]
    exact hF _
  have tonly := fun h => State.faultEvent_onlyFault wcleared wfault h before .none
  have tmask := State.faultEvent_mask wcleared before .none
  rw [walerts] at tonly tmask
  obtain ⟨tservice, tqueries, tjournal⟩ := ht
  rw [trest] at tservice tqueries tjournal
  refine State.headLost_of ?_ ?_ ?_ ?_ ?_ (fun i hi => ?_) fun ha hs => ?_
  · rw [hst, tctx, wctx, hf]
  · rw [hst, ttallies, hf]
    simpa [State.setPrinter_fault (p := .offline) rfl] using vtallies
  · rw [tservice, hf]
    simpa using vservice
  · rw [tqueries, hf]
    simpa using vqueries
  · rw [tjournal, hf]
    simpa using vjournal
  · rw [hf] at hi
    have hv : (v.st n).slips.slots[i] = .free := by
      rw [vslips, State.updSlips_same]
      exact hi
    rw [hst, tslips, State.setPrinter_fault (p := .offline) rfl]
    simp only [State.updLine_parts, State.updSlips_same]
    split
    · exact hv
    · simp only [SlipQueue.printerChange]
      split
      · split
        · exact hv
        · rw [Fin.getElem_fin, Vector.getElem_map, ← Fin.getElem_fin, hv]
          rfl
      · rename_i h
        exact absurd rfl h
  · have hset := fsettings
    simp only [Resolver.settings, Prod.mk.injEq] at hset
    obtain ⟨hmask, -, hauto, hstaged⟩ := hset
    have fonly := vonly (by simpa [hauto] using ha) (by simpa [hstaged] using hs)
    rw [hst]
    refine ⟨tonly fonly, tmask.trans ?_⟩
    rw [vmask (by simpa [hstaged] using hs)]
    simpa using hmask

end Sys2Proof.Machine

namespace Sys2Proof.Proofs
open Sys2Proof Sys2Proof.Machine

/-- Settles O17: both commands lose the head of an ACTIVE station, and then set the line. -/
theorem attachAndSilence : Obligations.AttachAndSilence := by
  refine ⟨fun n s => ⟨_, rfl, s.fresh.enterCheck_line n, fun hlink hidle => ?_⟩, fun n k s hatt hk hle => ?_⟩
  · have hlink' : (s.fresh.st n).line.link = .active := hlink
    have h : s.fresh.enterCheck n = ((((s.fresh.loseHead n).setPrinter n .offline).updLine n fun l =>
        { l with link := .check, silence := some 0, history := [], credit := 0 }).faultEvent n
          (s.fresh.st n).line.fault .none).tone n .none := by
      rw [State.enterCheck_eq, State.checking, if_pos hlink']
    rw [h]
    exact State.headLost_of_loseHead (F := fun l =>
      { l with link := .check, silence := some 0, history := [], credit := 0 }) hidle (fun _ => rfl)
      (by rw [State.tone_st]) (by simp only [State.tone_keeps, and_self])
  · have hsilent : (s.st n).line.isSilent = true := by
      simp [Line.isSilent, hatt, hk, Config.silenceLimit, hle]
    have hexec : exec (.silenceTimeout n) s = .next (s.fresh.fallSilent n) := by
      show Host.Outcome.next (if (s.st n).line.isSilent then s.fresh.fallSilent n else s.fresh) = _
      rw [if_pos hsilent]
    refine ⟨s.fresh.fallSilent n, hexec, s.fresh.fallSilent_line n, fun hlink hidle => ?_⟩
    have hlink' : (s.fresh.st n).line.link = .active := hlink
    have h : s.fresh.fallSilent n = (((s.fresh.loseHead n).setPrinter n .offline).updLine n fun l =>
        { l with link := .detached, silence := none, credit := 0 }).faultEvent n (s.fresh.st n).line.fault .none := by
      rw [State.fallSilent_eq, State.silenced, if_pos hlink']
    rw [h]
    exact State.headLost_of_loseHead (F := fun l => { l with link := .detached, silence := none, credit := 0 }) hidle
      (fun _ => rfl) rfl ⟨rfl, rfl, rfl⟩

end Sys2Proof.Proofs
end

section
/-! SUPPORT. What every event at a station keeps of its transaction and its resolver (R19, R20, R41, R134, R139): the
updates, the resolver's events and the decisions. -/

namespace Sys2Proof.Machine

/-! ### The parts of the invariant -/

/-- R19, R20, R41: what `State.transactionsOk` says of one context. -/
structure Ctx.Sound (c : Ctx) : Prop where
  cleared : c.tx = .idle → c = c.cleared
  short : c.items.length ≤ 12
  once : (c.items.map (·.number)).Nodup
  few : c.awaiting ≤ 4

/-- R134, R137: no level is pending and in service at once. -/
def Resolver.apart (r : Resolver) : Prop := ∀ l, r.pending.mem l = true → r.inService.mem l = false

/-- The invariant at one station, but for the report of the hold condition. -/
def Station.sound (t : Station) : Prop := t.ctx.Sound ∧ t.alerts.apart

theorem State.transactionsOk_iff (s : State) :
    s.transactionsOk ↔ ∀ n, (s.st n).sound ∧ (s.st n).alerts.hold = (s.st n).alerts.holds :=
  ⟨fun h n => let ⟨hc, hl, hn, ha, hp, hh⟩ := h n; ⟨⟨⟨hc, hl, hn, ha⟩, hp⟩, hh⟩,
    fun h n => let ⟨⟨⟨hc, hl, hn, ha⟩, hp⟩, hh⟩ := h n; ⟨hc, hl, hn, ha, hp, hh⟩⟩

/-- R139: the invariant while the resolver of station n has still to report its hold condition. -/
def State.unreportedOk (s : State) (n : StationNo) : Prop :=
  (∀ m, (s.st m).sound) ∧ ∀ m, m ≠ n → (s.st m).alerts.hold = (s.st m).alerts.holds

theorem State.transactionsOk.unreportedOk {s : State} (h : s.transactionsOk) (n : StationNo) : s.unreportedOk n :=
  ⟨fun m => ((s.transactionsOk_iff.mp h) m).1, fun m _ => ((s.transactionsOk_iff.mp h) m).2⟩

theorem State.unreportedOk.reported {s : State} {n : StationNo} (h : s.unreportedOk n)
    (hn : (s.st n).alerts.hold = (s.st n).alerts.holds) : s.transactionsOk :=
  s.transactionsOk_iff.mpr fun m => ⟨h.1 m, if hm : m = n then hm ▸ hn else h.2 m hm⟩

theorem State.transactionsOk.sound {s : State} (h : s.transactionsOk) (n : StationNo) : (s.st n).ctx.Sound :=
  ((s.transactionsOk_iff.mp h) n).1.1

/-- R41: the context of an IDLE station. -/
theorem State.transactionsOk.idle {s : State} (h : s.transactionsOk) {n : StationNo} (hn : (s.st n).ctx.tx = .idle) :
    (s.st n).ctx = (s.st n).ctx.cleared :=
  (h.sound n).cleared hn

/-- The invariant reads no part of the stations but their contexts and resolvers. -/
theorem State.transactionsOk_congr {s t : State}
    (h : ∀ m, (t.st m).ctx = (s.st m).ctx ∧ (t.st m).alerts = (s.st m).alerts) : t.transactionsOk ↔ s.transactionsOk := by
  simp only [State.transactionsOk, fun m => (h m).1, fun m => (h m).2]

theorem State.transactionsOk_stations {s t : State} (h : t.stations = s.stations) :
    t.transactionsOk ↔ s.transactionsOk :=
  State.transactionsOk_congr fun m => by simp [State.st, h]

theorem State.unreportedOk_congr {s t : State} {n : StationNo}
    (h : ∀ m, (t.st m).ctx = (s.st m).ctx ∧ (t.st m).alerts = (s.st m).alerts) : t.unreportedOk n ↔ s.unreportedOk n := by
  simp only [State.unreportedOk, Station.sound, fun m => (h m).1, fun m => (h m).2]

/-! ### Contexts -/

/-- A context that is not IDLE is sound where its list is. -/
theorem Ctx.Sound.busy {c d : Ctx} (h : c.Sound) (hi : d.items = c.items) (ht : d.tx ≠ .idle) : d.Sound where
  cleared hd := absurd hd ht
  short := hi ▸ h.short
  once := hi ▸ h.once
  few := by have := h.few; simpa only [Ctx.awaiting, Ctx.inState, hi] using this

/-- A change of a context that leaves the list, and leaves it cleared where it is cleared. -/
theorem Ctx.Sound.change {c d : Ctx} (h : c.Sound) (hi : d.items = c.items) (ht : d.tx = .idle → c.tx = .idle)
    (hd : c = c.cleared → d = d.cleared) : d.Sound where
  cleared hi := hd (h.cleared (ht hi))
  short := hi ▸ h.short
  once := hi ▸ h.once
  few := by have := h.few; simpa only [Ctx.awaiting, Ctx.inState, hi] using this

theorem Ctx.cleared_sound (c : Ctx) : c.cleared.Sound :=
  ⟨fun _ => rfl, by simp, by simp, by simp [Ctx.awaiting, Ctx.inState]⟩

/-- R19, R20: a list that keeps its numbers and gains no AWAITING entry. -/
theorem Ctx.Sound.setItems {c : Ctx} (h : c.Sound) {ys : List Item} (hn : ys.map (·.number) = c.items.map (·.number))
    (ha : (ys.filter fun i => decide (i.state = .awaiting)).length ≤ c.awaiting) : { c with items := ys }.Sound where
  cleared hi := by
    have hc := h.cleared hi
    have hy : ys = [] := by
      have : c.items = [] := by rw [hc]; rfl
      simpa [this] using hn
    rw [hy, hc]
    rfl
  short := by simpa using (congrArg List.length hn).trans_le (by simpa using h.short)
  once := by simpa only [hn] using h.once
  few := ha.trans h.few

theorem map_modify_same {α β : Type} {g : α → β} {f : α → α} (xs : List α) (i : Nat)
    (h : ∀ x, xs[i]? = some x → g (f x) = g x) : (xs.modify i f).map g = xs.map g := by
  refine List.ext_getElem? fun k => ?_
  simp only [List.getElem?_map, List.getElem?_modify]
  by_cases hk : i = k
  · subst hk
    cases hx : xs[i]? with
    | none => simp
    | some x => simp [h x hx]
  · simp [hk]

theorem countP_modify_le {α : Type} {p : α → Bool} {f : α → α} (xs : List α) (i : Nat)
    (h : ∀ x, xs[i]? = some x → p (f x) = true → p x = true) : (xs.modify i f).countP p ≤ xs.countP p := by
  induction xs generalizing i with
  | nil => simp
  | cons x xs ih =>
    cases i with
    | zero =>
      have := h x rfl
      by_cases hx : p (f x) = true
      · simp [hx, this hx]
      · simp [List.countP_cons, hx]
    | succ i => simpa [List.countP_cons] using ih i (by simpa using h)

/-- R19, R20: a change of one entry that keeps its number and does not make it AWAITING. -/
theorem Ctx.Sound.modify {c : Ctx} (h : c.Sound) {i : Nat} {f : Item → Item}
    (hf : ∀ x, c.items[i]? = some x → (f x).number = x.number ∧ ((f x).state = .awaiting → x.state = .awaiting)) :
    { c with items := c.items.modify i f }.Sound := by
  refine h.setItems (map_modify_same _ _ fun x hx => (hf x hx).1) ?_
  simp only [Ctx.awaiting, Ctx.inState, ← List.countP_eq_length_filter]
  exact countP_modify_le _ _ fun x hx => by simpa using (hf x hx).2

/-- R19, R26, R33: an entry that joins a list with room. -/
theorem Ctx.Sound.join {c : Ctx} (h : c.Sound) (ht : c.tx ≠ .idle) (hl : c.items.length < 12) (ha : c.awaiting < 4)
    {x : Item} (hx : c.holdsItem x.number = false) : { c with items := c.items ++ [x] }.Sound where
  cleared hi := absurd hi ht
  short := by simp; omega
  once := by
    simp only [List.map_append, List.map_cons, List.map_nil, List.nodup_append, List.nodup_singleton, true_and]
    refine ⟨h.once, fun k hk j hj => ?_⟩
    rintro rfl
    simp only [Ctx.holdsItem, List.any_eq_false] at hx
    obtain ⟨y, hy, rfl⟩ := List.mem_map.mp hk
    simp only [List.mem_singleton] at hj
    exact hx y hy (by simp [hj])
  few := by
    have : ([x].filter fun i => decide (i.state = .awaiting)).length ≤ 1 := List.length_filter_le _ _
    simp only [Ctx.awaiting, Ctx.inState, List.filter_append, List.length_append] at ha ⊢
    omega

theorem Ctx.Sound.beginHold {c : Ctx} (h : c.Sound) : c.beginHold.Sound := by
  refine h.change ?_ ?_ (fun hc => hc ▸ rfl)
  · simp only [Ctx.beginHold]; split <;> rfl
  · simp only [Ctx.beginHold]; split <;> simp_all

theorem Ctx.Sound.endHold {c : Ctx} (h : c.Sound) : c.endHold.Sound := by
  refine h.change ?_ ?_ (fun hc => hc ▸ rfl)
  · simp only [Ctx.endHold]; split <;> rfl
  · simp only [Ctx.endHold]; split <;> simp_all

/-! ### Updates -/

section
variable {s : State} {n : StationNo}

@[simp] theorem State.updLine_ok (f : Line → Line) : (s.updLine n f).transactionsOk ↔ s.transactionsOk :=
  State.transactionsOk_congr (by simp)
@[simp] theorem State.updSlips_ok (f : SlipQueue → SlipQueue) : (s.updSlips n f).transactionsOk ↔ s.transactionsOk :=
  State.transactionsOk_congr (by simp)
@[simp] theorem State.updTallies_ok (f : Tallies → Tallies) : (s.updTallies n f).transactionsOk ↔ s.transactionsOk :=
  State.transactionsOk_congr (by simp)
@[simp] theorem State.tallyRefusal_ok : (s.tallyRefusal n).transactionsOk ↔ s.transactionsOk :=
  State.transactionsOk_congr (by simp)
@[simp] theorem State.fresh_ok : s.fresh.transactionsOk ↔ s.transactionsOk := Iff.rfl
@[simp] theorem State.stick_ok (f : StickyFlags) : (s.stick f).transactionsOk ↔ s.transactionsOk := Iff.rfl
@[simp] theorem State.setAlarms_ok (f : Alarms → Alarms) : (s.setAlarms f).transactionsOk ↔ s.transactionsOk := Iff.rfl
@[simp] theorem State.setBorrower_ok (e : Borrower) : (s.setBorrower e).transactionsOk ↔ s.transactionsOk := Iff.rfl
@[simp] theorem State.dropBorrower_ok (b : Nat) : (s.dropBorrower b).transactionsOk ↔ s.transactionsOk := Iff.rfl
@[simp] theorem State.touch_ok (b : Nat) : (s.touch b).transactionsOk ↔ s.transactionsOk := Iff.rfl
@[simp] theorem State.dropException_ok (k : Nat) : (s.dropException k).transactionsOk ↔ s.transactionsOk := Iff.rfl
@[simp] theorem State.dropLoan_ok (k : Nat) : (s.dropLoan k).transactionsOk ↔ s.transactionsOk := Iff.rfl
@[simp] theorem State.dropLoanOf_ok (k : Nat) : (s.dropLoanOf k).transactionsOk ↔ s.transactionsOk := Iff.rfl
@[simp] theorem State.countService_ok (f : ServiceStats → ServiceStats) :
    (s.countService f).transactionsOk ↔ s.transactionsOk := Iff.rfl
@[simp] theorem State.updService_ok (f : Service → Service) :
    (s.updService f).transactionsOk ↔ s.transactionsOk := Iff.rfl
@[simp] theorem State.freeQuery_ok (t : Tag) : (s.freeQuery t).transactionsOk ↔ s.transactionsOk := Iff.rfl
@[simp] theorem State.display_ok (t : Tone) (i : Nat) : (s.display n t i).transactionsOk ↔ s.transactionsOk :=
  State.transactionsOk_congr (by simp)
@[simp] theorem State.tone_ok (t : Tone) : (s.tone n t).transactionsOk ↔ s.transactionsOk :=
  State.transactionsOk_congr (by simp)
@[simp] theorem State.notice_ok (x : Notice) : (s.notice x).transactionsOk ↔ s.transactionsOk :=
  State.transactionsOk_congr (by simp)
@[simp] theorem State.sendTrunk_ok (x : TrunkOut) : (s.sendTrunk x).transactionsOk ↔ s.transactionsOk :=
  State.transactionsOk_congr (by simp)
@[simp] theorem State.ask_ok (q : Question) (c : Nat) : (s.ask q c).2.transactionsOk ↔ s.transactionsOk :=
  State.transactionsOk_congr (by simp)
@[simp] theorem State.lapse_ok (t : Tag) (d : LapseDecision) : (s.lapse t d).transactionsOk ↔ s.transactionsOk :=
  State.transactionsOk_congr (by simp)
@[simp] theorem State.voidQuery_ok (k : Option (Tag × Nat)) : (s.voidQuery k).transactionsOk ↔ s.transactionsOk :=
  State.transactionsOk_congr (by simp)
@[simp] theorem State.offer_ok (r : Record) : (s.offer r).2.transactionsOk ↔ s.transactionsOk :=
  State.transactionsOk_congr (by simp)

theorem State.updCtx_ok {f : Ctx → Ctx} (h : s.transactionsOk) (hf : (s.st n).ctx.Sound → (f (s.st n).ctx).Sound) :
    (s.updCtx n f).transactionsOk := by
  rw [State.transactionsOk_iff] at h ⊢
  intro m
  by_cases hm : m = n
  · subst hm
    simpa [Station.sound] using ⟨⟨hf (h m).1.1, (h m).1.2⟩, (h m).2⟩
  · simpa [hm] using h m

theorem State.updItem_ok {i : Nat} {f : Item → Item} (h : s.transactionsOk)
    (hf : ∀ x, s.entry n i = some x → (f x).number = x.number ∧ ((f x).state = .awaiting → x.state = .awaiting)) :
    (s.updItem n i f).transactionsOk :=
  State.updCtx_ok h fun hc => hc.modify hf

/-- R19: an entry that becomes REFUSED or VOID, or that only waits for something else. -/
@[simp] theorem State.updItem_kind_ok {i : Nat} {f : Item → Item} (h : s.transactionsOk)
    (hf : ∀ x, (f x).number = x.number ∧ ((f x).state = .awaiting → x.state = .awaiting)) :
    (s.updItem n i f).transactionsOk :=
  State.updItem_ok h fun x _ => hf x

/-! ### Lock sources and records -/

/-- R44: a change of lock sources only. -/
def relocks (f : Ctx → Ctx) : Prop := ∀ c : Ctx, f c =
  { c with lockCommand := (f c).lockCommand, lockAlarm := (f c).lockAlarm, lockKeySrc := (f c).lockKeySrc }

theorem relocks_alarm (on : Bool) : relocks fun c => { c with lockAlarm := on } := fun _ => rfl

theorem Ctx.Sound.relock {c : Ctx} (h : c.Sound) {f : Ctx → Ctx} (hf : relocks f) : (f c).Sound := by
  rw [hf c]
  exact h.change rfl (fun ht => ht) (fun hc => by rw [hc]; rfl)

theorem State.changeSource_ok {f : Ctx → Ctx} (hf : relocks f) (h : s.transactionsOk) :
    (s.changeSource n f).transactionsOk := by
  have hu := State.updCtx_ok (n := n) (f := f) h fun hc => hc.relock hf
  simp only [State.changeSource]
  split
  · exact hu
  · simpa using hu

theorem foldl_ok {α : Type} {f : State → α → State} (hf : ∀ s a, s.transactionsOk → (f s a).transactionsOk)
    (xs : List α) {s : State} (h : s.transactionsOk) : (xs.foldl f s).transactionsOk :=
  foldl_preserves (P := State.transactionsOk) hf xs h

theorem State.reportAlarm_ok (on : Bool) (h : s.transactionsOk) : (s.reportAlarm on).transactionsOk :=
  foldl_ok (fun _ _ h => State.changeSource_ok (relocks_alarm on) h) _ h

theorem State.settleLocks_ok (k : Nat) (h : s.transactionsOk) : (State.settleLocks k s).transactionsOk := by
  induction k generalizing s with
  | zero => exact h
  | succ k ih =>
    simp only [State.settleLocks]
    split
    · exact h
    · exact ih (State.reportAlarm_ok _ (by exact h))

@[simp] theorem State.settle_ok (h : s.transactionsOk) : s.settle.transactionsOk := State.settleLocks_ok 4 h

@[simp] theorem State.write_ok (h : s.transactionsOk) (r : Record) : (s.write r).2.transactionsOk := by
  simp [State.write, h]

@[simp] theorem State.writeStation_ok (h : s.transactionsOk) (r : Record) : (s.writeStation n r).2.transactionsOk := by
  have hw := State.write_ok h { r with flags := r.flags.union (s.st n).ctx.stationFlags }
  simp only [State.writeStation]
  split <;> rename_i heq <;> rw [← snd_of_eq heq] at hw
  · split
    · refine State.updCtx_ok hw fun hc => ?_
      split
      · rename_i ht
        exact hc.busy rfl ht.1
      · exact hc
    · exact hw
  · exact hw

theorem State.lockChange_ok {f : Ctx → Ctx} (hf : relocks f) (h : s.transactionsOk) :
    (s.lockChange n f).transactionsOk := by
  have hc := State.changeSource_ok (n := n) hf h
  simp only [State.lockChange]
  split
  · exact hc
  · exact State.settle_ok hc

end
end Sys2Proof.Machine
end

section
/-! SUPPORT. What the resolver's events, the decisions and the borrower check keep of the transactions (R19, R20, R41,
R134, R139). -/

namespace Sys2Proof.Machine

section
variable {s : State} {n : StationNo}

/-! ### The resolver's sets -/

theorem Resolver.apart.request {r : Resolver} (h : r.apart) (l : Level) (i : Nat) (o : Option Origin) :
    (r.request l i o).apart := by
  intro k hk
  have hs : (r.request l i o).inService = r.inService := by
    simp only [Resolver.request]
    repeat' split
    all_goals rfl
  rw [hs]
  simp only [Resolver.request] at hk
  split at hk
  · exact h k hk
  · rename_i hi
    split at hk
    · exact h k hk
    · simp only [LevelSet.mem_insert, Bool.or_eq_true, decide_eq_true_eq] at hk
      rcases hk with rfl | hk
      · simpa using hi
      · exact h k hk

theorem Resolver.apart.serve {r : Resolver} (h : r.apart) (l : Level) : (r.serve l).apart := by
  intro k hk
  simp only [Resolver.serve, LevelSet.mem_erase, LevelSet.mem_insert, Bool.and_eq_true, Bool.not_eq_true',
    decide_eq_false_iff_not] at hk ⊢
  simp [hk.1, h k hk.2]

/-- A resolver whose sets hold no more than those of one whose sets are apart. -/
theorem Resolver.apart.shrink {q r : Resolver} (h : r.apart) (hp : ∀ l, q.pending.mem l = true → r.pending.mem l = true)
    (hi : ∀ l, q.inService.mem l = true → r.inService.mem l = true) : q.apart := by
  intro l hl
  by_contra hs
  have hs' := hi l (by simpa using hs)
  rw [h l (hp l hl)] at hs'
  cases hs'

theorem Resolver.apart.leave {r : Resolver} (h : r.apart) (l : Level) : (r.leave l).apart :=
  h.shrink (by simp) (by simp)

theorem Resolver.apart.withdraw {r : Resolver} (h : r.apart) (l : Level) : (r.withdraw l).apart :=
  h.shrink (by simp) (by simp)

theorem Resolver.apart.sweep {r : Resolver} (h : r.apart) (l : Level) : (r.sweep l).apart :=
  h.shrink (by simp [Resolver.sweep]) (by simp [Resolver.sweep])

theorem Resolver.apart.sweepBlocks {r : Resolver} (h : r.apart) (l : Level) : (r.sweepBlocks l).apart :=
  foldl_preserves (P := Resolver.apart) (fun _ _ h => h.sweep _) _ h

theorem Resolver.apart_emptied (r : Resolver) (fault : Bool) : (r.emptied fault).apart := by
  intro l _
  simp [Resolver.emptied]

theorem Resolver.apart.configure {r : Resolver} (h : r.apart) (c : AlertFields) : (r.configure c).apart := h

/-- R147: L0 that rejoins the pending set at its withdrawal. -/
theorem Resolver.apart.rejoin {r : Resolver} (h : r.apart) :
    ({ r.withdraw .l0 with pending := (r.withdraw .l0).pending.insert .l0 } : Resolver).apart := by
  intro l hl
  simp only [LevelSet.mem_insert, Resolver.withdraw_sets, Bool.or_eq_true, decide_eq_true_eq] at hl ⊢
  rcases hl with rfl | hl
  · simp
  · simp only [Bool.and_eq_true, Bool.not_eq_true', decide_eq_false_iff_not] at hl
    simp [h l hl.2]

/-! ### The resolver's events -/

theorem State.updAlerts_unreported {f : Resolver → Resolver} (h : s.unreportedOk n)
    (hf : (s.st n).alerts.apart → (f (s.st n).alerts).apart) : (s.updAlerts n f).unreportedOk n := by
  refine ⟨fun m => ?_, fun m hm => by simpa [hm] using h.2 m hm⟩
  by_cases hm : m = n
  · subst hm
    simpa [Station.sound] using ⟨(h.1 m).1, hf (h.1 m).2⟩
  · simpa [hm] using h.1 m

@[simp] theorem State.resolve_unreported (h : s.unreportedOk n) (k : Nat) : (State.resolve n k s).unreportedOk n := by
  refine ⟨fun m => ?_, fun m hm => by simpa [hm] using h.2 m hm⟩
  by_cases hm : m = n
  · subst hm
    refine ⟨by simpa using (h.1 m).1, ?_⟩
    exact State.resolve_preserves (P := Resolver.apart) (fun r l _ hr => hr.serve l) (fun _ _ hr => hr)
      (fun r l _ hr => hr.leave l) k s (h.1 m).2
  · simpa [hm] using h.1 m

theorem State.reportHold_reports : ((s.reportHold n).st n).alerts.hold = ((s.reportHold n).st n).alerts.holds := by
  simp only [State.reportHold]
  split
  · rename_i h
    exact h.symm
  · repeat' split
    all_goals simp [Resolver.holds]

/-- R139: the report of the hold condition completes the invariant. -/
@[simp] theorem State.reportHold_ok (h : s.unreportedOk n) : (s.reportHold n).transactionsOk := by
  refine State.unreportedOk.reported ⟨fun m => ?_, fun m hm => by simpa [hm] using h.2 m hm⟩ State.reportHold_reports
  by_cases hm : m = n
  · subst hm
    constructor
    · rw [State.reportHold_ctx]
      split
      · exact (h.1 m).1
      · split
        · exact (h.1 m).1.beginHold
        · exact (h.1 m).1.endHold
    · intro l hl
      obtain ⟨hp, hi, -⟩ := s.reportHold_sets m
      rw [hi]
      exact (h.1 m).2 l (hp ▸ hl)
  · simpa [hm] using h.1 m

@[simp] theorem State.showAlerts_ok (h : s.transactionsOk) (t : Tone) : (s.showAlerts n t).transactionsOk := by
  refine (State.updAlerts_unreported ?_ (fun h => h)).reported ?_
  · exact (State.display_ok t _).mpr h |>.unreportedOk n
  · simpa [Resolver.holds] using ((s.transactionsOk_iff.mp h) n).2

@[simp] theorem State.finishShow_ok (h : s.transactionsOk) (t : Tone) : (s.finishShow n t).transactionsOk := by
  simp only [State.finishShow]
  split <;> simp [h]

@[simp] theorem State.settleAlerts_ok (h : s.unreportedOk n) : (s.settleAlerts n).transactionsOk :=
  State.finishShow_ok (State.reportHold_ok (State.resolve_unreported h 8)) _

@[simp] theorem State.requestLevel_ok (h : s.transactionsOk) (l : Level) (i : Nat) (o : Option Origin) :
    (s.requestLevel n l i o).transactionsOk :=
  State.settleAlerts_ok (State.updAlerts_unreported (h.unreportedOk n) fun hr => hr.request l i o)

@[simp] theorem State.withdrawLevel_ok (h : s.transactionsOk) (l : Level) : (s.withdrawLevel n l).transactionsOk := by
  simp only [State.withdrawLevel]
  split
  · exact State.settleAlerts_ok (State.updAlerts_unreported (h.unreportedOk n) fun hr => hr.withdraw l)
  · exact h

@[simp] theorem State.applyStaged_ok (h : s.transactionsOk) : (s.applyStaged n).transactionsOk := by
  simp only [State.applyStaged]
  split
  · exact State.settleAlerts_ok (State.updAlerts_unreported (h.unreportedOk n) fun hr => hr.configure _)
  · exact h

@[simp] theorem State.badgeJournalFull_ok (h : s.transactionsOk) : (s.badgeJournalFull n).transactionsOk := by
  refine State.finishShow_ok ((State.updAlerts_unreported ?_ (fun h => h)).reported ?_) _
  · exact ((State.display_ok _ _).mpr h).unreportedOk n
  · simpa [Resolver.holds] using ((s.transactionsOk_iff.mp h) n).2

/-! ### Refusals and grants -/

@[simp] theorem State.journalFull_ok (h : s.transactionsOk) : (s.journalFull n).transactionsOk := by
  simp [State.journalFull, h]

@[simp] theorem State.refuseFull_ok (h : s.transactionsOk) (i : Nat) : (s.refuseFull n i).transactionsOk := by
  simp [State.refuseFull, Item.refused, Item.settled, h]

@[simp] theorem State.refuseItem_ok (h : s.transactionsOk) (i : Nat) (r : Reason) (d : DecidedBy) :
    (s.refuseItem n i r d).transactionsOk := by
  simp only [State.refuseItem]
  split <;> simp [Item.refused, Item.settled, h]

@[simp] theorem State.refuseSilently_ok (h : s.transactionsOk) (i : Nat) : (s.refuseSilently n i).transactionsOk := by
  simp [State.refuseSilently, Item.refused, Item.settled, h]

@[simp] theorem State.noteLoan_ok (h : s.transactionsOk) (d : DecidedBy) (u : Bool) (l : PendingLoan) :
    (s.noteLoan d u l).transactionsOk := by
  simp only [State.noteLoan]
  repeat' split
  all_goals exact h

@[simp] theorem State.itemFound_ok (h : s.transactionsOk) (x : Item) : (s.itemFound n x).transactionsOk := by
  simp [State.itemFound, h]

@[simp] theorem State.grantException_ok (h : s.transactionsOk) (x : Item) (b : Nat) :
    (s.grantException n x b).transactionsOk := by
  simp only [State.grantException]
  repeat' split
  all_goals simp [h]

@[simp] theorem State.postLoan_ok (h : s.transactionsOk) (f : Nat → Nat) : (s.postLoan n f).transactionsOk := by
  simp only [State.postLoan]
  split
  · exact h
  · split
    · exact h
    · refine State.updCtx_ok h fun hc => hc.change rfl (fun ht => ht) fun hd => ?_
      rw [hd]
      rfl

/-- The entries of a list keep their numbers while a record is written. -/
theorem State.writeStation_entry (s : State) (n : StationNo) (r : Record) (i : Nat) :
    (s.writeStation n r).2.entry n i = s.entry n i := by
  have hw : ((s.write { r with flags := r.flags.union (s.st n).ctx.stationFlags }).2.st n).ctx.items =
      (s.st n).ctx.items := by
    rw [Ctx.eq_of_unalarmed (State.write_parts s n _).2.2.2.2]
  simp only [State.entry, State.writeStation]
  split <;> rename_i heq <;> rw [← snd_of_eq heq] at hw
  · split
    · simp only [State.updCtx_same]
      split <;> exact congrArg (·[i]?) hw
    · exact congrArg (·[i]?) hw
  · exact congrArg (·[i]?) hw

@[simp] theorem State.grantWith_ok (h : s.transactionsOk) {i : Nat} {x : Item} (hx : s.entry n i = some x) (b : Nat)
    (c : Calendar) (index : Nat) (r : Rule) (d : DecidedBy) (offline atOnce : Bool) :
    (s.grantWith n i x b c index r d offline atOnce).transactionsOk := by
  simp only [State.grantWith]
  split <;> rename_i t heq <;> rw [snd_of_eq heq]
  · exact State.refuseFull_ok (State.writeStation_ok (by exact h) _) _
  · simp only [State.tone_ok, State.updTallies_ok]
    refine State.grantException_ok (State.noteLoan_ok (State.postLoan_ok (State.updItem_ok
      (State.writeStation_ok (by exact h) _) fun y hy => ?_) _) _ _ _) _ _
    rw [State.writeStation_entry] at hy
    have hy' : s.entry n i = some y := hy
    simp only [hx, Option.some.injEq] at hy'
    simp [hy', Item.settled]

@[simp] theorem State.grant_ok (h : s.transactionsOk) (i : Nat) (d : DecidedBy) (offline atOnce : Bool) :
    (s.grant n i d offline atOnce).transactionsOk := by
  simp only [State.grant]
  repeat' split
  all_goals simp_all

@[simp] theorem State.replaceClass_ok (h : s.transactionsOk) (i : Nat) (k : Option Nat) :
    (s.replaceClass n i k).transactionsOk := by
  simp only [State.replaceClass]
  split <;> simp [h]

/-! ### Discharges -/

@[simp] theorem State.postDischarge_ok (h : s.transactionsOk) (b : Option Nat) (f : Option FineResult) :
    (s.postDischarge b f).1.transactionsOk :=
  (State.transactionsOk_congr (by simp)).mpr h

@[simp] theorem State.discharge_ok (h : s.transactionsOk) (i : Nat) (d : Discharge) :
    (s.discharge n i d).transactionsOk := by
  simp only [State.discharge]
  split
  · exact h
  · split <;> rename_i heq <;> rw [snd_of_eq heq]
    · simp [h]
    · refine (State.tone_ok _).mpr ((State.updTallies_ok _).mpr (State.updItem_kind_ok ?_ fun x => ⟨rfl, nofun⟩))
      simp [h]

@[simp] theorem State.dischargeLoan_ok (h : s.transactionsOk) (i : Nat) (l : PendingLoan) :
    (s.dischargeLoan n i l).transactionsOk := by
  simp only [State.dischargeLoan]
  repeat' split
  all_goals simp [h]

@[simp] theorem State.dischargeOnLoan_ok (h : s.transactionsOk) (i : Nat) (o : OnLoan) :
    (s.dischargeOnLoan n i o).transactionsOk := by
  simp only [State.dischargeOnLoan]
  repeat' split
  all_goals simp [h]

/-! ### Outcomes and decisions -/

@[simp] theorem State.applyOutcome_ok (h : s.transactionsOk) (i : Nat) (o : ItemOutcome) :
    (s.applyOutcome n i o).transactionsOk := by
  simp only [State.applyOutcome, State.applyCharge, State.applyDischarge]
  repeat' split
  all_goals simp [h]

@[simp] theorem State.takeOutcome_ok (h : s.transactionsOk) (i : Nat) (o : ItemOutcome) :
    (s.takeOutcome n i o).transactionsOk := by
  simp only [State.takeOutcome]
  split <;> simp [h]

@[simp] theorem State.applyParked_ok (h : s.transactionsOk) : (s.applyParked n).transactionsOk := by
  simp only [State.applyParked]
  refine foldl_ok (fun s i h => ?_) _ h
  repeat' split
  all_goals simp [h]

@[simp] theorem State.awaitReply_ok (h : s.transactionsOk) (i : Nat) (k : Tag × Nat) :
    (s.awaitReply n i k).transactionsOk := by
  simp [State.awaitReply, h]

@[simp] theorem State.decideCharge_ok (h : s.transactionsOk) (i : Nat) : (s.decideCharge n i).transactionsOk := by
  simp only [State.decideCharge]
  split
  · exact h
  · split
    · simp [h]
    · split <;> rename_i heq <;> rw [snd_of_eq heq] <;> simp [h]

@[simp] theorem State.decideDischarge_ok (h : s.transactionsOk) (i : Nat) : (s.decideDischarge n i).transactionsOk := by
  simp only [State.decideDischarge]
  split
  · exact h
  · split
    · simp [h]
    · split
      · simp [h]
      · split <;> rename_i heq <;> rw [snd_of_eq heq] <;> simp [h]

/-- R19: a context that is not IDLE may change all but its list. -/
theorem State.updCtx_busy_ok {f : Ctx → Ctx} (h : s.transactionsOk) (hi : (f (s.st n).ctx).items = (s.st n).ctx.items)
    (ht : (f (s.st n).ctx).tx ≠ .idle) : (s.updCtx n f).transactionsOk :=
  State.updCtx_ok h fun hc => hc.busy hi ht

theorem State.checkLimit_ok (h : s.transactionsOk) (ht : (s.st n).ctx.tx ≠ .idle) (i : Nat) :
    (s.checkLimit n i).transactionsOk := by
  have hm := State.updCtx_busy_ok (f := fun c => { c with maskedReason := true }) h rfl ht
  simp only [State.checkLimit]
  repeat' split
  all_goals simp [h, hm]

theorem State.checkCharge_ok (h : s.transactionsOk) (ht : (s.st n).ctx.tx ≠ .idle) (i : Nat) :
    (s.checkCharge n i).transactionsOk := by
  have hl := State.checkLimit_ok h ht i
  simp only [State.checkCharge]
  repeat' split
  all_goals simp [h, hl]

theorem State.startTimer_ok (h : s.transactionsOk) (ht : (s.st n).ctx.tx ≠ .idle) : (s.startTimer n).transactionsOk :=
  State.updCtx_busy_ok h rfl ht

theorem State.addEntry_ok (h : s.transactionsOk) (ht : (s.st n).ctx.tx ≠ .idle) (hl : (s.st n).ctx.items.length < 12)
    (ha : (s.st n).ctx.awaiting < 4) {x : Item} (hx : (s.st n).ctx.holdsItem x.number = false) :
    (s.addEntry n x).transactionsOk := by
  refine State.startTimer_ok (State.updCtx_ok h fun hc => hc.join ht hl ha hx) ?_
  simpa using ht

/-- R33: a discharge entry that joins a list with room. -/
theorem State.dischargeNew_ok (h : s.transactionsOk) (ht : (s.st n).ctx.tx ≠ .idle)
    (hl : (s.st n).ctx.items.length < 12) (ha : (s.st n).ctx.awaiting < 4) {k : Nat}
    (hx : (s.st n).ctx.holdsItem k = false) (cls : Nat) (c : Bool) : (s.dischargeNew n k cls c).transactionsOk := by
  have hadd (x : Item) (hk : x.number = k) : (s.addEntry n x).transactionsOk :=
    State.addEntry_ok h ht hl ha (hk ▸ hx)
  simp only [State.dischargeNew]
  split
  · exact State.requestLevel_ok (State.decideDischarge_ok (hadd _ rfl) _) _ _ _
  · have hd : ((s.addEntry n (.new k cls c)).dropException k).transactionsOk := hadd _ rfl
    exact State.requestLevel_ok (State.decideDischarge_ok (State.itemFound_ok hd _) _) _ _ _
  · exact State.decideDischarge_ok (hadd _ rfl) _

/-! ### The borrower check -/

@[simp] theorem State.endRefused_ok (h : s.transactionsOk) : (s.endRefused n).transactionsOk :=
  State.updCtx_ok ((State.updSlips_ok _).mpr h) fun _ => Ctx.cleared_sound _

@[simp] theorem State.refuseBorrower_ok (h : s.transactionsOk) (r : Reason) (d : DecidedBy) :
    (s.refuseBorrower n r d).transactionsOk := by
  simp [State.refuseBorrower, h]

@[simp] theorem State.refuseBorrowerSilently_ok (h : s.transactionsOk) : (s.refuseBorrowerSilently n).transactionsOk := by
  simp [State.refuseBorrowerSilently, h]

@[simp] theorem State.refuseBorrowerFull_ok (h : s.transactionsOk) : (s.refuseBorrowerFull n).transactionsOk := by
  simp [State.refuseBorrowerFull, h]

@[simp] theorem State.enterOpen_ok (h : s.transactionsOk) : (s.enterOpen n).transactionsOk := by
  simp only [State.enterOpen]
  split
  · rename_i ht
    refine State.startTimer_ok (State.updCtx_busy_ok h rfl ?_) ?_ <;> simp [ht]
  · rw [State.tone_ok]
    refine State.startTimer_ok (State.updCtx_busy_ok h rfl ?_) ?_ <;> simp

theorem State.acceptBorrower_ok (h : s.transactionsOk) (ht : (s.st n).ctx.tx ≠ .idle) (e : Borrower) :
    (s.acceptBorrower n e).transactionsOk := by
  simp only [State.acceptBorrower]
  generalize (State.reasons s e).filter _ = counted
  have hu (masked : Bool) := State.updCtx_busy_ok (n := n) (f := fun c => { c with
    lookup := none, maskedReason := c.maskedReason || masked, outstanding := counted }) h rfl ht
  split
  · exact State.enterOpen_ok (hu _)
  · exact foldl_ok (fun _ _ h => State.requestLevel_ok h _ _ _) _ (hu _)

theorem State.acceptEntry_ok (h : s.transactionsOk) (ht : (s.st n).ctx.tx ≠ .idle) (e : Borrower) :
    (s.acceptEntry n e).transactionsOk := by
  simp only [State.acceptEntry]
  split
  · exact State.acceptBorrower_ok (s := s.touch e.number) h ht e
  · exact State.acceptBorrower_ok h ht e

theorem State.acceptUntracked_ok (h : s.transactionsOk) (ht : (s.st n).ctx.tx ≠ .idle) (e : Borrower) :
    (s.acceptUntracked n e).transactionsOk :=
  State.acceptBorrower_ok (State.updCtx_busy_ok h rfl ht) (by simpa using ht) e

/-- A change of every station's context. -/
theorem State.mapCtx_ok (h : s.transactionsOk) {f : Ctx → Ctx} (hf : ∀ c : Ctx, c.Sound → (f c).Sound) :
    (s.mapCtx f).transactionsOk := by
  rw [State.transactionsOk_iff] at h ⊢
  intro m
  simpa [Station.sound] using ⟨⟨hf _ (h m).1.1, (h m).1.2⟩, (h m).2⟩

theorem Ctx.track_sound {c : Ctx} (h : c.Sound) (b : Nat) : (c.track b).Sound := by
  simp only [Ctx.track]
  split
  · rename_i hc
    simp only [Ctx.chargesFor, Bool.and_eq_true, decide_eq_true_eq] at hc
    exact h.busy rfl hc.1.1.2
  · exact h

theorem Ctx.untrack_sound {c : Ctx} (h : c.Sound) (e : Borrower) : (c.untrack e).Sound := by
  simp only [Ctx.untrack]
  split
  · rename_i hc
    simp only [Ctx.chargesFor, Bool.and_eq_true, decide_eq_true_eq] at hc
    exact h.busy rfl hc.1.1.2
  · exact h

@[simp] theorem Ctx.track_tx (c : Ctx) (b : Nat) : (c.track b).tx = c.tx := by
  simp only [Ctx.track]
  split <;> rfl

/-- R49, R51, R59: the creation of an entry reaches the stations only where they become TRACKED. -/
theorem State.createBorrower_st {e : Borrower} {t : State} (h : s.createBorrower e = some t) (m : StationNo) :
    t.st m = { s.st m with ctx := (s.st m).ctx.track e.number } := by
  simp only [State.createBorrower] at h
  rcases s.makeRoom_cases with ⟨hr, -⟩ | ⟨b, -, hr, -⟩ | ⟨-, hr, -⟩ <;> rw [hr] at h
  · cases h
    split <;> simp
  · cases h
    split <;> simp
  · cases h

theorem State.createBorrower_ok {e : Borrower} {t : State} (h : s.transactionsOk) (ht : s.createBorrower e = some t) :
    t.transactionsOk := by
  rw [State.transactionsOk_congr (s := s.mapCtx fun c => c.track e.number)
    fun m => by simp [State.createBorrower_st ht m]]
  exact State.mapCtx_ok h fun c hc => Ctx.track_sound hc _

theorem State.decideStranger_ok (h : s.transactionsOk) (ht : (s.st n).ctx.tx ≠ .idle) (b : Nat) (d : DecidedBy) :
    (s.decideStranger n b d).transactionsOk := by
  simp only [State.decideStranger]
  split
  · simp [h]
  · split <;> rename_i heq <;> rw [snd_of_eq heq]
    · simp [h]
    · split
      · rename_i t hc
        split at hc
        · refine State.acceptBorrower_ok (State.createBorrower_ok (State.writeStation_ok h _) hc) ?_ _
          simpa [State.createBorrower_st hc] using ht
        · cases hc
      · exact State.acceptUntracked_ok (State.writeStation_ok h _) (by simpa using ht) _

theorem State.checkWithout_ok (h : s.transactionsOk) (ht : (s.st n).ctx.tx ≠ .idle) (b : Nat) (d : DecidedBy) :
    (s.checkWithout n b d).transactionsOk := by
  simp only [State.checkWithout]
  split
  · exact State.acceptEntry_ok h ht _
  · exact State.decideStranger_ok h ht _ _

theorem State.askLookup_ok (h : s.transactionsOk) (ht : (s.st n).ctx.tx ≠ .idle) (b : Nat) :
    (s.askLookup n b).transactionsOk := by
  simp only [State.askLookup]
  split <;> rename_i heq <;> rw [snd_of_eq heq]
  · exact State.updCtx_busy_ok ((State.ask_ok _ _).mpr h) rfl (by simpa using ht)
  · exact State.checkWithout_ok ((State.ask_ok _ _).mpr h) (by simpa using ht) _ _

theorem State.startCheck_ok (h : s.transactionsOk) (ht : (s.st n).ctx.tx ≠ .idle) (b : Nat) :
    (s.startCheck n b).transactionsOk := by
  simp only [State.startCheck]
  repeat' split
  · exact State.checkWithout_ok h ht _ _
  · exact State.acceptEntry_ok h ht _
  · exact State.askLookup_ok h ht _
  · exact State.askLookup_ok h ht _

/-- R54, R56: a FOUND reply reaches the stations only where they become TRACKED. -/
theorem State.takeFound_ok (h : s.transactionsOk) (b : Nat) (f : Found) :
    (s.takeFound b f).transactionsOk ∧ ∀ m, ((s.takeFound b f).st m).ctx.tx = (s.st m).ctx.tx := by
  simp only [State.takeFound]
  split
  · split
    · exact ⟨h, fun _ => rfl⟩
    · exact ⟨h, fun _ => rfl⟩
  · cases hc : s.createBorrower (s.learned b f) with
    | none => exact ⟨h, fun _ => rfl⟩
    | some t => exact ⟨State.createBorrower_ok h hc, fun m => by simp [State.createBorrower_st hc]⟩

theorem State.checkFound_ok (h : s.transactionsOk) (ht : (s.st n).ctx.tx ≠ .idle) (b : Nat) (f : Found) :
    (s.checkFound n b f).transactionsOk := by
  obtain ⟨hf, htx⟩ := State.takeFound_ok h b f
  simp only [State.checkFound]
  split
  · exact State.acceptEntry_ok hf (by simpa [htx] using ht) _
  · exact State.acceptUntracked_ok hf (by simpa [htx] using ht) _

theorem State.checkUnknown_ok (h : s.transactionsOk) (ht : (s.st n).ctx.tx ≠ .idle) (b : Nat) :
    (s.checkUnknown n b).transactionsOk := by
  simp only [State.checkUnknown]
  repeat' split
  · exact State.acceptEntry_ok h ht _
  · simp [h]
  · simp [h]

end
end Sys2Proof.Machine
end

section
/-! SUPPORT. What the desk, the circulation service, the upload and the management unit keep of the transactions (R19,
R20, R41, R134, R139), and so every step. -/

namespace Sys2Proof.Machine

section
variable {s : State} {n : StationNo}

/-! ### Opening in IDLE -/

@[simp] theorem State.borrowerInIdle_ok (h : s.transactionsOk) (b : Nat) : (s.borrowerInIdle n b).transactionsOk := by
  simp only [State.borrowerInIdle]
  repeat' split
  · simp [h]
  · simp [h]
  · simp [h]
  · refine State.applyStaged_ok (State.startCheck_ok ((State.tone_ok _).mpr (State.updCtx_busy_ok ?_ rfl ?_)) ?_ b)
    all_goals simp [h]

theorem State.openRun_ctx (s : State) (n : StationNo) (t : Tone) :
    ((s.openRun n t).st n).ctx.tx = .returns ∧ ((s.openRun n t).st n).ctx.items = (s.st n).ctx.items := by
  simp [State.openRun, State.startTimer, Ctx.startTimer]

@[simp] theorem State.openRun_ok (h : s.transactionsOk) (t : Tone) : (s.openRun n t).transactionsOk := by
  refine (State.tone_ok _).mpr (State.startTimer_ok (State.updCtx_busy_ok ?_ ?_ ?_) ?_) <;> simp [h]

theorem State.itemInIdle_ok (h : s.transactionsOk) (ht : (s.st n).ctx.tx = .idle) (k cls : Nat) (c : Bool) :
    (s.itemInIdle n k cls c).transactionsOk := by
  simp only [State.itemInIdle]
  split
  · simp [h]
  · have hi : (s.st n).ctx.items = [] := by rw [h.idle ht]; rfl
    obtain ⟨htx, hitems⟩ := s.openRun_ctx n .none
    refine State.dischargeNew_ok (State.openRun_ok h _) ?_ ?_ ?_ ?_ _ _ <;>
      simp [htx, hitems, hi, Ctx.awaiting, Ctx.inState, Ctx.holdsItem]

theorem State.takeNext_ok (h : s.transactionsOk) (ht : (s.st n).ctx.tx = .idle) (a : NextAction) :
    (s.takeNext n a).transactionsOk := by
  cases a with
  | none => exact h
  | borrower b => exact State.borrowerInIdle_ok h b
  | item k cls c => exact State.itemInIdle_ok h ht k cls c
  | ret => exact State.openRun_ok h _

/-! ### Closing -/

@[simp] theorem State.feed_ok : (s.feed n).transactionsOk ↔ s.transactionsOk := State.transactionsOk_congr (by simp)

@[simp] theorem State.withdrawBlocks_ok (h : s.transactionsOk) : (s.withdrawBlocks n).transactionsOk :=
  foldl_ok (fun _ l h => State.withdrawLevel_ok h l) _ h

theorem State.completeClose_ok (h : s.transactionsOk) : (s.completeClose n).transactionsOk := by
  have hs : ((s.withdrawBlocks n).settleSlip n).transactionsOk :=
    (State.transactionsOk_congr (s := s.withdrawBlocks n) (by simp)).mpr (State.withdrawBlocks_ok h)
  refine State.takeNext_ok (State.applyStaged_ok ((State.tone_ok _).mpr
    (State.updCtx_ok hs fun _ => Ctx.cleared_sound _))) ?_ _
  rw [State.applyStaged_cleared] <;> simp

/-- R39, R42: the timer stops. -/
theorem State.stopTimer_ok (h : s.transactionsOk) : (s.updCtx n fun c => { c with timer := .stopped }).transactionsOk :=
  State.updCtx_ok h fun hc => hc.change rfl (fun ht => ht) fun hd => by rw [hd]; rfl

@[simp] theorem State.close_ok (h : s.transactionsOk) : (s.close n).transactionsOk := by
  have ht := State.stopTimer_ok (n := n) h
  simp only [State.close]
  split
  · exact State.completeClose_ok ht
  · exact (State.tone_ok _).mpr (State.updCtx_busy_ok ht rfl (by simp))

@[simp] theorem State.closeIfDone_ok (h : s.transactionsOk) : (s.closeIfDone n).transactionsOk := by
  simp only [State.closeIfDone]
  split
  · exact State.completeClose_ok h
  · exact h

/-! ### Events of the resolver -/

/-- R137 to R139: an event of the resolver reports the hold condition, and what follows keeps the invariant. -/
theorem State.endEvent_ok (h : s.unreportedOk n) (tone : Tone) {endings : State → State}
    (he : ∀ t : State, t.transactionsOk → (endings t).transactionsOk) : (s.endEvent n tone endings).transactionsOk := by
  have hr : ((State.resolve n 8 s).reportHold n).transactionsOk := State.reportHold_ok (State.resolve_unreported h 8)
  simp only [State.endEvent]
  refine State.closeIfDone_ok (State.finishShow_ok (he _ ?_) _)
  split
  · exact State.applyParked_ok hr
  · exact hr

/-- A change of the sets that keeps them apart, and the event that it begins. -/
theorem State.endEvent_alerts_ok (h : s.transactionsOk) (tone : Tone) {f : Resolver → Resolver}
    (hf : ∀ r : Resolver, r.apart → (f r).apart) {endings : State → State}
    (he : ∀ t : State, t.transactionsOk → (endings t).transactionsOk) :
    ((s.updAlerts n f).endEvent n tone endings).transactionsOk :=
  State.endEvent_ok (State.updAlerts_unreported (h.unreportedOk n) (hf _)) tone he

theorem id_ok (t : State) (h : t.transactionsOk) : (id t).transactionsOk := h

@[simp] theorem State.faultEvent_ok (h : s.transactionsOk) (before : Bool) (tone : Tone) :
    (s.faultEvent n before tone).transactionsOk := by
  simp only [State.faultEvent]
  repeat' split
  · exact State.endEvent_alerts_ok h _ (fun r hr => hr.request _ _ _) id_ok
  · exact State.endEvent_alerts_ok h _ (fun r hr => hr.withdraw _) id_ok
  · exact State.endEvent_ok (h.unreportedOk n) _ id_ok

@[simp] theorem State.borrowerEnding_ok (h : s.transactionsOk) (l : Level) : (s.borrowerEnding n l).transactionsOk := by
  simp only [State.borrowerEnding]
  split <;> simp [h]

@[simp] theorem State.acknowledge_ok (h : s.transactionsOk) : (s.acknowledge n).transactionsOk := by
  have leaves (l : Level) (t : Tone) {u : State} (hu : u.transactionsOk) :
      ((u.updAlerts n fun r => r.leave l).endEvent n t id).transactionsOk :=
    State.endEvent_alerts_ok hu t (fun r hr => hr.leave l) id_ok
  simp only [State.acknowledge]
  split
  · simp [h]
  · simp [h]
  · exact leaves _ _ h
  · exact leaves _ _ h
  · split
    · exact State.applyStaged_ok (State.endEvent_alerts_ok (State.borrowerEnding_ok h _) _
        (fun r hr => (hr.leave _).sweepBlocks _) id_ok)
    · exact leaves _ _ (foldl_ok (fun _ i h => State.refuseItem_ok h i _ _) _ h)

theorem State.overrideEnding_ok (l : Level) (b : Bool) (h : s.transactionsOk) :
    (State.overrideEnding n l b s).transactionsOk := by
  have hu (r : BlockReason) :
      (s.updCtx n fun c => { c with outstanding := c.outstanding.filter (· != r) }).transactionsOk :=
    State.updCtx_ok h fun hc => hc.change rfl (fun ht => ht) fun hd => by rw [hd]; rfl
  simp only [State.overrideEnding]
  repeat' split
  · exact h
  · exact State.enterOpen_ok (hu _)
  · exact hu _
  · exact foldl_ok (fun _ i h => State.decideCharge_ok h i) _ h

@[simp] theorem State.takeBadge_ok (h : s.transactionsOk) (k : Nat) : (s.takeBadge n k).transactionsOk := by
  simp only [State.takeBadge]
  split
  · simp [h]
  · split
    · simp [h]
    · split <;> rename_i heq <;> rw [snd_of_eq heq]
      · simp [h]
      · refine State.endEvent_alerts_ok ?_ _ (fun r hr => hr.leave _) fun _ ht => State.overrideEnding_ok _ _ ht
        simp [h]

@[simp] theorem State.clearLevel_ok (h : s.transactionsOk) (l : Level) : (s.clearLevel n l).transactionsOk := by
  simp only [State.clearLevel]
  split
  · refine State.endEvent_alerts_ok h _ (fun r hr => ?_) id_ok
    split
    · exact hr.rejoin
    · exact hr.withdraw _
  · exact State.endEvent_alerts_ok h _ (fun r hr => hr.withdraw _) id_ok
  · exact State.endEvent_alerts_ok h _ (fun r hr => hr.withdraw _) id_ok
  · split
    · refine State.applyStaged_ok (State.endEvent_alerts_ok ?_ _ (fun r hr => (hr.withdraw _).sweepBlocks _) id_ok)
      split <;> simp [h]
    · exact State.endEvent_alerts_ok (foldl_ok (fun _ i h => State.refuseSilently_ok h i) _ h) _
        (fun r hr => hr.withdraw _) id_ok

@[simp] theorem State.withdrawItemLimit_ok (h : s.transactionsOk) : (s.withdrawItemLimit n).transactionsOk := by
  simp only [State.withdrawItemLimit]
  split
  · exact State.endEvent_alerts_ok h _ (fun r hr => hr.withdraw _) id_ok
  · exact h

/-! ### Force-close -/

theorem State.withdrawResolved_unreported (h : s.unreportedOk n) (l : Level) :
    (s.withdrawResolved n l).unreportedOk n := by
  simp only [State.withdrawResolved]
  split
  · exact State.resolve_unreported (State.updAlerts_unreported h fun hr => hr.withdraw l) 8
  · exact h

/-- R46: a force-close leaves the hold condition to the resolver's event that follows. -/
theorem State.forceClose_unreported (h : s.transactionsOk) (counted : Bool) :
    (s.forceClose n counted).unreportedOk n := by
  have cleared {t : State} (ht : t.unreportedOk n) : (t.updCtx n Ctx.cleared).unreportedOk n := by
    refine ⟨fun m => ?_, fun m hm => by simpa [hm] using ht.2 m hm⟩
    by_cases hm : m = n
    · subst hm
      simpa [Station.sound] using ⟨Ctx.cleared_sound _, (ht.1 m).2⟩
    · simpa [hm] using ht.1 m
  have voided : (s.voidQueries n).transactionsOk := (State.transactionsOk_congr (by simp)).mpr h
  simp only [State.forceClose]
  split
  · exact h.unreportedOk n
  · have toned {t : State} (ht : t.unreportedOk n) : (t.tone n .none).unreportedOk n :=
      (State.unreportedOk_congr (by simp)).mpr ht
    refine toned (cleared (foldl_preserves (P := fun t : State => t.unreportedOk n)
      (fun _ l ht => State.withdrawResolved_unreported ht l) _ (State.transactionsOk.unreportedOk ?_ n)))
    split <;> simp [voided]

theorem State.emptyAlerts_ok (h : s.unreportedOk n) (fault : Bool) : (s.emptyAlerts n fault).transactionsOk := by
  refine State.endEvent_ok (State.updAlerts_unreported h fun _ => ?_) _ id_ok
  dsimp only
  split
  · exact Resolver.apart.configure (Resolver.apart_emptied _ _) _
  · exact Resolver.apart_emptied _ _

@[simp] theorem State.loseHead_ok (h : s.transactionsOk) : (s.loseHead n).transactionsOk :=
  State.emptyAlerts_ok ((State.unreportedOk_congr (by simp)).mpr (State.forceClose_unreported h true)) true

/-! ### Desk lines -/

@[simp] theorem State.setPrinter_ok (p : Printer) : (s.setPrinter n p).transactionsOk ↔ s.transactionsOk := by
  refine State.transactionsOk_congr fun m => ?_
  simp only [State.setPrinter]
  split <;> simp

@[simp] theorem State.enterCheck_ok (h : s.transactionsOk) : (s.enterCheck n).transactionsOk := by
  simp only [State.enterCheck]
  split <;> simp [h]

@[simp] theorem State.wake_ok (h : s.transactionsOk) : (s.wake n).transactionsOk := by
  simp only [State.wake]
  split <;> simp [h]

@[simp] theorem State.fallSilent_ok (h : s.transactionsOk) : (s.fallSilent n).transactionsOk := by
  simp only [State.fallSilent]
  split <;> simp [h]

@[simp] theorem State.noteQuality_ok (h : s.transactionsOk) (q : Quality) : (s.noteQuality n q).transactionsOk := by
  simp only [State.noteQuality]
  split <;> simp [h]

@[simp] theorem State.tallyBadScan_ok : (s.tallyBadScan n).transactionsOk ↔ s.transactionsOk :=
  State.updTallies_ok _

@[simp] theorem State.scanInCheck_ok (h : s.transactionsOk) (o : ScanOutcome) : (s.scanInCheck n o).transactionsOk := by
  simp only [State.scanInCheck]
  repeat' split
  all_goals simp [h]

/-- R39, R40: a next action is held while the transaction goes on. -/
theorem State.holdNext_ok (h : s.transactionsOk) (ht : (s.st n).ctx.tx ≠ .idle) (a : NextAction) :
    (s.updCtx n fun c => { c with next := a }).transactionsOk :=
  State.updCtx_busy_ok h rfl ht

theorem State.closeFor_ok (h : s.transactionsOk) (ht : (s.st n).ctx.tx ≠ .idle) (a : NextAction) :
    (s.closeFor n a).transactionsOk :=
  State.close_ok (State.holdNext_ok h ht a)

@[simp] theorem State.borrowerScan_ok (h : s.transactionsOk) (b : Nat) : (s.borrowerScan n b).transactionsOk := by
  simp only [State.borrowerScan]
  split
  · simp [h]
  · simp [h]
  · simp [h]
  all_goals rename_i ht
  · split
    · simp [h]
    · exact State.closeFor_ok h (by simp [ht]) _
  · split
    · simp [h]
    · exact State.closeFor_ok h (by simp [ht]) _
  · exact (State.tone_ok _).mpr (State.holdNext_ok h (by simp [ht]) _)

@[simp] theorem State.refuseListFull_ok (h : s.transactionsOk) (k : Nat) : (s.refuseListFull n k).transactionsOk := by
  simp [State.refuseListFull, h]

theorem State.itemInOpen_ok (h : s.transactionsOk) (ht : (s.st n).ctx.tx ≠ .idle) (k cls : Nat) (c : Bool) :
    (s.itemInOpen n k cls c).transactionsOk := by
  simp only [State.itemInOpen]
  split
  · simp [h]
  · rename_i hheld
    split
    · simp [h]
    · split
      · simp [h]
      · rename_i hlen
        split
        · simp [h]
        · rename_i hfew
          refine State.checkCharge_ok (State.addEntry_ok h ht (by simpa [Config.maxItems] using hlen)
            (by simpa [Config.maxAwaiting] using hfew) ?_) ?_ _
          · simpa [Item.new] using hheld
          · simpa using ht

theorem State.itemInReturns_ok (h : s.transactionsOk) (ht : (s.st n).ctx.tx ≠ .idle) (k cls : Nat) (c : Bool) :
    (s.itemInReturns n k cls c).transactionsOk := by
  simp only [State.itemInReturns]
  split
  · simp [h]
  · rename_i hheld
    split
    · simp [h]
    · split
      · exact State.closeFor_ok h ht _
      · rename_i hlen
        split
        · simp [h]
        · rename_i hfew
          exact State.dischargeNew_ok h ht (by simpa [Config.maxItems] using hlen)
            (by simpa [Config.maxAwaiting] using hfew) (by simpa using hheld) _ _

@[simp] theorem State.itemScan_ok (h : s.transactionsOk) (k cls : Nat) (c : Bool) :
    (s.itemScan n k cls c).transactionsOk := by
  simp only [State.itemScan]
  split
  · exact State.itemInIdle_ok h ‹_› _ _ _
  · simp [h]
  · simp [h]
  · rename_i ht
    exact State.itemInOpen_ok h (by simp [ht]) _ _ _
  · rename_i ht
    exact State.itemInReturns_ok h (by simp [ht]) _ _ _
  · simp [h]

@[simp] theorem State.scanInActive_ok (h : s.transactionsOk) (o : ScanOutcome) : (s.scanInActive n o).transactionsOk := by
  simp only [State.scanInActive]
  split <;> simp [h]

@[simp] theorem State.takeScan_ok (h : s.transactionsOk) (symbol : Text) : (s.takeScan n symbol).transactionsOk := by
  have hn : (((s.wake n).stick { classClamped := (classify symbol).clamped }).noteQuality n
      (classify symbol).quality).transactionsOk :=
    State.noteQuality_ok ((State.stick_ok _).mpr (State.wake_ok h)) _
  simp only [State.takeScan]
  split
  · exact State.scanInCheck_ok hn _
  · exact State.scanInActive_ok hn _
  · exact hn

@[simp] theorem State.chargeKey_ok (h : s.transactionsOk) : (s.chargeKey n).transactionsOk := by
  simp only [State.chargeKey]
  split <;> simp [h]

@[simp] theorem State.returnKey_ok (h : s.transactionsOk) : (s.returnKey n).transactionsOk := by
  simp only [State.returnKey]
  split
  · simp [h]
  · simp [h]
  · rename_i ht
    exact State.closeFor_ok h (by simp [ht]) _
  · rename_i ht
    exact (State.tone_ok _).mpr (State.holdNext_ok h (by simp [ht]) _)
  · simp [h]
  · simp [h]

@[simp] theorem State.voidGrant_ok (h : s.transactionsOk) (i : Nat) (x : Item) : (s.voidGrant n i x).transactionsOk := by
  simp only [State.voidGrant]
  split <;> rename_i heq <;> rw [snd_of_eq heq]
  · simp [h]
  · refine (State.tone_ok _).mpr ((State.updTallies_ok _).mpr (State.updItem_kind_ok ?_ fun x => ⟨rfl, nofun⟩))
    split <;> simp [h]

@[simp] theorem State.cancelLast_ok (h : s.transactionsOk) : (s.cancelLast n).transactionsOk := by
  simp only [State.cancelLast]
  repeat' split
  all_goals simp [h, Item.voided, Item.settled]

@[simp] theorem State.cancelKey_ok (h : s.transactionsOk) : (s.cancelKey n).transactionsOk := by
  simp only [State.cancelKey]
  split <;> simp [h]

@[simp] theorem State.takeKey_ok (h : s.transactionsOk) (k : Key) : (s.takeKey n k).transactionsOk := by
  have hk : ((s.wake n).keyInActive n k).transactionsOk := by cases k <;> simp [State.keyInActive, h]
  simp only [State.takeKey]
  split <;> simp [h, hk]

@[simp] theorem State.takePrinter_ok (h : s.transactionsOk) (p : Printer) : (s.takePrinter n p).transactionsOk := by
  simp only [State.takePrinter]
  split <;> simp [h]

@[simp] theorem State.takeLockKey_ok (h : s.transactionsOk) (on : Bool) : (s.takeLockKey n on).transactionsOk := by
  simp only [State.takeLockKey]
  split
  · exact h
  · exact State.lockChange_ok (fun _ => rfl) ((State.updLine_ok _).mpr h)

@[simp] theorem State.takeToken_ok (k : Option Nat) : (s.takeToken n k).transactionsOk ↔ s.transactionsOk := by
  refine State.transactionsOk_congr fun m => ?_
  simp only [State.takeToken]
  repeat' split
  all_goals simp

@[simp] theorem State.takeStatus_ok (h : s.transactionsOk) (r : HeadReport) : (s.takeStatus n r).transactionsOk := by
  simpa [State.takeStatus, State.checkSlip, State.takeCredit, State.noteToken] using
    State.takeLockKey_ok (State.takePrinter_ok (State.wake_ok h) r.printer) r.lockKey

@[simp] theorem State.holdExpired_ok (h : s.transactionsOk) : (s.holdExpired n).transactionsOk := by
  have hd : ∀ (t : State) (i : Fin 4), t.transactionsOk → (t.discardSlip n i).transactionsOk := by
    intro t i ht
    simp [State.discardSlip, ht]
  simp only [State.holdExpired, State.discardSlips]
  repeat' split
  all_goals try rw [State.feed_ok, State.updSlips_ok]
  · exact foldl_ok hd _ h
  · exact foldl_ok hd _ h
  · exact h
  · exact h

/-! ### Circulation service and clock -/

/-- The borrower check that holds a query is not over. -/
theorem State.checkedBy_busy (h : s.transactionsOk) {k : Tag × Nat} {b : Nat} (hk : s.checkedBy n k = some b) :
    (s.st n).ctx.tx ≠ .idle := by
  intro ht
  have hl : (s.st n).ctx.lookup = none := by rw [h.idle ht]; rfl
  simp [State.checkedBy, hl] at hk

@[simp] theorem State.handItem_ok (h : s.transactionsOk) (p : Nat) (k : Tag × Nat) (o : ItemOutcome) :
    (s.handItem n p k o).transactionsOk := by
  simp only [State.handItem]
  repeat' split
  all_goals simp [h]

@[simp] theorem State.handOutcome_ok (h : s.transactionsOk) (k : Tag × Nat) (q : Question) (o : ReplyOutcome) :
    (s.handOutcome k q o).transactionsOk := by
  simp only [State.handOutcome]
  repeat' split
  · exact State.applyStaged_ok (State.checkFound_ok h (State.checkedBy_busy h ‹_›) _ _)
  · exact h
  · exact State.applyStaged_ok (State.checkUnknown_ok h (State.checkedBy_busy h ‹_›) _)
  · exact h
  · simp [h]
  · exact h

@[simp] theorem State.conflict_ok (h : s.transactionsOk) (q : Question) (r : Record) : (s.conflict q r).transactionsOk := by
  simp [State.conflict, h]

@[simp] theorem State.compareLate_ok (h : s.transactionsOk) (q : Question) (d : LapseDecision) (o : ReplyOutcome) :
    (s.compareLate q d o).transactionsOk := by
  simp only [State.compareLate, State.compareFine]
  repeat' split
  all_goals simp [h]

/-- R123, R192: a change of the service state, with what it does to a run. -/
@[simp] theorem State.sealEarly_ok (h : s.transactionsOk) : s.sealEarly.transactionsOk :=
  State.settle_ok ((State.transactionsOk_stations (by simp)).mpr h)

@[simp] theorem State.nextBlock_ok : s.nextBlock.transactionsOk ↔ s.transactionsOk :=
  State.transactionsOk_stations (by simp)
@[simp] theorem State.sendBlock_ok (b : Block) (k : Nat) : (s.sendBlock b k).transactionsOk ↔ s.transactionsOk :=
  State.transactionsOk_stations (by simp)
@[simp] theorem State.pauseRun_ok : s.pauseRun.transactionsOk ↔ s.transactionsOk :=
  State.transactionsOk_stations (by simp)
@[simp] theorem State.endRun_ok (o : RunOutcome) : (s.endRun o).transactionsOk ↔ s.transactionsOk :=
  State.transactionsOk_stations (by simp)
@[simp] theorem State.newPass_ok : s.newPass.transactionsOk ↔ s.transactionsOk :=
  State.transactionsOk_stations (by simp)
@[simp] theorem State.updUpload_ok (f : Upload → Upload) : (s.updUpload f).transactionsOk ↔ s.transactionsOk := Iff.rfl
@[simp] theorem State.sendProbe_ok : s.sendProbe.transactionsOk ↔ s.transactionsOk :=
  State.transactionsOk_stations (by simp)

@[simp] theorem State.runSection_ok (h : s.transactionsOk) : s.runSection.transactionsOk := by
  rw [State.runSection, State.nextBlock_ok]
  simp only [State.beginSection]
  split <;> simp [h]

@[simp] theorem State.resumeRun_ok (h : s.transactionsOk) : s.resumeRun.transactionsOk := by
  simp only [State.resumeRun]
  repeat' split
  all_goals simp [h]

@[simp] theorem State.setServiceState_ok (h : s.transactionsOk) (v : ServiceState) : (s.setServiceState v).transactionsOk := by
  simp only [State.setServiceState, State.serviceToUpload]
  repeat' split
  all_goals simp [h]

@[simp] theorem State.matchedReply_ok (h : s.transactionsOk) : s.matchedReply.transactionsOk := by
  simp [State.matchedReply, h]

theorem State.whileLinkUp_ok {t : State} (hs : s.transactionsOk) (ht : t.transactionsOk) :
    (s.whileLinkUp t).transactionsOk :=
  State.whileLinkUp_keeps State.transactionsOk hs ht

@[simp] theorem State.takeReply_ok (h : s.transactionsOk) (m : ReplyMsg) : (s.takeReply m).transactionsOk := by
  have late (t : Tag) (q : Question) (d : LapseDecision) (o : ReplyOutcome) : (s.takeLate t q d o).transactionsOk := by
    have hc := State.compareLate_ok h q d o
    refine State.matchedReply_ok ((State.countService_ok _).mpr ((State.freeQuery_ok t).mpr ?_))
    cases o with
    | found f => exact (State.takeFound_ok hc q.target f).1
    | _ => exact hc
  simp only [State.takeReply]
  repeat' split
  · exact State.whileLinkUp_ok h (State.handOutcome_ok (State.matchedReply_ok ((State.freeQuery_ok _).mpr h)) _ _ _)
  · exact h
  · exact State.whileLinkUp_ok h (late _ _ _ _)
  all_goals exact h

@[simp] theorem State.countTimeout_ok (h : s.transactionsOk) : s.countTimeout.transactionsOk := by
  simp only [State.countTimeout, State.reviewTimeout]
  repeat' split
  all_goals simp [h]

@[simp] theorem State.handLapse_ok (h : s.transactionsOk) (k : Tag × Nat) (q : Question) :
    (s.handLapse k q).transactionsOk := by
  simp only [State.handLapse]
  repeat' split
  · exact State.applyStaged_ok (State.checkWithout_ok h (State.checkedBy_busy h ‹_›) _ _)
  · exact h
  · simp [h]
  · exact h

@[simp] theorem State.patienceExpired_ok (h : s.transactionsOk) (t : Tag) : (s.patienceExpired t).transactionsOk := by
  simp only [State.patienceExpired]
  split <;> simp [h]

@[simp] theorem State.lingerEnded_ok (h : s.transactionsOk) (t : Tag) : (s.lingerEnded t).transactionsOk := by
  simp only [State.lingerEnded]
  split <;> simp [h]

@[simp] theorem State.probeExpired_ok (h : s.transactionsOk) : s.probeExpired.transactionsOk := by
  simp only [State.probeExpired]
  split <;> simp [h]

@[simp] theorem State.probeAnswered_ok (h : s.transactionsOk) (g : Nat) : (s.probeAnswered g).transactionsOk := by
  simp only [State.probeAnswered, State.staleReply]
  split
  · exact State.whileLinkUp_ok h (by simp [h])
  · simp [h]

@[simp] theorem State.linkWentDown_ok (h : s.transactionsOk) : s.linkWentDown.transactionsOk := by
  simp only [State.linkWentDown]
  split <;> simp [h]

@[simp] theorem State.linkCameUp_ok (h : s.transactionsOk) : s.linkCameUp.transactionsOk := by
  have start (t : State) (ht : t.transactionsOk) : t.sendStartUp.transactionsOk := by
    simp only [State.sendStartUp]
    split
    · exact (State.notice_ok _).mpr ht
    · exact ht
  simp only [State.linkCameUp]
  repeat' split
  · exact h
  · exact start _ (by simp [h])
  · exact start _ (by simp [h])

theorem Ctx.Sound.second {t : Station} (h : t.ctx.Sound) : t.second.ctx.Sound :=
  h.change rfl (fun ht => ht) fun hc => by
    simp only [Station.second]
    rw [hc]
    rfl

theorem State.countSecond_ok (h : s.transactionsOk) : s.countSecond.transactionsOk := by
  rw [State.transactionsOk_iff] at h ⊢
  intro m
  rw [State.countSecond_st]
  exact ⟨⟨(h m).1.1.second, (h m).1.2⟩, (h m).2⟩

@[simp] theorem State.startRun_ok (h : s.transactionsOk) : s.startRun.transactionsOk := by
  simp only [State.startRun]
  split <;> simp [h]

@[simp] theorem State.minuteToUpload_ok (h : s.transactionsOk) : s.minuteToUpload.transactionsOk := by
  simp only [State.minuteToUpload]
  repeat' split
  all_goals simp [h]

@[simp] theorem State.tick_ok (h : s.transactionsOk) : s.tick.transactionsOk := by
  have hc := State.countSecond_ok h
  simp only [State.tick, State.rollMinute]
  repeat' split
  · exact hc
  · exact State.minuteToUpload_ok (by exact hc)
  · exact State.minuteToUpload_ok (by exact hc)
  · exact hc

/-! ### Upload -/

theorem State.acceptEffects_ok (h : s.transactionsOk) (c : Contents) : (s.acceptEffects c).transactionsOk := by
  simp only [State.acceptEffects]
  split
  · exact State.settle_ok ((State.transactionsOk_stations (by simp)).mpr h)
  · exact h
  · exact h
  · exact h
  · refine (State.transactionsOk_congr fun m => ?_).mpr h
    simp [State.st]
  · exact h

theorem State.endPass_ok (h : s.transactionsOk) : s.endPass.transactionsOk := by
  simp only [State.endPass]
  repeat' split
  all_goals simp [h]

@[simp] theorem State.acceptBlock_ok (h : s.transactionsOk) (b : Block) : (s.acceptBlock b).transactionsOk := by
  have he : ∀ f, ((s.updUpload f).acceptEffects b.contents).transactionsOk := fun f => State.acceptEffects_ok (by exact h) _
  have hp : ∀ f, ((s.updUpload f).acceptEffects b.contents).endPass.transactionsOk := fun f => State.endPass_ok (he f)
  simp only [State.acceptBlock]
  repeat' split
  all_goals simp [he, hp]

@[simp] theorem State.retryBlock_ok (h : s.transactionsOk) (b : Block) : (s.retryBlock b).transactionsOk := by
  have hm : (s.markPage b .sealed).transactionsOk := (State.transactionsOk_stations (by simp)).mpr h
  simp only [State.retryBlock]
  split <;> simp [h, hm]

@[simp] theorem State.takeReceipt_ok (h : s.transactionsOk) (m : ReceiptMsg) : (s.takeReceipt m).transactionsOk := by
  simp only [State.takeReceipt, State.mismatch, State.countUpload]
  split <;> simp [h]

@[simp] theorem State.receiptExpired_ok (h : s.transactionsOk) : s.receiptExpired.transactionsOk := by
  simp only [State.receiptExpired, State.countUpload]
  split <;> simp [h]

@[simp] theorem State.sendCompleted_ok (h : s.transactionsOk) : s.sendCompleted.transactionsOk := by
  simp only [State.sendCompleted]
  split <;> simp [h]

@[simp] theorem State.windowEnded_ok (h : s.transactionsOk) : s.windowEnded.transactionsOk := by
  simp only [State.windowEnded]
  split <;> simp [h]

/-! ### Management -/

theorem State.manage_ok (h : s.transactionsOk) (i : Instr) (tok : Token) (code : Byte) {run : State → State × Answer}
    (hr : (run s).1.transactionsOk) : (s.manage i tok code run).transactionsOk := by
  simp only [State.manage, State.respond]
  split
  · exact h
  · simpa using hr

theorem withBody_transactionsOk {α : Type} {p : Body α} {body : List Byte} {f : α → State → State × Answer} (h : s.transactionsOk)
    (hf : ∀ a, (f a s).1.transactionsOk) : (withBody p body f s).1.transactionsOk := by
  simp only [withBody]
  split
  · exact h
  · exact hf _

theorem State.setShadow_ok (h : s.transactionsOk) (b : Bank) : (s.setShadow b).transactionsOk := by
  simp only [State.setShadow]
  split <;> exact h

theorem withLoad_transactionsOk {α : Type} (p : Body α) (body : List Byte) (f : α → Bank → Bank) (h : s.transactionsOk) :
    (withLoad p body f s).1.transactionsOk := by
  simp only [withLoad]
  split
  · exact h
  · exact State.setShadow_ok h _

theorem State.putBorrowerEntry_ok (h : s.transactionsOk) (e : Borrower) : (State.putBorrowerEntry e s).1.transactionsOk := by
  simp only [State.putBorrowerEntry]
  split
  · exact h
  · split
    · exact State.createBorrower_ok h ‹_›
    · exact h

theorem State.deleteBorrower_ok (h : s.transactionsOk) (b : Nat) : (State.deleteBorrower b s).1.transactionsOk := by
  simp only [State.deleteBorrower]
  split
  · exact State.mapCtx_ok (by exact h) fun c hc => Ctx.untrack_sound hc _
  · exact h

theorem State.loadCalendar_ok (h : s.transactionsOk) (body : List Byte) : (State.loadCalendar body s).1.transactionsOk := by
  simp only [State.loadCalendar]
  split
  · exact h
  · exact State.setShadow_ok h _

@[simp] theorem State.deviceEvent_ok (d : Detail) (g : Option Nat) : (s.deviceEvent d g).transactionsOk ↔ s.transactionsOk :=
  State.transactionsOk_stations (by simp)

theorem State.swapBanks_ok (h : s.transactionsOk) : s.swapBanks.1.transactionsOk := by
  simp only [State.swapBanks]
  split
  · exact State.settle_ok ((State.setAlarms_ok _).mpr ((State.deviceEvent_ok _ _).mpr h))
  · exact h

theorem State.setClock_ok (h : s.transactionsOk) (v : Nat × Nat × Nat) : (State.setClock v s).1.transactionsOk := by
  simp only [State.setClock]
  have hs : (State.settle (((State.mk s.pending s.sent s.stations s.borrowers s.recency s.exceptions s.badges s.bankA
      s.bankB s.active s.generation ⟨v.1, v.2.1, v.2.2, true, false⟩ s.service s.queries s.loans s.journal s.upload
      s.mgmt).deviceEvent .clockSet none).setAlarms fun a =>
        { a with clockUnset := { a.clockUnset with active := false } })).transactionsOk :=
    State.settle_ok ((State.setAlarms_ok _).mpr ((State.deviceEvent_ok _ _).mpr h))
  split
  · exact State.minuteToUpload_ok hs
  · exact hs

theorem State.commandLock_ok (h : s.transactionsOk) (on : Bool) (ns : List StationNo) :
    (State.commandLock on ns s).1.transactionsOk :=
  foldl_ok (fun _ _ h => State.lockChange_ok (fun _ => rfl) h) ns h

theorem State.clearStation_ok (h : s.transactionsOk) (n : StationNo) : (State.clearStation n s).1.transactionsOk := by
  have he : ∀ (f : Line → Line) (fault : Bool),
      ((((s.forceClose n false).updSlips n (·.release)).updLine n f).emptyAlerts n fault).transactionsOk :=
    fun f fault => State.emptyAlerts_ok
      ((State.unreportedOk_congr (by simp)).mpr (State.forceClose_unreported h false)) fault
  simp only [State.clearStation]
  split
  · exact (State.tone_ok _).mpr (he _ _)
  · exact he _ _

theorem State.configureDesk_ok (h : s.transactionsOk) (a b c : Nat) (n : StationNo) :
    (State.configureDesk a b c s n).transactionsOk := by
  refine State.holdExpired_ok ((State.updSlips_ok _).mpr (State.updCtx_ok ((State.updLine_ok _).mpr h) fun hc => ?_))
  exact hc.change rfl (fun ht => ht) fun hd => by rw [hd]; rfl

theorem State.deskConfigured_ok (h : s.transactionsOk) (v : List StationNo × Nat × Nat × Nat) :
    (State.deskConfigured v s).1.transactionsOk :=
  foldl_ok (fun _ n h => State.configureDesk_ok h _ _ _ n) v.1 h

theorem State.configureAlerts_ok (h : s.transactionsOk) (f : AlertFields) (n : StationNo) :
    (State.configureAlerts f s n).transactionsOk := by
  simp only [State.configureAlerts]
  split
  · exact State.endEvent_alerts_ok h _ (fun r hr => hr.configure f) id_ok
  · refine (State.updAlerts_unreported (h.unreportedOk n) fun hr => hr).reported ?_
    simpa [Resolver.holds] using ((s.transactionsOk_iff.mp h) n).2

theorem State.alertsConfigured_ok (h : s.transactionsOk) (v : List StationNo × AlertFields) :
    (State.alertsConfigured v s).1.transactionsOk :=
  foldl_ok (fun _ n h => State.configureAlerts_ok h _ n) v.1 h

theorem State.clearAlert_ok (h : s.transactionsOk) (v : StationNo × Level) : (State.clearAlert v s).1.transactionsOk := by
  simp only [State.clearAlert]
  split <;> simp [h]

theorem State.serviceConfigured_ok (h : s.transactionsOk) (f : ServiceFields) :
    (State.serviceConfigured f s).1.transactionsOk := by
  simp only [State.serviceConfigured, State.reviewTrip]
  split <;> simp [h]

theorem State.journalConfigured_ok (h : s.transactionsOk) (v : Option Nat × Option Bool × Option Bool) :
    (State.journalConfigured v s).1.transactionsOk :=
  State.settle_ok ((State.transactionsOk_stations (by simp)).mpr h)

theorem State.clearJournal_ok (h : s.transactionsOk) : s.clearJournal.1.transactionsOk := by
  simp only [State.clearJournal]
  split
  · exact State.settle_ok ((State.transactionsOk_stations (by simp)).mpr h)
  · exact h

theorem State.takeCommand_ok (h : s.transactionsOk) (i : Instr) : (s.takeCommand i).transactionsOk := by
  cases i with
  | unknownCommand tok code body =>
    simp only [State.takeCommand]
    split
    · exact h
    · exact State.manage_ok h _ _ _ h
  | borrowerPut => exact State.manage_ok h _ _ _ (withBody_transactionsOk h fun a => State.putBorrowerEntry_ok h a)
  | borrowerDelete => exact State.manage_ok h _ _ _ (withBody_transactionsOk h fun a => State.deleteBorrower_ok h a)
  | borrowerRead =>
    refine State.manage_ok h _ _ _ (withBody_transactionsOk h fun a => ?_)
    simp only [State.readBorrower]
    split <;> exact h
  | itemPut =>
    refine State.manage_ok h _ _ _ (withBody_transactionsOk h fun a => ?_)
    simp only [State.putItem]
    split <;> exact h
  | itemDelete =>
    refine State.manage_ok h _ _ _ (withBody_transactionsOk h fun a => ?_)
    simp only [State.deleteItem]
    split <;> exact h
  | badgeSet => exact State.manage_ok h _ _ _ (withBody_transactionsOk h fun _ => h)
  | shadowClear => exact State.manage_ok h _ _ _ (withLoad_transactionsOk _ _ _ h)
  | ruleLoad => exact State.manage_ok h _ _ _ (withLoad_transactionsOk _ _ _ h)
  | matrixLoad => exact State.manage_ok h _ _ _ (withLoad_transactionsOk _ _ _ h)
  | categoryLoad => exact State.manage_ok h _ _ _ (withLoad_transactionsOk _ _ _ h)
  | bankSettingsLoad => exact State.manage_ok h _ _ _ (withLoad_transactionsOk _ _ _ h)
  | calendarLoad => exact State.manage_ok h _ _ _ (State.loadCalendar_ok h _)
  | closedDatesLoad => exact State.manage_ok h _ _ _ (withLoad_transactionsOk _ _ _ h)
  | openDatesLoad => exact State.manage_ok h _ _ _ (withLoad_transactionsOk _ _ _ h)
  | bankSwap => exact State.manage_ok h _ _ _ (withBody_transactionsOk h fun _ => State.swapBanks_ok h)
  | clockSet => exact State.manage_ok h _ _ _ (withBody_transactionsOk h fun a => State.setClock_ok h a)
  | stationLock => exact State.manage_ok h _ _ _ (withBody_transactionsOk h fun a => State.commandLock_ok h _ a)
  | stationUnlock => exact State.manage_ok h _ _ _ (withBody_transactionsOk h fun a => State.commandLock_ok h _ a)
  | stationClear => exact State.manage_ok h _ _ _ (withBody_transactionsOk h fun a => State.clearStation_ok h a)
  | deskConfig => exact State.manage_ok h _ _ _ (withBody_transactionsOk h fun a => State.deskConfigured_ok h a)
  | alertConfig => exact State.manage_ok h _ _ _ (withBody_transactionsOk h fun a => State.alertsConfigured_ok h a)
  | alertPoll => exact State.manage_ok h _ _ _ (withBody_transactionsOk h fun _ => h)
  | alertClear => exact State.manage_ok h _ _ _ (withBody_transactionsOk h fun a => State.clearAlert_ok h a)
  | serviceConfig => exact State.manage_ok h _ _ _ (withBody_transactionsOk h fun a => State.serviceConfigured_ok h a)
  | uploadProgram =>
    refine State.manage_ok h _ _ _ (withBody_transactionsOk h fun a => ?_)
    simp only [State.programLoaded]
    split <;> exact h
  | uploadConfig =>
    refine State.manage_ok h _ _ _ (withBody_transactionsOk h fun a => ?_)
    simp only [State.uploadConfigured]
    split <;> exact h
  | uploadTrigger =>
    refine State.manage_ok h _ _ _ (withBody_transactionsOk h fun a => ?_)
    simp only [State.triggered]
    split <;> simp [h]
  | uploadStop =>
    refine State.manage_ok h _ _ _ (withBody_transactionsOk h fun a => ?_)
    simp only [State.stopped, State.stopRun]
    repeat' split
    all_goals simp [h]
  | journalConfig => exact State.manage_ok h _ _ _ (withBody_transactionsOk h fun a => State.journalConfigured_ok h a)
  | journalClear => exact State.manage_ok h _ _ _ (withBody_transactionsOk h fun _ => State.clearJournal_ok h)
  | alarmConfig =>
    exact State.manage_ok h _ _ _ (withBody_transactionsOk h fun a => State.settle_ok ((State.setAlarms_ok _).mpr h))
  | latch tok body =>
    refine State.manage_ok h _ _ _ (withBody_transactionsOk h fun a => ?_)
    simp only [State.latchGroup]
    split
    · exact h
    · cases a <;> exact h
  | snapshotRead =>
    refine State.manage_ok h _ _ _ (withBody_transactionsOk h fun a => ?_)
    cases a <;> simp only [State.readGroup] <;> split <;> exact h
  | flagsReadClear => exact State.manage_ok h _ _ _ (withBody_transactionsOk h fun _ => h)
  | statusRead => exact State.manage_ok h _ _ _ (withBody_transactionsOk h fun _ => h)
  | restart => exact State.manage_ok h _ _ _ (withBody_transactionsOk h fun _ => h)
  | _ => exact h

/-! ### Resets -/

/-- R149: a resolver that has been reset has L0 in one set, or in service, and its report made. -/
theorem Resolver.restart_apart (r : Resolver) : r.restart.apart ∧ r.restart.hold = r.restart.holds := by
  refine ⟨fun l hl => ?_, rfl⟩
  have key (q : Resolver) (hi : q.inService = .empty) : (if q.mask.mem .l0 then q else q.serve .l0).apart := by
    have hq : q.apart := fun k _ => by simp [hi]
    split
    · exact hq
    · exact hq.serve .l0
  have reset (q : Resolver) := key { q with
    pending := .onlyL0, inService := .empty, index := Vector.replicate 8 0, origin := none, lowest := .l7,
    staged := none } rfl
  exact reset (match r.staged with
    | some c => r.configure c
    | none => r) l hl

theorem Ctx.reset_sound (period : Nat) (command alarm : Bool) : (Ctx.reset period command alarm).Sound :=
  Ctx.cleared_sound (Ctx.reset period command alarm)

theorem Station.reset_ok : Station.reset.sound ∧ Station.reset.alerts.hold = Station.reset.alerts.holds := by
  refine ⟨⟨Ctx.reset_sound _ _ _, fun l hl => ?_⟩, rfl⟩
  cases l <;> cases hl

theorem State.reset_ok : State.reset.transactionsOk := by
  rw [State.transactionsOk_iff]
  intro n
  have hn : State.reset.st n = Station.reset := by simp [State.st, State.reset]
  rw [hn]
  exact Station.reset_ok

/-- R206, R207: every station is reset, whatever it was. -/
theorem State.retained_ok (s : State) (kind : ResetKind) (clock : Clock) (straps : Byte) :
    (s.retained kind clock straps).transactionsOk := by
  rw [State.transactionsOk_iff]
  intro n
  have hn : ∃ alarm, (s.retained kind clock straps).st n = (s.st n).restart alarm := ⟨_, by
    simp only [State.retained, State.st, Fin.getElem_fin, Vector.getElem_map]; rfl⟩
  obtain ⟨alarm, hn⟩ := hn
  obtain ⟨ha, hh⟩ := (s.st n).alerts.restart_apart
  rw [hn]
  exact ⟨⟨Ctx.reset_sound _ _ _, ha⟩, hh⟩

theorem State.powerOn_ok (s : State) (retain : Bool) (straps : Byte) : (s.powerOn retain straps).transactionsOk := by
  cases retain with
  | true => exact s.retained_ok _ _ _
  | false => exact State.reset_ok

/-! ### Commands -/

theorem ite_ok {t u : State} (b : Prop) [Decidable b] (ht : t.transactionsOk) (hu : u.transactionsOk) :
    (if b then t else u).transactionsOk := by
  split <;> assumption

/-- Every command keeps the invariant of the transactions and the resolvers. -/
theorem exec_ok (h : s.transactionsOk) (i : Instr) : ∃ t, exec i s = .next t ∧ t.transactionsOk := by
  have hf : s.fresh.transactionsOk := h
  cases i with
  | scan n symbol => exact ⟨_, rfl, ite_ok _ (State.takeScan_ok hf symbol) hf⟩
  | key n k => exact ⟨_, rfl, State.takeKey_ok hf k⟩
  | headStatus n r => exact ⟨_, rfl, ite_ok _ (State.takeStatus_ok hf r) hf⟩
  | attach n => exact ⟨_, rfl, State.enterCheck_ok hf⟩
  | deskFrameDiscarded => exact ⟨_, rfl, hf⟩
  | silenceTimeout n => exact ⟨_, rfl, ite_ok _ (State.fallSilent_ok hf) hf⟩
  | transactionTimerExpiry n => exact ⟨_, rfl, ite_ok _ (State.close_ok hf) hf⟩
  | slipHoldExpiry n => exact ⟨_, rfl, State.holdExpired_ok hf⟩
  | reply m => exact ⟨_, rfl, State.takeReply_ok hf m⟩
  | queryPatienceExpiry t => exact ⟨_, rfl, State.patienceExpired_ok hf t⟩
  | lingerEnd t => exact ⟨_, rfl, State.lingerEnded_ok hf t⟩
  | probeTimerExpiry => exact ⟨_, rfl, State.probeExpired_ok hf⟩
  | probeAnswer g => exact ⟨_, rfl, State.probeAnswered_ok hf g⟩
  | trunkLinkDown => exact ⟨_, rfl, State.linkWentDown_ok hf⟩
  | trunkLinkUp => exact ⟨_, rfl, State.linkCameUp_ok hf⟩
  | trunkMessageDiscarded => exact ⟨_, rfl, hf⟩
  | secondTick => exact ⟨_, rfl, State.tick_ok hf⟩
  | minuteArrival => exact ⟨_, rfl, ite_ok _ hf (State.tick_ok hf)⟩
  | sendCompletion => exact ⟨_, rfl, State.sendCompleted_ok hf⟩
  | receipt m => exact ⟨_, rfl, State.takeReceipt_ok hf m⟩
  | receiptPatienceExpiry => exact ⟨_, rfl, State.receiptExpired_ok hf⟩
  | windowEnd => exact ⟨_, rfl, State.windowEnded_ok hf⟩
  | powerOn retain straps => exact ⟨_, rfl, s.powerOn_ok retain straps⟩
  | restartTakesEffect straps =>
    exact ⟨_, rfl, ite_ok _ (foldl_ok (fun _ i h => State.takeCommand_ok h i) _ (s.retained_ok _ _ _)) hf⟩
  | _ => exact ⟨_, rfl, State.takeCommand_ok hf _⟩

end
end Sys2Proof.Machine

namespace Sys2Proof.Proofs
open Sys2Proof Sys2Proof.Machine

/-- Settles O57: each operation of a command keeps the invariant, but for the resolver's, which keep it once they have
reported the hold condition. -/
theorem transactionInvariant : Obligations.TransactionInvariant := by
  intro s t h ht
  unfold step at ht
  split at ht
  · cases ht
    exact h
  · rename_i i rest _
    obtain ⟨u, hu, hok⟩ := exec_ok (s := { s with pending := rest }) h i
    rw [hu] at ht
    cases ht
    exact hok

end Sys2Proof.Proofs
end

section
/-! SUPPORT. The reset state (R48, R132, R162, R177), and the settling of O60. -/

namespace Sys2Proof.Machine

@[simp] theorem State.reset_st (n : StationNo) : State.reset.st n = Station.reset := by
  simp [State.st, State.reset]

/-- R177: the pages of an empty journal. -/
theorem pagesReset_getElem (i : Fin 128) : pagesReset[i] = if i = 0 then ⟨.filling, []⟩ else ⟨.free, []⟩ := by
  by_cases h : i = 0
  · subst h
    rfl
  · have hi : (0 : Nat) ≠ i.val := fun e => h (Fin.ext e.symm)
    simp [pagesReset, h, hi]

theorem State.reset_slipsOk : State.reset.slipsOk := by
  intro n
  rw [State.reset_st]
  refine ⟨rfl, nofun, fun _ => ⟨rfl, rfl⟩, List.nodup_nil, fun i => ?_, fun i => ?_⟩ <;>
    simp [Station.reset, SlipQueue.reset, Slot.occupied, Slot.busy]

theorem State.reset_journalOk : State.reset.journalOk := by
  have hp (i : Fin 128) : State.reset.journal.pages[i] = if i = 0 then ⟨.filling, []⟩ else ⟨.free, []⟩ :=
    pagesReset_getElem i
  refine ⟨fun i k => ?_, fun i => ?_, by decide, by decide, by decide⟩
  · rw [hp, hp]
    split <;> split <;> simp_all
  · rw [hp]
    split <;> simp

end Sys2Proof.Machine

namespace Sys2Proof.Proofs
open Sys2Proof Sys2Proof.Machine

/-- Settles O60: the tables are empty, and the stations and the pages hold their reset values. -/
theorem resetMeetsInvariants : Obligations.ResetMeetsInvariants :=
  ⟨⟨by decide, List.Pairwise.nil, nofun⟩, ⟨by decide, List.nodup_nil⟩, rfl, State.reset_ok, State.reset_slipsOk,
    State.reset_journalOk⟩

end Sys2Proof.Proofs
end

section
/-! SUPPORT. The COMMAND lock source (R45), and the settling of O42. -/

namespace Sys2Proof.Machine

variable {s : State} {n : StationNo}

/-- R198: a station field names one station, or all eight. -/
theorem parse_stations {body : List Byte} {ns : List StationNo} (h : parseBody Body.stations body = .ok ns) :
    (∃ n, ns = [n]) ∨ ns = List.finRange 8 := by
  simp only [parseBody, Body.stations, Body.field_run] at h
  split at h
  · cases h
  · rename_i heq
    split at heq
    · cases heq
    · split at heq
      · rename_i hf
        cases heq
        split at h
        · cases h
          split at hf
          · cases hf
            exact .inl ⟨_, rfl⟩
          · split at hf
            · cases hf
              exact .inr rfl
            · cases hf
        · cases h
      · cases heq

/-- R44: a change of a lock source, but for what the ALARM condition makes of it. -/
theorem State.lockChange_unalarmed (s : State) (n m : StationNo) (f : Ctx → Ctx) :
    ((s.lockChange n f).st m).ctx.unalarmed = ((s.updCtx n f).st m).ctx.unalarmed := by
  have hc : ((s.changeSource n f).st m).ctx = ((s.updCtx n f).st m).ctx := by
    simp only [State.changeSource]
    split <;> simp
  simp only [State.lockChange]
  split
  · rw [hc]
  · rw [(State.settle_parts _ m).2.2.2.2, hc]

/-- R45: the COMMAND source after a change of it at one station. -/
theorem State.lockChange_command (s : State) (n m : StationNo) (on : Bool) :
    ((s.lockChange n fun c => { c with lockCommand := on }).st m).ctx.lockCommand =
      if m = n then on else (s.st m).ctx.lockCommand := by
  have h := congrArg Ctx.lockCommand (s.lockChange_unalarmed n m fun c => { c with lockCommand := on })
  simp only [Ctx.unalarmed] at h
  rw [h]
  by_cases hm : m = n
  · subst hm; simp
  · simp [hm]

theorem State.commandLock_command (on : Bool) (ns : List StationNo) (s : State) (m : StationNo) :
    ((State.commandLock on ns s).1.st m).ctx.lockCommand = if m ∈ ns then on else (s.st m).ctx.lockCommand := by
  simp only [State.commandLock]
  induction ns generalizing s with
  | nil => simp
  | cons n ns ih =>
    rw [List.foldl_cons, ih, State.lockChange_command]
    by_cases hm : m = n <;> by_cases hin : m ∈ ns <;> simp [hm, hin]

theorem State.updCtx_self {f : Ctx → Ctx} (h : f (s.st n).ctx = (s.st n).ctx) : s.updCtx n f = s :=
  State.upd_self (by simp [h])

/-- R45: nothing changes where every station named stands as it is set. -/
theorem State.commandLock_same (on : Bool) (ns : List StationNo) (s : State)
    (h : ∀ n ∈ ns, (s.st n).ctx.lockCommand = on) : (State.commandLock on ns s).1 = s := by
  simp only [State.commandLock]
  induction ns with
  | nil => rfl
  | cons n ns ih =>
    have hn : (s.lockChange n fun c => { c with lockCommand := on }) = s := by
      have hc := h n (by simp)
      rw [State.lockChange_same _ _ _ (by simp [Ctx.locked, hc])]
      exact State.updCtx_self (by rw [← hc])
    rw [List.foldl_cons, hn]
    exact ih fun m hm => h m (by simp [hm])

/-- R198: a message with a body that parses, taken outside a restart. -/
theorem State.manage_withBody {α : Type} {p : Body α} {body : List Byte} {a : α} (i : Instr) (tok : Token) (code : Byte)
    (f : α → State → State × Answer) (hr : s.mgmt.restarting = false) (hb : parseBody p body = .ok a) :
    s.fresh.manage i tok code (withBody p body f) =
      (f a s.fresh).1.sendTrunk (.response tok code (f a s.fresh).2.result (f a s.fresh).2.body) := by
  rw [State.manage_taken s.fresh _ _ _ _ hr, withBody_ok _ _ hb]

/-- R198: a response that is all that a command gives. -/
theorem State.fresh_answered (s : State) (tok : Token) (code : Byte) (r : Result) (body : List Byte) :
    s.fresh.sendTrunk (.response tok code r body) = s.answered tok code r body := by
  rw [State.sendTrunk_eq]
  rfl

end Sys2Proof.Machine

namespace Sys2Proof.Proofs
open Sys2Proof Sys2Proof.Machine

/-- Settles O42, by induction on the stations named. -/
theorem stationLocksAreSet : Obligations.StationLocksAreSet := by
  intro tok body ns on s hr hb c code
  have hexec : exec c s = .next ((State.commandLock on ns s.fresh).1.sendTrunk (.response tok code .done [])) := by
    cases on
    · exact congrArg Host.Outcome.next (State.manage_withBody _ tok 0x31 (State.commandLock false) hr hb)
    · exact congrArg Host.Outcome.next (State.manage_withBody _ tok 0x30 (State.commandLock true) hr hb)
  refine ⟨parse_stations hb, ⟨_, hexec, fun n => ?_, State.sendTrunk_answers _ _ _ _ _⟩, fun h => ?_⟩
  · rw [State.sendTrunk_st, State.commandLock_command]
    rfl
  · rw [hexec, State.commandLock_same on ns s.fresh h, State.fresh_answered]

end Sys2Proof.Proofs
end

section
/-! SUPPORT. The settling of the ALARM condition (R203): the reports of a round can raise a journal alarm but, from its
first record on, clear none, so that three rounds at most reach a condition that stands; and the settling of O50. -/

namespace Sys2Proof.Machine

variable {s t u : State}

/-! ### The journal's alarms while records are taken -/

/-- R172, R173: both journal alarms stand as the pages give them. -/
def State.journalSeen (s : State) : Prop :=
  s.journal.isFull = s.mgmt.alarms.journalFull.active ∧ s.journal.isLow = s.mgmt.alarms.journalLow.active

/-- What a journal can become while records are taken: a FREE page may be used up, and a full journal stays full. -/
structure Journal.Fills (j k : Journal) : Prop where
  mark : k.lowMark = j.lowMark
  free : k.free ≤ j.free
  full : j.isFull = true → k.isFull = true

theorem Journal.free_eq_countP (j : Journal) : j.free = j.pages.toList.countP fun g => decide (g.state = .free) := by
  rw [Journal.free, Journal.countOf, List.countP_eq_length_filter]

/-- R166: a page that becomes another but FREE uses up a FREE page at most. -/
theorem Journal.free_setPage_le (j : Journal) (i : Fin 128) {p : Page} (h : p.state ≠ .free) :
    (j.setPage i p).free ≤ j.free := by
  have hp : (fun g : Page => decide (g.state = .free)) p = false := by simpa using h
  rw [Journal.free_eq_countP, Journal.free_eq_countP]
  simp only [Journal.setPage, Vector.toList_set]
  rw [List.countP_set (by simp)]
  simp only [hp]
  split <;> simp

theorem Journal.fills_openAfter (j : Journal) (i : Fin 128) :
    (j.openAfter i).lowMark = j.lowMark ∧ (j.openAfter i).free ≤ j.free := by
  simp only [Journal.openAfter]
  split
  · exact ⟨rfl, j.free_setPage_le _ (by simp)⟩
  · exact ⟨rfl, le_rfl⟩

theorem Journal.fills_take {j k : Journal} {r : Record} {q : Nat} (h : j.take r = some (q, k)) : j.Fills k := by
  have hfull : j.isFull = false := by
    have := j.take_isSome r
    rw [h] at this
    simp [Journal.isFull, ← this]
  cases hf : j.filling? with
  | none => simp [Journal.take, hf] at h
  | some i =>
    simp only [Journal.take, hf] at h
    split at h <;> cases h
    · obtain ⟨hm, hl⟩ := Journal.fills_openAfter (Journal.setPage { j with counter := (j.counter + 1) % 2 ^ 32 } i
        ⟨.sealed, j.pages[i].records ++ [{ r with seq := j.counter }]⟩) i
      exact ⟨hm, hl.trans (Journal.free_setPage_le _ i (by simp)), by simp [hfull]⟩
    · exact ⟨rfl, Journal.free_setPage_le _ i (by simp), by simp [hfull]⟩

/-- R172: a journal that fills stays low. -/
theorem Journal.Fills.low {j k : Journal} (h : j.Fills k) (hl : j.isLow = true) : k.isLow = true := by
  have := h.free
  simp only [Journal.isLow, h.mark, Bool.and_eq_true, decide_eq_true_eq] at hl ⊢
  omega

/-! ### What the reports of a round can do -/

/-- R203: from `s` to `t` the reports of a round have left the condition and the settings of the alarms, and have left
the journal alarms too, or have brought them up to date without an end to the condition that a state up to date gave. -/
structure State.AlarmsRise (s t : State) : Prop where
  cond : t.mgmt.alarmCond = s.mgmt.alarmCond
  rules : t.mgmt.alarms.rulesInvalid = s.mgmt.alarms.rulesInvalid
  clock : t.mgmt.alarms.clockUnset = s.mgmt.alarms.clockUnset
  low : t.mgmt.alarms.journalLow.enable = s.mgmt.alarms.journalLow.enable
  full : t.mgmt.alarms.journalFull.enable = s.mgmt.alarms.journalFull.enable
  mark : t.journal.lowMark = s.journal.lowMark
  moves : t.mgmt.alarms = s.mgmt.alarms ∧ (s.journalSeen → t.journalSeen) ∨
    t.journalSeen ∧ (s.journalSeen → s.mgmt.alarms.holds = true → t.mgmt.alarms.holds = true)

theorem State.AlarmsRise.of_same (hm : t.mgmt.alarms = s.mgmt.alarms) (hc : t.mgmt.alarmCond = s.mgmt.alarmCond)
    (hf : t.journal.isFull = s.journal.isFull) (hl : t.journal.isLow = s.journal.isLow)
    (hk : t.journal.lowMark = s.journal.lowMark) : s.AlarmsRise t where
  cond := hc
  rules := by rw [hm]
  clock := by rw [hm]
  low := by rw [hm]
  full := by rw [hm]
  mark := hk
  moves := .inl ⟨hm, fun h => by simpa only [State.journalSeen, hm, hf, hl] using h⟩

theorem State.AlarmsRise.trans (h : s.AlarmsRise t) (g : t.AlarmsRise u) : s.AlarmsRise u where
  cond := g.cond.trans h.cond
  rules := g.rules.trans h.rules
  clock := g.clock.trans h.clock
  low := g.low.trans h.low
  full := g.full.trans h.full
  mark := g.mark.trans h.mark
  moves := by
    rcases h.moves with ⟨ht, hseen⟩ | ⟨ht, hholds⟩ <;> rcases g.moves with ⟨hu, gseen⟩ | ⟨hu, gholds⟩
    · exact .inl ⟨hu.trans ht, gseen ∘ hseen⟩
    · exact .inr ⟨hu, fun hs => by rw [← ht]; exact gholds (hseen hs)⟩
    · exact .inr ⟨gseen ht, fun hs => by rw [hu]; exact hholds hs⟩
    · exact .inr ⟨hu, fun hs hh => gholds ht (hholds hs hh)⟩

/-- The alarms as evaluated from the journal. -/
theorem State.evalJournal_alarms (s : State) : s.evalJournal.mgmt.alarmCond = s.mgmt.alarmCond ∧
    s.evalJournal.mgmt.alarms = { s.mgmt.alarms with
      journalFull := { s.mgmt.alarms.journalFull with active := s.journal.isFull }
      journalLow := { s.mgmt.alarms.journalLow with active := s.journal.isLow } } := by
  simp only [State.evalJournal, State.evalLow, State.evalFull]
  repeat' split
  all_goals simp_all [State.setAlarms]

/-- R172, R173: the journal alarms evaluated while the journal fills. -/
theorem State.evalJournal_rises {k : Journal} (h : s.journal.Fills k) :
    s.AlarmsRise ({ s with journal := k }).evalJournal := by
  obtain ⟨hcond, halarms⟩ := ({ s with journal := k } : State).evalJournal_alarms
  have hj : ({ s with journal := k } : State).evalJournal.journal = k := by simp
  refine ⟨hcond, by rw [halarms], by rw [halarms], by rw [halarms], by rw [halarms], by rw [hj]; exact h.mark, .inr ⟨?_, ?_⟩⟩
  · simp only [State.journalSeen, hj, halarms, and_self]
  · rintro ⟨hfull, hlow⟩ hh
    rw [halarms]
    simp only [Alarms.holds, Bool.or_eq_true, Bool.and_eq_true] at hh ⊢
    rw [← hfull, ← hlow] at hh
    rcases hh with (hh | hh) | hh
    · exact .inl (.inl hh)
    · exact .inl (.inr ⟨h.low hh.1, hh.2⟩)
    · exact .inr ⟨h.full hh.1, hh.2⟩

theorem State.offer_rises (s : State) (r : Record) : s.AlarmsRise (s.offer r).2 := by
  simp only [State.offer]
  split
  · exact State.evalJournal_rises (Journal.fills_take ‹_›)
  · exact .of_same rfl rfl rfl rfl rfl

theorem State.tone_rises (s : State) (n : StationNo) (t : Tone) : s.AlarmsRise (s.tone n t) := by
  apply State.AlarmsRise.of_same <;> simp

theorem State.notice_rises (s : State) (x : Notice) : s.AlarmsRise (s.notice x) := by
  apply State.AlarmsRise.of_same <;> simp

theorem State.changeSource_rises (s : State) (n : StationNo) (f : Ctx → Ctx) : s.AlarmsRise (s.changeSource n f) := by
  have hu : s.AlarmsRise (s.updCtx n f) := .of_same rfl rfl rfl rfl rfl
  simp only [State.changeSource]
  split
  · exact hu
  · exact ((hu.trans (State.offer_rises _ _)).trans (State.notice_rises _ _)).trans (State.tone_rises _ _ _)

theorem State.reportAlarm_rises (s : State) (on : Bool) : s.AlarmsRise (s.reportAlarm on) :=
  foldl_preserves (P := s.AlarmsRise) (fun _ _ h => h.trans (State.changeSource_rises _ _ _)) _
    (.of_same rfl rfl rfl rfl rfl)

/-! ### The rounds -/

theorem State.settleLocks_settled (h : s.alarmsSettled) (k : Nat) : State.settleLocks k s = s := by
  cases k with
  | zero => rfl
  | succ k => exact if_pos h

/-- R203: one round: the condition as the alarms give it, and its report to all stations. -/
def State.round (s : State) : State :=
  State.reportAlarm { s with mgmt := { s.mgmt with alarmCond := s.mgmt.alarms.holds } } s.mgmt.alarms.holds

theorem State.settleLocks_round (h : ¬ s.alarmsSettled) (k : Nat) :
    State.settleLocks (k + 1) s = State.settleLocks k s.round :=
  if_neg h

/-- A round leaves the condition settled, or the journal alarms up to date; and a condition that an up-to-date state gave
still holds. -/
theorem State.round_cases (s : State) : s.round.mgmt.alarmCond = s.mgmt.alarms.holds ∧
    (s.round.alarmsSettled ∨
      s.round.journalSeen ∧ (s.journalSeen → s.mgmt.alarms.holds = true → s.round.mgmt.alarms.holds = true)) := by
  have h : AlarmsRise { s with mgmt := { s.mgmt with alarmCond := s.mgmt.alarms.holds } } s.round :=
    State.reportAlarm_rises _ _
  refine ⟨h.cond, ?_⟩
  rcases h.moves with ⟨ha, -⟩ | ⟨hseen, hholds⟩
  · exact .inl (by rw [State.alarmsSettled, h.cond, ha])
  · exact .inr ⟨hseen, hholds⟩

theorem State.settleLocks_holding (hs : s.journalSeen) (hh : s.mgmt.alarms.holds = true) (k : Nat) :
    (State.settleLocks (k + 1) s).alarmsSettled := by
  by_cases h : s.alarmsSettled
  · rwa [State.settleLocks_settled h]
  · obtain ⟨hcond, hr | ⟨-, hr⟩⟩ := s.round_cases
    · rwa [State.settleLocks_round h, State.settleLocks_settled hr]
    · have hsettled : s.round.alarmsSettled := by rw [State.alarmsSettled, hcond, hr hs hh, hh]
      rwa [State.settleLocks_round h, State.settleLocks_settled hsettled]

theorem State.settleLocks_seen (hs : s.journalSeen) (k : Nat) : (State.settleLocks (k + 2) s).alarmsSettled := by
  by_cases h : s.alarmsSettled
  · rwa [State.settleLocks_settled h]
  · rw [State.settleLocks_round h]
    obtain ⟨hcond, hr | ⟨hseen, -⟩⟩ := s.round_cases
    · rwa [State.settleLocks_settled hr]
    · by_cases hh : s.round.mgmt.alarms.holds = true
      · exact State.settleLocks_holding hseen hh k
      · by_cases hs' : s.round.alarmsSettled
        · rwa [State.settleLocks_settled hs']
        · obtain ⟨-, hr | ⟨-, hmono⟩⟩ := s.round_cases
          · exact absurd hr hs'
          · have hfalse : s.mgmt.alarms.holds = false := by
              by_contra hne
              exact hh (hmono hs (by simpa using hne))
            exact absurd (by rw [State.alarmsSettled, hcond, hfalse]; simpa using hh) hs'

/-- R203: the ALARM condition stands once it has been settled. -/
theorem State.settle_alarmsSettled (s : State) : s.settle.alarmsSettled := by
  show (State.settleLocks (3 + 1) s).alarmsSettled
  by_cases h : s.alarmsSettled
  · rwa [State.settleLocks_settled h]
  · rw [State.settleLocks_round h]
    obtain ⟨-, hr | ⟨hseen, -⟩⟩ := s.round_cases
    · rwa [State.settleLocks_settled hr]
    · exact State.settleLocks_seen hseen 1

/-! ### What settling leaves, and what it sets at the stations -/

/-- R203: settling reaches none of the alarms' settings, the two alarms that are no journal's, and the low-water mark. -/
theorem State.settle_alarms (s : State) : s.settle.mgmt.alarms.rulesInvalid = s.mgmt.alarms.rulesInvalid ∧
    s.settle.mgmt.alarms.clockUnset = s.mgmt.alarms.clockUnset ∧
    s.settle.mgmt.alarms.journalLow.enable = s.mgmt.alarms.journalLow.enable ∧
    s.settle.mgmt.alarms.journalFull.enable = s.mgmt.alarms.journalFull.enable ∧
    s.settle.journal.lowMark = s.journal.lowMark := by
  have key : ∀ (k : Nat) (s : State), (State.settleLocks k s).mgmt.alarms.rulesInvalid = s.mgmt.alarms.rulesInvalid ∧
      (State.settleLocks k s).mgmt.alarms.clockUnset = s.mgmt.alarms.clockUnset ∧
      (State.settleLocks k s).mgmt.alarms.journalLow.enable = s.mgmt.alarms.journalLow.enable ∧
      (State.settleLocks k s).mgmt.alarms.journalFull.enable = s.mgmt.alarms.journalFull.enable ∧
      (State.settleLocks k s).journal.lowMark = s.journal.lowMark := by
    intro k
    induction k with
    | zero => exact fun _ => ⟨rfl, rfl, rfl, rfl, rfl⟩
    | succ k ih =>
      intro s
      by_cases h : s.alarmsSettled
      · rw [State.settleLocks_settled h]
        exact ⟨rfl, rfl, rfl, rfl, rfl⟩
      · obtain ⟨h1, h2, h3, h4, h5⟩ := ih s.round
        have hr : AlarmsRise { s with mgmt := { s.mgmt with alarmCond := s.mgmt.alarms.holds } } s.round :=
          State.reportAlarm_rises _ _
        rw [State.settleLocks_round h]
        exact ⟨h1.trans hr.rules, h2.trans hr.clock, h3.trans hr.low, h4.trans hr.full, h5.trans hr.mark⟩
  exact key 4 s

/-- R203: a report sets the ALARM source at its station and at no other. -/
theorem State.changeSource_lockAlarm (s : State) (n m : StationNo) (on : Bool) :
    ((s.changeSource n fun c => { c with lockAlarm := on }).st m).ctx.lockAlarm =
      if m = n then on else (s.st m).ctx.lockAlarm := by
  have hc : ((s.changeSource n fun c => { c with lockAlarm := on }).st m).ctx =
      ((s.updCtx n fun c => { c with lockAlarm := on }).st m).ctx := by
    simp only [State.changeSource]
    split <;> simp
  rw [hc]
  by_cases hm : m = n
  · subst hm; simp
  · simp [hm]

theorem State.reportAlarm_lockAlarm (s : State) (on : Bool) (m : StationNo) :
    ((s.reportAlarm on).st m).ctx.lockAlarm = on := by
  have key : ∀ (ns : List StationNo) (s : State),
      ((ns.foldl (fun s n => s.changeSource n fun c => { c with lockAlarm := on }) s).st m).ctx.lockAlarm =
        if m ∈ ns then on else (s.st m).ctx.lockAlarm := by
    intro ns
    induction ns with
    | nil => simp
    | cons n ns ih =>
      intro s
      rw [List.foldl_cons, ih, State.changeSource_lockAlarm]
      by_cases hm : m = n <;> by_cases hin : m ∈ ns <;> simp [hm, hin]
  rw [State.reportAlarm, key, if_pos (List.mem_finRange m)]

/-- R203: where settling has something to report, every station's ALARM source follows the condition. -/
theorem State.settle_lockAlarm (h : ¬ s.alarmsSettled) (m : StationNo) :
    (s.settle.st m).ctx.lockAlarm = s.settle.mgmt.alarmCond := by
  have hround (s : State) : (s.round.st m).ctx.lockAlarm = s.round.mgmt.alarmCond := by
    rw [s.round_cases.1, State.round, State.reportAlarm_lockAlarm]
  have key : ∀ (k : Nat) (s : State), (s.st m).ctx.lockAlarm = s.mgmt.alarmCond →
      ((State.settleLocks k s).st m).ctx.lockAlarm = (State.settleLocks k s).mgmt.alarmCond := by
    intro k
    induction k with
    | zero => exact fun _ hs => hs
    | succ k ih =>
      intro s hs
      by_cases h : s.alarmsSettled
      · rwa [State.settleLocks_settled h]
      · rw [State.settleLocks_round h]
        exact ih s.round (hround s)
  have hs : s.settle = State.settleLocks 3 s.round := State.settleLocks_round h 3
  rw [hs]
  exact key 3 s.round (hround s)

/-! ### JOURNAL_CLEAR -/

theorem pagesReset_filling? (j : Journal) (h : j.pages = pagesReset) : j.filling? = some 0 := by
  simp only [Journal.filling?, h]
  rfl

theorem pagesReset_free (j : Journal) (h : j.pages = pagesReset) : j.free = 127 := by
  simp only [Journal.free, Journal.countOf, h]
  rfl

/-- R175: with its alarms inactive, an emptied journal is ready for a record in page 0. -/
theorem State.ready_emptied (h : s.journal.pages = pagesReset) (hf : s.mgmt.alarms.journalFull.active = false)
    (hl : s.mgmt.alarms.journalLow.active = false) (hm : s.journal.lowMark ≤ 32) (ha : s.alarmsSettled) : s.ready 0 := by
  have hfill := pagesReset_filling? _ h
  refine ⟨hfill, by rw [h, pagesReset_getElem]; decide, State.evalJournal_settled ?_ ?_, ha⟩
  · rw [hf, Journal.isFull, hfill]
    rfl
  · have hlow : ¬ 127 ≤ s.journal.lowMark := by omega
    rw [hl, Journal.isLow, pagesReset_free _ h]
    simp [hlow]

theorem State.clearJournal_eq (hu : s.upload.run = .idle) (hf : s.mgmt.alarms.journalFull.active = false)
    (hl : s.mgmt.alarms.journalLow.active = false) (hm : s.journal.lowMark ≤ 32) (ha : s.alarmsSettled) :
    s.clearJournal = (State.recorded { s with journal := { s.journal with pages := pagesReset }, loans := [] } 0
      { s.record .deviceEvent none with detail := some .journalCleared }, .done) := by
  have hready : State.ready { s with journal := { s.journal with pages := pagesReset }, loans := [] } 0 :=
    State.ready_emptied rfl hf hl hm ha
  obtain ⟨hfill, hroom, he, hset⟩ := hready
  simp only [State.clearJournal, if_pos hu, State.deviceEvent, State.offer_room hfill hroom he,
    State.recorded_evalJournal hfill he]
  rw [State.settle_settled _ (by exact hset)]
  rfl

end Sys2Proof.Machine

namespace Sys2Proof.Proofs
open Sys2Proof Sys2Proof.Machine

/-- Settles O50: each command sets its fields or its pages, and settles the ALARM condition. -/
theorem journalAndAlarmCommands : Obligations.JournalAndAlarmCommands := by
  refine ⟨fun tok body s hr => ⟨fun m a b hb => ?_, fun hu hf hl hm ha => ?_, fun hu => ?_⟩, ?_⟩
  · refine ⟨_, congrArg Host.Outcome.next (State.manage_withBody _ tok 0x50 State.journalConfigured hr hb), ?_⟩
    simp only [State.journalConfigured, State.sendTrunk_keeps, State.alarmsSettled]
    obtain ⟨-, -, hlow, hfull, hmark⟩ := State.settle_alarms (State.evalLow (State.setAlarms
      { s.fresh with journal := { s.fresh.journal with lowMark := (clampOpt 0 32 m).getD s.fresh.journal.lowMark } }
      fun x => { x with journalLow := x.journalLow.setEnable a, journalFull := x.journalFull.setEnable b }))
    refine ⟨hmark.trans ?_, hlow.trans ?_, hfull.trans ?_, State.settle_alarmsSettled _⟩
    · cases m <;> simp [clampOpt, clampTo]
    · simp only [State.evalLow]
      split <;> simp [State.setAlarms, Alarm.setEnable]
    · simp only [State.evalLow]
      split <;> simp [State.setAlarms, Alarm.setEnable]
  · have hexec := State.manage_withBody (s := s) (p := noFields) (body := []) (.journalClear tok []) tok 0x51
      (fun _ => State.clearJournal) hr rfl
    rw [State.clearJournal_eq (s := s.fresh) hu hf hl hm ha, State.sendTrunk_eq] at hexec
    have hpage (i : Fin 128) := getElem_set_fin pagesReset 0 i
      ⟨.filling, pagesReset[(0 : Fin 128)].records ++ [{ s.record .deviceEvent none with
        seq := s.journal.counter, detail := some .journalCleared }]⟩
    refine ⟨_, { s.record .deviceEvent none with seq := s.journal.counter, detail := some .journalCleared },
      congrArg Host.Outcome.next hexec, (hpage 0).trans ?_, rfl, rfl, rfl, rfl, fun i hi => (hpage i).trans ?_, rfl, rfl, rfl, rfl⟩
    · rw [pagesReset_getElem]
      rfl
    · rw [if_neg hi, pagesReset_getElem, if_neg hi]
  · refine congrArg Host.Outcome.next ((State.manage_withBody (p := noFields) (body := []) _ tok 0x51 (fun _ => State.clearJournal)
      hr rfl).trans ?_)
    rw [State.clearJournal, if_neg (by exact hu), State.fresh_answered]
  · intro tok body a b s hr hb al
    refine ⟨?_, fun hsame => ?_⟩
    · refine ⟨_, congrArg Host.Outcome.next (State.manage_withBody _ tok 0x58 State.alarmsConfigured hr hb), ?_⟩
      simp only [State.alarmsConfigured, State.sendTrunk_keeps, State.alarmsSettled, State.sendTrunk_st]
      obtain ⟨hrules, hclock, hlow, hfull, -⟩ := State.settle_alarms (s.fresh.setAlarms fun x =>
        { x with rulesInvalid := x.rulesInvalid.setEnable a, clockUnset := x.clockUnset.setEnable b })
      refine ⟨hrules, hclock, hlow, hfull, State.settle_alarmsSettled _, fun hne n => ?_⟩
      exact State.settle_lockAlarm (by exact hne) n
    · refine congrArg Host.Outcome.next ((State.manage_withBody _ tok 0x58 State.alarmsConfigured hr hb).trans ?_)
      rw [State.alarmsConfigured, State.settle_settled _ (by exact hsame), State.sendTrunk_eq]
      rfl

end Sys2Proof.Proofs
end

section
/-! SUPPORT. What a close, its slip and the events of a resolver leave of the other stations, and what a DISPLAY adds to
what is sent. -/

namespace Sys2Proof.Machine

variable {s : State} {n : StationNo}

/-! ### The other stations -/

@[simp] theorem State.withdrawLevel_other {m : StationNo} (h : m ≠ n) (l : Level) :
    (s.withdrawLevel n l).st m = s.st m := by
  simp only [State.withdrawLevel]
  split <;> simp [h]

@[simp] theorem State.withdrawBlocks_other {m : StationNo} (h : m ≠ n) : (s.withdrawBlocks n).st m = s.st m := by
  simp [State.withdrawBlocks, Level.blocks, h]

@[simp] theorem State.applyStaged_other {m : StationNo} (h : m ≠ n) : (s.applyStaged n).st m = s.st m := by
  simp only [State.applyStaged]
  split <;> simp [h]

@[simp] theorem State.stream_other {m : StationNo} (h : m ≠ n) (k : Nat) : (State.stream n k s).st m = s.st m := by
  induction k generalizing s with
  | zero => rfl
  | succ k ih =>
    simp only [State.stream]
    repeat' split
    all_goals simp [ih, h]

@[simp] theorem State.feed_other {m : StationNo} (h : m ≠ n) : (s.feed n).st m = s.st m := by
  simp [State.feed, h]

@[simp] theorem State.settleSlip_other {m : StationNo} (h : m ≠ n) : (s.settleSlip n).st m = s.st m := by
  simp only [State.settleSlip]
  split <;> simp [h]

/-- R41: a completed close with no next action held reaches no other station and no record. -/
theorem State.completeClose_leaves (h : (s.st n).ctx.next = .none) :
    (s.completeClose n).journal = s.journal ∧ ∀ m, m ≠ n → (s.completeClose n).st m = s.st m := by
  have hu : (((s.withdrawBlocks n).settleSlip n).st n).ctx.unheld = (s.st n).ctx.unheld := by simp
  have hn : (((s.withdrawBlocks n).settleSlip n).st n).ctx.next = .none := (Ctx.unheld_slip hu).2.1.trans h
  simp only [State.completeClose, hn, State.takeNext]
  refine ⟨?_, fun m hm => by simp [hm]⟩
  simp only [State.settleSlip, State.applyStaged_keeps, State.tone_keeps, State.updCtx_keeps]
  split <;> simp

/-! ### Sending -/

/-- R2: what a DISPLAY adds to what was sent. -/
theorem State.display_eq (s : State) (n : StationNo) (t : Tone) (i : Nat) : s.display n t i =
    s.sending (s.sent ++ s.toHead n [.display (s.st n).shownState (s.st n).alerts.displayed i t]) := by
  simp only [State.display, State.sendDesk, State.toHead]
  split <;> simp [State.sending, State.emit]

theorem State.tone_eq (s : State) (n : StationNo) (t : Tone) :
    s.tone n t = s.sending (s.sent ++ s.toHead n [s.displayNow n t]) :=
  s.display_eq n t 0

end Sys2Proof.Machine
end

section
/-! SUPPORT. The slip of a close that prints at once (R152, R154, R155), and the settling of O18. -/

namespace Sys2Proof.Machine

variable {s : State} {n : StationNo} {i : Fin 4}

/-- R155: streaming moves a PRINTING slip on, and leaves the handing order. -/
theorem State.stream_stays {text : List Text} {tok : Nat} {rep : Bool} (k : Nat) {s : State} {sent ready : Nat}
    (hb : (s.st n).slips.busyOnly i) (hs : (s.st n).slips.slots[i] = .printing text tok sent rep ready) :
    ((State.stream n k s).st n).slips.order = (s.st n).slips.order ∧
      ∃ sent ready, ((State.stream n k s).st n).slips.slots[i] = .printing text tok sent rep ready := by
  induction k generalizing s sent ready with
  | zero => exact ⟨rfl, _, _, hs⟩
  | succ k ih =>
    have hf : (s.st n).slips.find Slot.busy = some i := SlipQueue.find_only (by rw [hs]; rfl) hb
    cases hline : (streamed text rep)[sent]? with
    | none =>
      simp only [State.stream, hf, hs, hline]
      exact ⟨trivial, _, _, rfl⟩
    | some line =>
      simp only [State.stream, hf, hs, hline]
      split
      · obtain ⟨ho, hp⟩ := ih (s := ((s.sendDesk n _).updSlips n fun q =>
          q.setSlot i (.printing text tok (sent + 1) rep 0)).updLine n fun l => { l with credit := l.credit - 1 })
          (sent := sent + 1) (ready := 0) (by simpa using SlipQueue.busyOnly_setSlot hb _) (by simp [SlipQueue.setSlot])
        exact ⟨ho.trans (by simp [SlipQueue.setSlot]), hp⟩
      · exact ⟨rfl, _, _, hs⟩

/-- R154: the first QUEUED slip starts when no slot is busy, the printer takes lines and the credit is above 0. -/
theorem SlipQueue.start_first {q : SlipQueue} {l : Line} {text : List Text} (ho : q.order = [i])
    (hs : q.slots[i] = .queued text) (hb : ∀ k : Fin 4, q.slots[k].busy = false) (ht : l.printerTakes = true)
    (hc : 0 < l.credit) :
    q.start l = { q.setSlot i (.printing text q.nextToken 0 false 0) with token := tokenAfter q.nextToken } := by
  simp only [SlipQueue.start, ho, hs, SlipQueue.find_absent hb, ht, hc]
  rfl

/-- R152, R154: a slip handed to an empty queue with a printer that takes lines and credit starts at once. -/
theorem State.settleSlip_prints (hh : (s.st n).ctx.holding = some .reserved)
    (hw : (s.st n).ctx.items.any Item.wantsSlip = true) (hi : (s.st n).slips.slots[i] = .reserved)
    (ho : ∀ k : Fin 4, k ≠ i → (s.st n).slips.slots[k] ≠ .reserved) (hq : (s.st n).slips.order = [])
    (hf : ∀ k : Fin 4, (s.st n).slips.slots[k] = .free ∨ (s.st n).slips.slots[k] = .reserved)
    (ht : (s.st n).line.printerTakes = true) (hc : 0 < (s.st n).line.credit) :
    ((s.settleSlip n).st n).slips.order = [i] ∧ ∃ tok sent ready, ((s.settleSlip n).st n).slips.slots[i] =
      .printing ((s.st n).ctx.slipText n s.mgmt.cabinet s.printHeader s.now) tok sent false ready := by
  generalize htext : (s.st n).ctx.slipText n s.mgmt.cabinet s.printHeader s.now = text
  have hidle : ∀ k : Fin 4, (s.st n).slips.slots[k].busy = false := fun k => by
    rcases hf k with h | h <;> rw [h] <;> rfl
  generalize hhanded : (s.st n).slips.hand text = q
  have hhand : { (s.st n).slips.setSlot i (.queued text) with order := [i] } = q := by
    simp [← hhanded, SlipQueue.hand, SlipQueue.reservedSlot_only hi ho, hq]
  have hslot (k : Fin 4) : q.slots[k] = if k = i then .queued text else (s.st n).slips.slots[k] := by
    rw [← hhand]
    exact getElem_set_fin ..
  have horder : q.order = [i] := by rw [← hhand]
  have hbusy (k : Fin 4) : q.slots[k].busy = false := by
    rw [hslot]
    split
    · rfl
    · exact hidle k
  have hstart := SlipQueue.start_first horder ((hslot i).trans (if_pos rfl)) hbusy ht hc
  have hset : s.settleSlip n = (s.updSlips n fun _ => q).feed n := by
    simp only [State.settleSlip, Ctx.handsSlip, hh, hw, htext, ← hhanded]
    rfl
  obtain ⟨hkeeps, sent, ready, hprints⟩ := State.stream_stays (n := n) (i := i) (text := text) (tok := q.nextToken)
    (rep := false) (s.st n).line.credit (sent := 0) (ready := 0)
    (s := (s.updSlips n fun _ => q).updSlips n fun q => q.start (s.st n).line)
    (by
      simp only [State.updSlips_same, hstart]
      exact SlipQueue.busyOnly_setSlot (fun k _ => hbusy k) _)
    (by
      simp only [State.updSlips_same, hstart]
      exact (getElem_set_fin ..).trans (if_pos rfl))
  have hline (f : SlipQueue → SlipQueue) : ((s.updSlips n f).st n).line = (s.st n).line := by simp
  rw [hset, State.feed, hline]
  simp only [State.updSlips_parts, hline]
  refine ⟨hkeeps.trans ?_, _, sent, ready, hprints⟩
  simp only [State.updSlips_same, hstart]
  exact horder

/-- R39, R42: the state of a close once its timer stops. -/
def State.timeless (s : State) (n : StationNo) : State := s.updCtx n fun c => { c with timer := .stopped }

theorem State.close_waits (h : (s.st n).ctx.awaiting ≠ 0) :
    s.close n = ((s.timeless n).updCtx n fun c => { c with tx := .closing }).tone n .none := by
  refine if_neg ?_
  rw [State.updCtx_same]
  exact h

theorem State.close_completes (h : (s.st n).ctx.awaiting = 0) : s.close n = (s.timeless n).completeClose n := by
  refine if_pos ?_
  rw [State.updCtx_same]
  exact h

theorem State.timeless_st (s : State) (n : StationNo) :
    (s.timeless n).st n = { s.st n with ctx := { (s.st n).ctx with timer := .stopped } } := by
  simp [State.timeless]

end Sys2Proof.Machine

namespace Sys2Proof.Proofs
open Sys2Proof Sys2Proof.Machine

/-- Settles O18: the expiry is a close, and a close that completes settles the slip as it stood. -/
theorem timerExpiryCloses : Obligations.TimerExpiryCloses := by
  intro n s htx htimer
  have hexec : exec (.transactionTimerExpiry n) s = .next (s.fresh.close n) := by
    have hout : (s.st n).ctx.timedOut = true := by
      rcases htx with h | h <;> simp [Ctx.timedOut, htimer, h]
    show Host.Outcome.next (if (s.st n).ctx.timedOut then s.fresh.close n else s.fresh) = _
    rw [if_pos hout]
  rw [hexec]
  refine ⟨fun ha => ?_, fun ha => ⟨_, rfl, fun hnext => ?_⟩⟩
  · rw [State.close_waits (s := s.fresh) ha, State.tone_eq, State.timeless, State.updCtx, State.updCtx, State.upd_upd]
    simp only [State.displayNow, Station.shownState, State.toHead, State.st_upd_same]
    rfl
  rw [State.close_completes (s := s.fresh) ha]
  have hst := s.fresh.timeless_st n
  have hnext' : ((s.fresh.timeless n).st n).ctx.next = .none := by rw [hst]; exact hnext
  obtain ⟨hctx, hslips⟩ := State.completeClose_ends hnext'
  obtain ⟨hjournal, hother⟩ := State.completeClose_leaves hnext'
  have hunheld : ((s.fresh.timeless n).st n).ctx.unheld = (s.st n).ctx.unheld := by rw [hst]; rfl
  have hw : (((s.fresh.timeless n).withdrawBlocks n).st n).ctx.unheld = (s.st n).ctx.unheld := by simpa using hunheld
  have hq : (((s.fresh.timeless n).withdrawBlocks n).st n).slips = (s.st n).slips := by simp [hst]
  have hl : (((s.fresh.timeless n).withdrawBlocks n).st n).line = (s.st n).line := by simp [hst]
  obtain ⟨htext, -, -, hitems, hholding⟩ := Ctx.unheld_slip hw
  refine ⟨by rw [hctx, hst]; rfl, hjournal, fun m hm => ?_, fun i hh hi ho => ⟨fun hc => ?_, ?_⟩, fun hh ho _ => ?_⟩
  · rw [hother m hm, State.timeless, State.updCtx_other _ hm]
    rfl
  · exact State.completeClose_slipSettled hnext hunheld (by rw [hst]; rfl) (by rw [hst]; exact hc)
      rfl rfl rfl rfl rfl hh hi ho
  · rintro ⟨x, hx, hg⟩ horder hfree hprinter hcredit
    have hwants : (s.st n).ctx.items.any Item.wantsSlip = true := (any_wantsSlip _).mpr ⟨x, hx, .inl hg⟩
    have key := State.settleSlip_prints (s := (s.fresh.timeless n).withdrawBlocks n) (hholding.trans hh)
      (by rw [hitems]; exact hwants) (by rw [hq]; exact hi) (by rw [hq]; exact ho) (by rw [hq]; exact horder)
      (by rw [hq]; exact hfree) (by rw [hl]; simp [Line.printerTakes, hprinter]) (by rw [hl]; exact hcredit)
    have hhead : ((s.fresh.timeless n).withdrawBlocks n).printHeader = s.printHeader :=
      State.printHeader_congr (by simp; rfl) (by simp; rfl) (by simp; rfl) (by simp; rfl)
    have hnow : ((s.fresh.timeless n).withdrawBlocks n).now = s.now := by simp [State.now, State.timeless]
    have hcab : ((s.fresh.timeless n).withdrawBlocks n).mgmt.cabinet = s.mgmt.cabinet := by simp [State.timeless]
    rwa [htext, hhead, hnow, hcab, ← hslips] at key
  · have hhands : (((s.fresh.timeless n).withdrawBlocks n).st n).ctx.handsSlip = false := by
      simp [Ctx.handsSlip, hholding, hh]
    rw [hslips, State.settleSlip, hhands]
    have hfree : (s.st n).slips.unreserved := ho
    simp [hq, SlipQueue.release_unreserved hfree]

end Sys2Proof.Proofs
end

section
/-! SUPPORT. The record that a station writes to a journal that is ready, and to one without a FILLING page (R19, R165,
R171). -/

namespace Sys2Proof.Machine

variable {s : State} {n : StationNo}

/-! ### The first sequence number -/

/-- R19: the context of an open transaction once a record that counts for it bears the number k. -/
def Ctx.numbered (c : Ctx) (k : Nat) : Ctx :=
  if c.tx ≠ .idle ∧ c.firstSeq = none then { c with firstSeq := some k } else c

@[simp] theorem Ctx.numbered_keeps (c : Ctx) (k : Nat) :
    (c.numbered k).tx = c.tx ∧ (c.numbered k).interrupted = c.interrupted ∧ (c.numbered k).kind = c.kind ∧
    (c.numbered k).borrower = c.borrower ∧ (c.numbered k).tracked = c.tracked ∧ (c.numbered k).view = c.view ∧
    (c.numbered k).outstanding = c.outstanding ∧ (c.numbered k).maskedReason = c.maskedReason ∧
    (c.numbered k).items = c.items ∧ (c.numbered k).holding = c.holding ∧ (c.numbered k).next = c.next ∧
    (c.numbered k).lookup = c.lookup ∧ (c.numbered k).timer = c.timer ∧ (c.numbered k).period = c.period ∧
    (c.numbered k).cleared = c.cleared ∧ (c.numbered k).stationFlags = c.stationFlags := by
  simp only [Ctx.numbered]
  split <;> simp [Ctx.cleared, Ctx.stationFlags]

/-- R19, R165: the state once station n has written a record into page p. -/
def State.journaled (s : State) (n : StationNo) (p : Fin 128) (r : Record) : State :=
  (s.recorded p { r with flags := r.flags.union (s.st n).ctx.stationFlags }).updCtx n fun c =>
    if r.opens then c.numbered s.journal.counter else c

theorem State.writeStation_journaled {p : Fin 128} (hp : s.ready p) (n : StationNo) (r : Record) :
    s.writeStation n r = (some s.journal.counter, s.journaled n p r) := by
  simp only [State.writeStation, State.write_ready hp, State.journaled]
  have hopens : Record.opens { r with flags := r.flags.union (s.st n).ctx.stationFlags } = r.opens := rfl
  rw [hopens]
  cases r.opens
  · exact congrArg (Prod.mk _) (State.updCtx_self rfl).symm
  · rfl

theorem State.journaled_st (s : State) (n : StationNo) (p : Fin 128) (r : Record) :
    (s.journaled n p r).st n = { s.st n with
      ctx := if r.opens then (s.st n).ctx.numbered s.journal.counter else (s.st n).ctx } := by
  simp only [State.journaled, State.updCtx_same]
  rfl

/-- R19: of its station a record moves the first sequence number only. -/
@[simp] theorem State.journaled_parts (s : State) (n : StationNo) (p : Fin 128) (r : Record) :
    ((s.journaled n p r).st n).line = (s.st n).line ∧ ((s.journaled n p r).st n).alerts = (s.st n).alerts ∧
    ((s.journaled n p r).st n).slips = (s.st n).slips ∧ ((s.journaled n p r).st n).tallies = (s.st n).tallies ∧
    ((s.journaled n p r).st n).ctx.tx = (s.st n).ctx.tx ∧ ((s.journaled n p r).st n).ctx.kind = (s.st n).ctx.kind ∧
    ((s.journaled n p r).st n).ctx.borrower = (s.st n).ctx.borrower ∧
    ((s.journaled n p r).st n).ctx.items = (s.st n).ctx.items ∧
    ((s.journaled n p r).st n).ctx.timer = (s.st n).ctx.timer ∧
    ((s.journaled n p r).st n).ctx.cleared = (s.st n).ctx.cleared := by
  rw [State.journaled_st]
  cases r.opens <;> simp

@[simp] theorem State.journaled_other {m : StationNo} (h : m ≠ n) (p : Fin 128) (r : Record) :
    (s.journaled n p r).st m = s.st m :=
  State.updCtx_other _ h _

theorem State.journaled_journal (s : State) (n : StationNo) (p : Fin 128) (r : Record) :
    (s.journaled n p r).journal =
      (s.recorded p { r with flags := r.flags.union (s.st n).ctx.stationFlags }).journal := rfl

/-- A record that has joined reads of the rest of the state only the journal. -/
theorem State.recorded_journal {u : State} (h : u.journal = s.journal) (p : Fin 128) (r : Record) :
    (u.recorded p r).journal = (s.recorded p r).journal := by
  simp only [State.recorded, h]

theorem State.lost_journal {u : State} (h : u.journal = s.journal) : u.lost.journal = s.lost.journal := by
  simp only [State.lost, h]

/-- Whether the journal is ready for a record shows in the journal and the alarms. -/
theorem State.ready_of {u : State} {p : Fin 128} (h : s.ready p) (hj : u.journal = s.journal)
    (ha : u.mgmt.alarms = s.mgmt.alarms) (hc : u.mgmt.alarmCond = s.mgmt.alarmCond) : u.ready p := by
  simp only [State.ready, State.evalJournal_eq_self_iff, State.alarmsSettled, hj, ha, hc] at h ⊢
  exact h

/-! ### Other stations -/

@[simp] theorem State.updItem_other {m : StationNo} (h : m ≠ n) (i : Nat) (f : Item → Item) :
    (s.updItem n i f).st m = s.st m :=
  State.updCtx_other _ h _

@[simp] theorem State.heard_other {m : StationNo} (h : m ≠ n) : (s.heard n).st m = s.st m :=
  State.updLine_other _ h _

/-! ### The borrower's entry -/

theorem State.borrower?_number {b : Nat} {e : Borrower} (h : s.borrower? b = some e) : e.number = b := by
  simpa using List.find?_some h

/-- R60: a posting to the entry that stands for the transaction's borrower. -/
theorem State.postLoan_standing {b : Nat} {e : Borrower} (hb : (s.st n).ctx.borrower = some b)
    (he : s.borrower? b = some e) (f : Nat → Nat) :
    s.postLoan n f = s.setBorrower (e.post fun e => { e with onLoan := f e.onLoan }) := by
  simp only [State.postLoan, hb, he]

/-- R60, R61: the entries after a posting to the one that stands for b. -/
theorem State.setBorrower_posted {b : Nat} {e : Borrower} (he : s.borrower? b = some e) {f : Borrower → Borrower}
    (hf : (f e).number = e.number) :
    (s.setBorrower (e.post f)).borrower? b = some { f e with changed := true, inFlight := false } ∧
    ∀ d, d ≠ b → (s.setBorrower (e.post f)).borrower? d = s.borrower? d := by
  have hn : (e.post f).number = b := hf.trans (State.borrower?_number he)
  refine ⟨?_, fun d hd => s.borrower?_setBorrower_other _ (hn ▸ hd)⟩
  rw [← hn, State.borrower?_setBorrower_same]
  rfl

end Sys2Proof.Machine
end

section
/-! SUPPORT. Keys at an ACTIVE station, the run that opens, and the entry that CANCEL voids (R17, R32, R37). -/

namespace Sys2Proof.Machine

variable {s : State} {n : StationNo}

theorem exec_key (h : (s.st n).line.link = .active) (k : Key) :
    exec (.key n k) s = .next ((s.fresh.heard n).keyInActive n k) := by
  refine congrArg Host.Outcome.next ?_
  have hatt : (s.fresh.st n).line.link ≠ .detached := by simp [h]
  simp only [State.takeKey, State.wake_attached hatt, State.heard_st, State.fresh_st, h]

/-- R2: a key that changes the station and draws a tone. -/
theorem State.heard_upd_tone {f : Station → Station}
    (hl : (f ((s.heard n).st n)).line.link = .active) (tone : Tone) :
    ((s.fresh.heard n).upd n f).tone n tone = ((s.heard n).upd n f).sending
      [.desk n (.display (some (f ((s.heard n).st n)).ctx.tx) (f ((s.heard n).st n)).alerts.displayed 0 tone)] := by
  have hst : ((s.fresh.heard n).upd n f).st n = f ((s.heard n).st n) := by
    rw [State.st_upd_same]
    rfl
  rw [State.tone_attached (by rw [hst, hl]; decide)]
  simp only [State.displayNow, Station.shownState, hst, hl, reduceCtorEq, if_false]
  rfl

/-! ### Runs -/

/-- R32: station n once a discharge run has opened. -/
def Station.withRun (t : Station) : Station :=
  { t with
    slips := t.slips.reserve
    ctx := Ctx.startTimer { t.ctx with
      tx := .returns, kind := some .discharge
      holding := some (if t.slips.freeSlot.isSome then .reserved else .slipless) } t.alerts.hold }

theorem State.openRun_eq (s : State) (n : StationNo) (tone : Tone) :
    s.openRun n tone = (s.upd n Station.withRun).tone n tone := by
  simp only [State.openRun, State.startTimer, State.updCtx, State.updSlips, State.upd_upd, State.st_upd_same]
  refine congrArg (State.tone · n tone) (State.upd_congr ?_)
  rfl

/-! ### The entry that CANCEL takes -/

theorem Ctx.lastLive_none {c : Ctx} (h : ∀ y ∈ c.items, y.state = .void) : c.lastLive = none := by
  refine List.find?_eq_none.mpr fun i _ => ?_
  cases hi : c.items[i]? with
  | none => simp
  | some x => simp [h x (List.mem_of_getElem? hi)]

/-- R37: the last entry that is not VOID. -/
theorem Ctx.lastLive_split {c : Ctx} {xs ys : List Item} {x : Item} (h : c.items = xs ++ x :: ys)
    (hx : x.state ≠ .void) (hys : ∀ y ∈ ys, y.state = .void) : c.lastLive = some xs.length := by
  have hlater : ∀ k ∈ List.range ys.length, (((xs ++ x :: ys)[xs.length + 1 + k]?).map fun x =>
      decide (x.state ≠ .void)).getD false = false := by
    intro k hk
    have hk' : k < ys.length := List.mem_range.mp hk
    have : (xs ++ x :: ys)[xs.length + 1 + k]? = some ys[k] := by
      rw [List.getElem?_append_right (by omega), show xs.length + 1 + k - xs.length = k + 1 by omega]
      simp [hk']
    simp [this, hys _ (List.getElem_mem hk')]
  have hlen : (xs ++ x :: ys).length = xs.length + 1 + ys.length := by simp; omega
  simp only [Ctx.lastLive, h]
  rw [hlen, List.range_add, List.reverse_append, List.find?_append, List.find?_eq_none.mpr, List.range_succ]
  · simp [hx]
  · intro i hi
    obtain ⟨k, hk, rfl⟩ := List.mem_map.mp (List.mem_reverse.mp hi)
    simpa using hlater k hk

theorem modify_split {α : Type} (xs ys : List α) (x : α) (f : α → α) :
    (xs ++ x :: ys).modify xs.length f = xs ++ f x :: ys := by
  induction xs with
  | nil => rfl
  | cons y xs ih => simp [ih]

theorem State.entry_split {xs ys : List Item} {x : Item} (h : (s.st n).ctx.items = xs ++ x :: ys) :
    s.entry n xs.length = some x := by
  simp [State.entry, h]

theorem Item.waitsOverride_iff (x : Item) :
    x.waitsOverride = true ↔ x.state = .awaiting ∧ x.waiting = some .override := by
  simp [Item.waitsOverride]

/-- R27: the entries that wait for OVERRIDE, by their index. -/
theorem Ctx.mem_overrides {c : Ctx} {i : Nat} :
    i ∈ c.overrides ↔ ∃ x, c.items[i]? = some x ∧ x.waitsOverride = true := by
  simp only [Ctx.overrides, List.mem_filter, List.mem_range]
  constructor
  · rintro ⟨-, h⟩
    cases hx : c.items[i]? with
    | none => simp [hx] at h
    | some x => exact ⟨x, rfl, by simpa [hx] using h⟩
  · rintro ⟨x, hx, h⟩
    exact ⟨(List.getElem?_eq_some_iff.mp hx).1, by simp [hx, h]⟩

theorem Ctx.overrides_isEmpty {c : Ctx} : c.overrides.isEmpty = true ↔ ∀ x ∈ c.items, x.waitsOverride = false := by
  simp only [List.isEmpty_iff, List.eq_nil_iff_forall_not_mem, Ctx.mem_overrides]
  constructor
  · intro h x hx
    obtain ⟨i, hi⟩ := List.mem_iff_getElem?.mp hx
    by_contra hw
    exact h i ⟨x, hi, by simpa using hw⟩
  · rintro h i ⟨x, hx, hw⟩
    simp [h x (List.mem_of_getElem? hx)] at hw

/-! ### Events of a resolver at a station without a hold -/

@[simp] theorem Resolver.tidy_hold (r : Resolver) (l : Level) : (r.tidy l).hold = r.hold := by
  simp only [Resolver.tidy]
  split <;> rfl

@[simp] theorem Resolver.leave_hold (r : Resolver) (l : Level) : (r.leave l).hold = r.hold := by
  simp only [Resolver.leave, Resolver.rotate]
  repeat' split
  all_goals simp

@[simp] theorem Resolver.withdraw_hold (r : Resolver) (l : Level) : (r.withdraw l).hold = r.hold := by
  simp [Resolver.withdraw, Resolver.unpend]

/-- R139: resolution leaves the hold condition as it was reported. -/
@[simp] theorem State.resolve_hold (s : State) (n : StationNo) (k : Nat) :
    ((State.resolve n k s).st n).alerts.hold = (s.st n).alerts.hold :=
  State.resolve_preserves (P := fun r => r.hold = (s.st n).alerts.hold) (fun _ _ _ h => h) (fun _ _ h => h)
    (fun r l _ h => by simpa using h) k s rfl

/-- R137 to R139: an event that can end no hold, at a station that is not CLOSING. -/
theorem State.endEvent_unheld (hh : (s.st n).alerts.hold = false) (hc : (s.st n).ctx.tx ≠ .closing) (tone : Tone) :
    s.endEvent n tone id = ((State.resolve n 8 s).reportHold n).finishShow n tone := by
  simp only [State.endEvent, State.resolve_hold, hh, Bool.false_and, Bool.false_eq_true, if_false, id]
  exact State.closeIfDone_of_ne (by simpa using hc)

/-- What an event of the resolver leaves of its station and of all else, where it can end no hold. -/
theorem State.endEvent_unheld_keeps (hh : (s.st n).alerts.hold = false) (hc : (s.st n).ctx.tx ≠ .closing) (tone : Tone) :
    ((s.endEvent n tone id).st n).line = (s.st n).line ∧ ((s.endEvent n tone id).st n).slips = (s.st n).slips ∧
    ((s.endEvent n tone id).st n).tallies = (s.st n).tallies ∧
    ((s.endEvent n tone id).st n).ctx.unheld = (s.st n).ctx.unheld ∧
    (∀ m, m ≠ n → (s.endEvent n tone id).st m = s.st m) ∧
    s.endEvent n tone id = { s with
      stations := (s.endEvent n tone id).stations, sent := (s.endEvent n tone id).sent } := by
  rw [State.endEvent_unheld hh hc]
  refine ⟨by simp, by simp, by simp, by simp, fun m hm => by simp [hm], State.eq_of_rest (by simp)⟩

/-- R137: after an event no level stands that stood in neither set. -/
theorem State.endEvent_unheld_absent (hh : (s.st n).alerts.hold = false) (hc : (s.st n).ctx.tx ≠ .closing) (tone : Tone)
    {l : Level} (hp : (s.st n).alerts.pending.mem l = false) (hi : (s.st n).alerts.inService.mem l = false) :
    ((s.endEvent n tone id).st n).alerts.pending.mem l = false ∧
      ((s.endEvent n tone id).st n).alerts.inService.mem l = false := by
  rw [State.endEvent_unheld hh hc]
  simpa using State.resolve_absent 8 hp hi

end Sys2Proof.Machine
end

section
/-! SUPPORT. What CANCEL makes of each kind of entry (R37), and the settling of O12. -/

namespace Sys2Proof.Machine

variable {s : State} {n : StationNo} {xs ys : List Item} {x : Item}

/-- R37: CANCEL of a last entry by its state. -/
theorem State.cancelLast_awaiting (h : (s.st n).ctx.items = xs ++ x :: ys) (hx : x.state = .awaiting)
    (hys : ∀ y ∈ ys, y.state = .void) : s.cancelLast n =
      (if x.waitsOverride then ((s.voidQuery x.query).updItem n xs.length Item.voided).withdrawItemLimit n
        else (s.voidQuery x.query).updItem n xs.length Item.voided).tone n .accept := by
  simp only [State.cancelLast, Ctx.lastLive_split h (by simp [hx]) hys, State.entry_split h, hx]

theorem State.cancelLast_granted (h : (s.st n).ctx.items = xs ++ x :: ys) (hx : x.state = .granted)
    (hys : ∀ y ∈ ys, y.state = .void) : s.cancelLast n = s.voidGrant n xs.length x := by
  simp only [State.cancelLast, Ctx.lastLive_split h (by simp [hx]) hys, State.entry_split h, hx]

theorem State.cancelLast_refused (h : (s.st n).ctx.items = xs ++ x :: ys) (hx : x.state = .refused)
    (hys : ∀ y ∈ ys, y.state = .void) : s.cancelLast n = (s.updItem n xs.length Item.voided).tone n .accept := by
  simp only [State.cancelLast, Ctx.lastLive_split h (by simp [hx]) hys, State.entry_split h, hx]

theorem State.updItem_split (h : (s.st n).ctx.items = xs ++ x :: ys) (f : Item → Item) :
    s.updItem n xs.length f = s.updCtx n fun c => { c with items := xs ++ f x :: ys } := by
  rw [State.updItem, State.updCtx, State.updCtx]
  exact State.upd_congr (by simp only [h, modify_split])

/-- R37, R134: the withdrawal of L5 when the last entry that waited for OVERRIDE is void. -/
theorem State.withdrawItemLimit_last (h : ∀ y ∈ (s.st n).ctx.items, y.waitsOverride = false) :
    s.withdrawItemLimit n = (s.updAlerts n fun r => r.withdraw .l5).endEvent n .none id :=
  if_pos (Ctx.overrides_isEmpty.mpr h)

theorem State.withdrawItemLimit_more {y : Item} (hy : y ∈ (s.st n).ctx.items) (hw : y.waitsOverride = true) :
    s.withdrawItemLimit n = s :=
  if_neg fun h => by simp [Ctx.overrides_isEmpty.mp h y hy] at hw

/-- R116: the void of a WAITING query that an entry holds. -/
theorem State.voidQuery_waiting {g : Tag} {q : Question} {k : Nat} (h : s.queries[g].state = .waiting q k) :
    s.voidQuery (some (g, s.queries[g].gen)) =
      { s with queries := s.queries.set g ⟨s.queries[g].gen, .lapsed q s.service.patience .void⟩ } := by
  simp only [State.voidQuery, if_pos, State.lapse, h]
  rfl

/-- R41, R36: a close with RETURN as its next action leaves a run with an empty list. -/
theorem State.completeClose_run (h : (s.st n).ctx.next = .ret) : ((s.completeClose n).st n).ctx.tx = .returns ∧
    ((s.completeClose n).st n).ctx.kind = some .discharge ∧ ((s.completeClose n).st n).ctx.items = [] := by
  have hn : (((s.withdrawBlocks n).settleSlip n).st n).ctx.next = .ret := by
    have hu : (((s.withdrawBlocks n).settleSlip n).st n).ctx.unheld = (s.st n).ctx.unheld := by simp
    exact (Ctx.unheld_slip hu).2.1.trans h
  simp only [State.completeClose, hn, State.takeNext, State.openRun_eq, State.tone_st, State.st_upd_same]
  generalize hv : (((s.withdrawBlocks n).settleSlip n).updCtx n Ctx.cleared).tone n .none = v
  have hc : (v.st n).ctx = (v.st n).ctx.cleared := by simp [← hv]
  refine ⟨rfl, rfl, ?_⟩
  show ((v.applyStaged n).st n).ctx.items = []
  rw [State.applyStaged_cleared hc, hc]
  rfl

/-- R37: an entry is voided with tone ACCEPT. -/
theorem State.updItem_voided_tone (hlink : (s.st n).line.link = .active) (ht : (s.st n).ctx.tx = .opened)
    (h : (s.st n).ctx.items = xs ++ x :: ys) (hs : s.sent = []) :
    (s.updItem n xs.length Item.voided).tone n .accept =
      (s.updCtx n fun c => { c with items := xs ++ x.voided :: ys }).sending
        [.desk n (.display (some .opened) (s.st n).alerts.displayed 0 .accept)] := by
  rw [State.updItem_split h, State.tone_attached (by simp [hlink])]
  simp [State.displayNow, Station.shownState, hlink, ht, hs]

/-- R37: the void of a GRANTED entry in a journal that is ready. -/
theorem State.voidGrant_ready {p : Fin 128} {b i k : Nat} {e : Borrower} (hp : s.ready p)
    (hb : (s.st n).ctx.borrower = some b) (he : s.borrower? b = some e) (hk : x.chargeSeq = some k) :
    s.voidGrant n i x =
      ((((((s.journaled n p { s.record .void (some n) with flags := x.flags, borrower := some b, item := some x.number }
        ).setBorrower (e.post fun e => { e with onLoan := e.onLoan - 1 })).dropLoanOf k).updItem n i Item.voided
        ).updTallies n fun t => { t with voids := sat32 t.voids 1 }).tone n .accept) := by
  simp only [State.voidGrant, State.writeStation_journaled hp, hb, hk]
  rw [State.postLoan_standing (s := s.journaled n p _) (b := b) (e := e) (by simp [hb]) (by exact he)]

/-- R31: what a full journal makes of a decision, at a station that has sent nothing yet. -/
theorem journalFull_display (hlink : (s.st n).line.link = .active) (ht : (s.st n).ctx.tx = .opened) :
    (s.fresh.heard n).lost.journalFull n = (((s.heard n).lost.refusalCounted n).sending
      [.desk n (.display (some .opened) (s.st n).alerts.displayed 250 .refuse)]) := by
  have hatt : (((s.fresh.heard n).lost.tallyRefusal n).st n).line.link ≠ .detached := by simp [hlink]
  rw [State.journalFull, State.display_eq, State.toHead_attached hatt]
  simp [Station.shownState, hlink, ht]
  rfl

end Sys2Proof.Machine

namespace Sys2Proof.Proofs
open Sys2Proof Sys2Proof.Machine

variable {s : State} {n : StationNo} {xs ys : List Item} {x : Item}

/-- R39: RETURN and CANCEL of a run close it. -/
theorem runKeys_close (hlink : (s.st n).line.link = .active) (ht : (s.st n).ctx.tx = .returns) {k : Key}
    (hk : k = .ret ∨ k = .cancel) : exec (.key n k) s = .next ((s.fresh.heard n).close n) := by
  rw [exec_key hlink]
  refine congrArg Host.Outcome.next ?_
  obtain rfl | rfl := hk
  · simp [State.keyInActive, State.returnKey, ht]
  · simp [State.keyInActive, State.cancelKey, ht]

/-- R39: a close that waits for AWAITING entries, at the heard state. -/
theorem heard_close_waits (hlink : (s.st n).line.link = .active) (ha : (s.st n).ctx.awaiting ≠ 0) :
    (s.fresh.heard n).close n = ((s.heard n).updCtx n fun c => { c with timer := .stopped, tx := .closing }).sending
      [.desk n (.display (some .closing) (s.st n).alerts.displayed 0 .none)] := by
  rw [State.close_waits (s := s.fresh.heard n) (by simpa using ha), State.timeless, State.updCtx, State.updCtx,
    State.upd_upd, State.heard_upd_tone (by simpa using hlink)]
  simp
  rfl

/-- R32, R36: RETURN in IDLE opens a run. -/
theorem exec_ret_idle (hlink : (s.st n).line.link = .active) (ht : (s.st n).ctx.tx = .idle) :
    exec (.key n .ret) s = .next (((s.heard n).upd n Station.withRun).sending
      [.desk n (.display (some .returns) (s.st n).alerts.displayed 0 .accept)]) := by
  rw [exec_key hlink]
  refine congrArg Host.Outcome.next ?_
  simp only [State.keyInActive, State.returnKey, State.heard_st, State.fresh_st, ht]
  rw [State.openRun_eq, State.heard_upd_tone (by simpa [Station.withRun] using hlink)]
  simp [Station.withRun, Ctx.startTimer]

/-- R37: the CANCEL key in OPEN. -/
theorem exec_cancel_opened (hlink : (s.st n).line.link = .active) (ht : (s.st n).ctx.tx = .opened) :
    exec (.key n .cancel) s = .next ((s.fresh.heard n).cancelLast n) := by
  rw [exec_key hlink]
  refine congrArg Host.Outcome.next ?_
  simp [State.keyInActive, State.cancelKey, ht]

/-- R37, R134: CANCEL of the last entry that waited for OVERRIDE. -/
theorem cancel_last (hlink : (s.st n).line.link = .active) (ht : (s.st n).ctx.tx = .opened)
    (h : (s.st n).ctx.items = xs ++ x :: ys) (hys : ∀ y ∈ ys, y.state = .void) (hh : (s.st n).alerts.hold = false)
    (hxs : ∀ y ∈ xs, y.waitsOverride = false) :
    let t := (((s.fresh.heard n).updItem n xs.length Item.voided).withdrawItemLimit n).tone n .accept
    (t.st n).ctx.items =
        xs ++ { x with state := .void, waiting := none, query := none, parked := none } :: ys ∧
      (t.st n).alerts.pending.mem .l5 = false ∧ (t.st n).alerts.inService.mem .l5 = false ∧
      (t.st n).tallies = (s.st n).tallies ∧ (t.st n).slips = (s.st n).slips ∧
      t.sent.getLast? = some (.desk n (t.displayNow n .accept)) ∧
      (∀ m, m ≠ n → t.st m = s.st m) ∧ t = { s with stations := t.stations, sent := t.sent } := by
  intro t
  generalize hu : (s.fresh.heard n).updItem n xs.length Item.voided = u
  have hitems : (u.st n).ctx.items = xs ++ x.voided :: ys := by simp [← hu, h, modify_split]
  have hnone : ∀ y ∈ (u.st n).ctx.items, y.waitsOverride = false := by
    intro y hy
    rw [hitems] at hy
    rcases List.mem_append.mp hy with hy | hy
    · exact hxs y hy
    · rcases List.mem_cons.mp hy with rfl | hy
      · simp [Item.waitsOverride, Item.voided]
      · simp [Item.waitsOverride, hys y hy]
  have ht' : t = ((u.updAlerts n fun r => r.withdraw .l5).endEvent n .none id).tone n .accept := by
    simp only [t, hu, State.withdrawItemLimit_last hnone]
  have hhold : ((u.updAlerts n fun r => r.withdraw .l5).st n).alerts.hold = false := by simp [← hu, hh]
  have htx : ((u.updAlerts n fun r => r.withdraw .l5).st n).ctx.tx ≠ .closing := by simp [← hu, ht]
  obtain ⟨hline, hslips, htallies, hctx, hother, hrest⟩ := State.endEvent_unheld_keeps hhold htx .none
  obtain ⟨hp, hi⟩ := State.endEvent_unheld_absent hhold htx .none (l := .l5) (by simp) (by simp)
  have hlast : ((((u.updAlerts n fun r => r.withdraw .l5).endEvent n .none id).st n).line.link) ≠ .detached := by
    rw [hline]
    simp [← hu, hlink]
  rw [ht']
  generalize (u.updAlerts n fun r => r.withdraw .l5).endEvent n .none id = v at *
  refine ⟨?_, by simpa using hp, by simpa using hi, ?_, ?_, ?_, fun m hm => ?_, ?_⟩
  · rw [State.tone_st, (Ctx.unheld_slip hctx).2.2.2.1, (State.updAlerts_parts u n n _).2.1]
    exact hitems
  · rw [State.tone_st, htallies]
    simp [← hu]
  · rw [State.tone_st, hslips]
    simp [← hu]
  · rw [State.tone_attached hlast]
    simp [State.displayNow]
  · rw [State.tone_st, hother m hm]
    rw [State.updAlerts_other _ hm, ← hu, State.updItem, State.updCtx_other _ hm]
    exact State.updLine_other _ hm _
  · rw [State.tone_attached hlast, hrest, ← hu]
    rfl

section
variable (hlink : (s.st n).line.link = .active) (ht : (s.st n).ctx.tx = .opened)
  (hitems : (s.st n).ctx.items = xs ++ x :: ys) (hys : ∀ y ∈ ys, y.state = .void)
include hlink ht hitems hys

/-- R37: CANCEL of a REFUSED entry. -/
theorem cancel_refused (hx : x.state = .refused) : exec (.key n .cancel) s = .next
    (((s.heard n).updCtx n fun c => { c with items := xs ++ x.voided :: ys }).sending
      [.desk n (.display (some .opened) (s.st n).alerts.displayed 0 .accept)]) := by
  have hitems' : ((s.fresh.heard n).st n).ctx.items = xs ++ x :: ys := by simpa using hitems
  rw [exec_cancel_opened hlink ht, State.cancelLast_refused hitems' hx hys,
    State.updItem_voided_tone (by simpa using hlink) (by simpa using ht) hitems' rfl, State.heard_st]
  rfl

/-- R37, R116: CANCEL of an entry that waits for REPLY. -/
theorem cancel_reply (hx : x.state = .awaiting) (hw : x.waiting = some .reply) {g : Tag} {q : Question} {k : Nat}
    (hq : x.query = some (g, s.queries[g].gen)) (hst : s.queries[g].state = .waiting q k) :
    exec (.key n .cancel) s = .next
      ({ (s.heard n).updCtx n (fun c => { c with items := xs ++ x.voided :: ys }) with
        queries := s.queries.set g ⟨s.queries[g].gen, .lapsed q s.service.patience .void⟩ }.sending
          [.desk n (.display (some .opened) (s.st n).alerts.displayed 0 .accept)]) := by
  have hitems' : ((s.fresh.heard n).st n).ctx.items = xs ++ x :: ys := by simpa using hitems
  generalize hu : { s.fresh.heard n with
    queries := s.queries.set g ⟨s.queries[g].gen, .lapsed q s.service.patience .void⟩ } = u
  have hst' : u.st n = (s.heard n).st n := by rw [← hu]; rfl
  have hvoid : (s.fresh.heard n).voidQuery x.query = u := by
    rw [hq, ← hu]
    exact State.voidQuery_waiting (s := s.fresh.heard n) hst
  have hwaits : x.waitsOverride = false := by simp [Item.waitsOverride, hw]
  rw [exec_cancel_opened hlink ht, State.cancelLast_awaiting hitems' hx hys, hwaits, hvoid, if_neg Bool.false_ne_true,
    State.updItem_voided_tone (s := u) (by simp [hst', hlink]) (by simp [hst', ht]) (by simpa [hst'] using hitems)
      (by rw [← hu]; rfl), hst', ← hu, State.heard_st]
  rfl

/-- R37: CANCEL of an entry that waits for OVERRIDE, while another waits so. -/
theorem cancel_override (hx : x.state = .awaiting) (hq : x.query = none) :
    (∃ y ∈ xs, y.state = .awaiting ∧ y.waiting = some .override) → exec (.key n .cancel) s = .next
      (((s.heard n).updCtx n fun c => { c with items := xs ++ x.voided :: ys }).sending
        [.desk n (.display (some .opened) (s.st n).alerts.displayed 0 .accept)]) := by
  rintro ⟨y, hy, hys'⟩
  have hitems' : ((s.fresh.heard n).st n).ctx.items = xs ++ x :: ys := by simpa using hitems
  have hmore : ((s.fresh.heard n).updItem n xs.length Item.voided).withdrawItemLimit n =
      (s.fresh.heard n).updItem n xs.length Item.voided :=
    State.withdrawItemLimit_more (y := y) (by simp [hitems, modify_split, hy]) ((Item.waitsOverride_iff y).mpr hys')
  rw [exec_cancel_opened hlink ht, State.cancelLast_awaiting hitems' hx hys, hq]
  simp only [State.voidQuery, hmore, ite_self]
  rw [State.updItem_voided_tone (by simpa using hlink) (by simpa using ht) hitems' rfl, State.heard_st]
  rfl

theorem exec_cancel_override (hx : x.state = .awaiting) (hw : x.waiting = some .override) (hq : x.query = none) :
    exec (.key n .cancel) s =
      .next ((((s.fresh.heard n).updItem n xs.length Item.voided).withdrawItemLimit n).tone n .accept) := by
  have hwaits : x.waitsOverride = true := (Item.waitsOverride_iff x).mpr ⟨hx, hw⟩
  rw [exec_cancel_opened hlink ht, State.cancelLast_awaiting (by simpa using hitems) hx hys, hwaits, if_pos rfl, hq]
  rfl

/-- R31, R37: CANCEL of a GRANTED entry with no page FILLING. -/
theorem cancel_granted_full (hx : x.state = .granted) (hf : s.journal.filling? = none) (ha : s.alarmsSettled) :
    exec (.key n .cancel) s = .next (((s.heard n).lost.refusalCounted n).sending
      [.desk n (.display (some .opened) (s.st n).alerts.displayed 250 .refuse)]) := by
  rw [exec_cancel_opened hlink ht, State.cancelLast_granted (by simpa using hitems) hx hys, State.voidGrant,
    State.writeStation_lost (s.fresh.heard n) n _ hf ha]
  exact congrArg Host.Outcome.next (journalFull_display hlink ht)

/-- R37, R128: CANCEL of a GRANTED entry in a journal that is ready. -/
theorem cancel_granted (hx : x.state = .granted) {p : Fin 128} {b k : Nat} {e : Borrower} (hp : s.ready p)
    (hb : (s.st n).ctx.borrower = some b) (he : s.borrower? b = some e) (hk : x.chargeSeq = some k) :
    ∃ t r, exec (.key n .cancel) s = .next t ∧ (t.st n).ctx.items = xs ++ x.voided :: ys ∧
      t.borrower? b = some { e with onLoan := e.onLoan - 1, changed := true, inFlight := false } ∧
      (∀ d, d ≠ b → t.borrower? d = s.borrower? d) ∧ t.loans = s.loans.filter (fun l => l.chargeSeq != k) ∧
      r.kind = .void ∧ r.station = some n ∧ r.borrower = some b ∧ r.item = some x.number ∧
      t.journal = (s.recorded p r).journal ∧
      (t.st n).tallies = { (s.st n).tallies with voids := min 4294967295 ((s.st n).tallies.voids + 1) } ∧
      (∀ m, m ≠ n → t.st m = s.st m) ∧
      t.sent = [.desk n (.display (some .opened) (s.st n).alerts.displayed 0 .accept)] ∧
      t = { s with stations := t.stations, borrowers := t.borrowers, loans := t.loans, journal := t.journal,
                   sent := t.sent } := by
  have hready : (s.fresh.heard n).ready p := State.ready_of hp rfl rfl rfl
  generalize hr : { s.record .void (some n) with
    flags := x.flags, borrower := some b, item := some x.number } = r
  generalize hu : (((((s.fresh.heard n).journaled n p r).setBorrower
    (e.post fun e => { e with onLoan := e.onLoan - 1 })).dropLoanOf k).updItem n xs.length Item.voided).updTallies n
      (fun t => { t with voids := sat32 t.voids 1 }) = u
  have hexec : exec (.key n .cancel) s = .next (u.tone n .accept) := by
    rw [exec_cancel_opened hlink ht, State.cancelLast_granted (by simpa using hitems) hx hys,
      State.voidGrant_ready hready (by simpa using hb) (by exact he) hk, ← hu, ← hr]
    rfl
  have hline : (u.st n).line.link = .active := by simp [← hu, hlink]
  have htx : (u.st n).ctx.tx = .opened := by simp [← hu, ht]
  rw [State.tone_attached (by simp [hline])] at hexec
  obtain ⟨hsame, helse⟩ := State.setBorrower_posted (s := s) he (f := fun e => { e with onLoan := e.onLoan - 1 }) rfl
  refine ⟨_, { r with flags := r.flags.union (s.st n).ctx.stationFlags }, hexec, ?_, ?_, fun d hd => ?_, ?_, ?_, ?_, ?_,
    ?_, ?_, ?_, fun m hm => ?_, ?_, ?_⟩
  · simp [← hu, hitems, modify_split]
  · exact Eq.trans (by rw [← hu]; rfl) hsame
  · exact Eq.trans (by rw [← hu]; rfl) (helse d hd)
  · rw [← hu]; rfl
  · rw [← hr]; rfl
  · rw [← hr]; rfl
  · rw [← hr]
  · rw [← hr]
  · have hflags : ((s.fresh.heard n).st n).ctx.stationFlags = (s.st n).ctx.stationFlags := by simp
    refine Eq.trans (by rw [← hu]; rfl) (((s.fresh.heard n).journaled_journal n p r).trans ?_)
    rw [hflags]
    exact State.recorded_journal rfl _ _
  · simp [← hu, sat32, satAdd, Config.maxCount32]
  · simp [← hu, hm]
  · have hsent : u.sent = [] := by rw [← hu]; rfl
    have halerts : (u.st n).alerts = (s.st n).alerts := by simp [← hu]
    simp [State.displayNow, Station.shownState, hsent, hline, htx, halerts]
  · rw [← hu]
    rfl

end

/-- Settles O12: each key by its state, and each entry by its own. -/
theorem returnAndCancelKeys : Obligations.ReturnAndCancelKeys := by
  intro n s hlink
  have hatt : (s.st n).line.link ≠ .detached := by simp [hlink]
  have htone : ∀ k t, (s.fresh.heard n).keyInActive n k = (s.fresh.heard n).tone n t →
      exec (.key n k) s = .next ((s.heard n).onlyTone n t) := by
    intro k t h
    rw [exec_key hlink, h, State.heard_tone hatt]
  refine ⟨fun ht => ⟨fun i hi => ?_, fun hi => ?_, ?_⟩, fun ht => ⟨?_, ?_⟩, fun ht => ⟨?_, ?_⟩, fun ht => ⟨?_, ?_⟩,
    fun ht => ⟨fun ha => ⟨?_, ?_⟩, fun ha hn k hk => ?_⟩, fun ht => ⟨fun ha => ?_, fun ha => ?_, fun hv => ?_, ?_⟩⟩
  · rw [exec_ret_idle hlink ht]
    refine congrArg Host.Outcome.next (congrArg (State.sending · _) ?_)
    simp only [State.updCtx, State.updSlips, State.upd_upd]
    refine State.upd_congr ?_
    simp only [State.heard_st, Station.withRun, SlipQueue.reserve, hi]
    rfl
  · rw [exec_ret_idle hlink ht]
    refine congrArg Host.Outcome.next (congrArg (State.sending · _) ?_)
    refine State.upd_congr ?_
    simp only [State.heard_st, Station.withRun, SlipQueue.reserve, hi]
    rfl
  · rw [exec_key hlink]
    simp [State.keyInActive, State.cancelKey, ht]
    rfl
  · exact htone _ _ (by simp [State.keyInActive, State.returnKey, ht])
  · exact htone _ _ (by simp [State.keyInActive, State.cancelKey, ht])
  · exact htone _ _ (by simp [State.keyInActive, State.returnKey, ht])
  · rw [exec_key hlink, exec_key hlink]
    simp [State.keyInActive, State.cancelKey, ht]
  · rw [exec_key hlink]
    refine congrArg Host.Outcome.next ?_
    simp only [State.keyInActive, State.returnKey, State.heard_st, State.fresh_st, ht]
    rw [State.updCtx, State.heard_upd_tone (by simpa using hlink), State.onlyTone, State.toHead_attached (by simpa using hatt)]
    simp [State.displayNow, Station.shownState, hlink, ht]
    rfl
  · exact htone _ _ (by simp [State.keyInActive, State.cancelKey, ht])
  · exact (runKeys_close hlink ht (.inl rfl)).trans (congrArg _ (heard_close_waits hlink ha))
  · exact (runKeys_close hlink ht (.inr rfl)).trans (congrArg _ (heard_close_waits hlink ha))
  · refine ⟨_, runKeys_close hlink ht hk, ?_⟩
    rw [State.close_completes (by simpa using ha), (State.completeClose_ends (by simpa [State.timeless] using hn)).1]
    simp [State.timeless_st, Ctx.cleared]
  · rw [exec_key hlink]
    refine congrArg Host.Outcome.next ?_
    simp only [State.keyInActive, State.returnKey, State.heard_st, State.fresh_st, ht, State.closeFor]
    rw [State.close_waits (by simpa [Ctx.awaiting, Ctx.inState] using ha), State.timeless, State.updCtx, State.updCtx,
      State.updCtx, State.upd_upd, State.upd_upd, State.heard_upd_tone (by simpa using hlink)]
    simp
    rfl
  · refine ⟨_, exec_key hlink _, ?_⟩
    simp only [State.keyInActive, State.returnKey, State.heard_st, State.fresh_st, ht, State.closeFor]
    rw [State.close_completes (by simpa [Ctx.awaiting, Ctx.inState] using ha)]
    exact State.completeClose_run (by simp [State.timeless])
  · rw [exec_cancel_opened hlink ht, State.cancelLast, Ctx.lastLive_none (by simpa using hv)]
    exact congrArg Host.Outcome.next (State.heard_tone hatt .refuse)
  · intro xs x ys hitems hys
    exact ⟨fun hx => cancel_refused hlink ht hitems hys hx, fun hx hw g k q hq hst =>
      cancel_reply hlink ht hitems hys hx hw hq hst, fun hx hw hq =>
      ⟨cancel_override hlink ht hitems hys hx hq, fun hxs hh =>
        ⟨_, exec_cancel_override hlink ht hitems hys hx hw hq, cancel_last hlink ht hitems hys hh fun y hy => by
          have := hxs y hy
          rwa [← Item.waitsOverride_iff, Bool.not_eq_true] at this⟩⟩,
      fun hx hf ha => cancel_granted_full hlink ht hitems hys hx hf ha,
      fun hx p b e k hp hb he hk => cancel_granted hlink ht hitems hys hx hp hb he hk⟩

end Sys2Proof.Proofs
end

section
/-! SUPPORT. Rules of the alert resolver's events (R134 to R139): what is sent stays in front, and what an event with
nothing to take, or with one level to take, comes to. -/

namespace Sys2Proof.Machine

variable {s : State} {n : StationNo}

/-! ### Sets of levels -/

theorem LevelSet.ext_mem {x y : LevelSet} (h : ∀ l, x.mem l = y.mem l) : x = y := by
  cases x
  cases y
  have h0 := h .l0
  have h1 := h .l1
  have h2 := h .l2
  have h3 := h .l3
  have h4 := h .l4
  have h5 := h .l5
  have h6 := h .l6
  have h7 := h .l7
  simp_all [LevelSet.mem]

@[simp] theorem LevelSet.erase_insert_empty (l : Level) : (LevelSet.empty.insert l).erase l = .empty :=
  LevelSet.ext_mem (by simp)

theorem Level.mem_all (l : Level) : l ∈ Level.all := by cases l <;> decide

/-- R139: no hold condition without a level in service. -/
theorem Resolver.holds_empty {r : Resolver} (h : r.inService = .empty) : r.holds = false := by
  simp [Resolver.holds, h]

/-- R139: the hold condition of a level alone in service. -/
theorem Resolver.holds_only {r : Resolver} {l : Level} (h : r.inService = LevelSet.empty.insert l) :
    r.holds = r.holdSet.mem l := by
  rw [Bool.eq_iff_iff, Resolver.holds, List.any_eq_true]
  constructor
  · rintro ⟨k, -, hk⟩
    obtain ⟨hi, hs⟩ := Bool.and_eq_true _ _ ▸ hk
    have : k = l := by simpa [h] using hi
    rwa [← this]
  · intro hs
    exact ⟨l, Level.mem_all l, by simp [h, hs]⟩

/-! ### What has been sent stays in front -/

theorem State.sent_display (s : State) (n : StationNo) (t : Tone) (i : Nat) : s.sent <+: (s.display n t i).sent := by
  rw [State.display_eq]
  exact List.prefix_append _ _

theorem State.sent_tone (s : State) (n : StationNo) (t : Tone) : s.sent <+: (s.tone n t).sent := s.sent_display n t 0

theorem State.sent_showAlerts (s : State) (n : StationNo) (t : Tone) : s.sent <+: (s.showAlerts n t).sent :=
  s.sent_display n t _

theorem State.sent_resolve (n : StationNo) (k : Nat) (s : State) : s.sent <+: (State.resolve n k s).sent := by
  induction k generalizing s with
  | zero => exact List.prefix_refl _
  | succ k ih =>
    simp only [State.resolve]
    split
    · exact List.prefix_refl _
    · rename_i l _
      have hshow := State.sent_showAlerts (s.updAlerts n fun r => r.serve l) n .none
      split
      · exact hshow.trans (ih (((s.updAlerts n fun r => r.serve l).showAlerts n .none).updAlerts n fun r => r.leave l))
      · exact hshow

theorem State.sent_reportHold (s : State) (n : StationNo) : s.sent <+: (s.reportHold n).sent := by
  simp only [State.reportHold]
  split
  · exact List.prefix_refl _
  · generalize hu : State.updCtx (State.updAlerts s n _) n _ = u
    have hs : u.sent = s.sent := by rw [← hu]; rfl
    rw [← hs]
    split
    · exact List.prefix_refl _
    · exact u.sent_tone n .none

theorem State.sent_finishShow (s : State) (n : StationNo) (t : Tone) : s.sent <+: (s.finishShow n t).sent := by
  simp only [State.finishShow]
  split
  · exact List.prefix_refl _
  · exact s.sent_showAlerts n t

theorem State.sent_settleAlerts (s : State) (n : StationNo) : s.sent <+: (s.settleAlerts n).sent :=
  ((State.sent_resolve n 8 s).trans (State.sent_reportHold _ n)).trans (State.sent_finishShow _ n .none)

theorem State.sent_requestLevel (s : State) (n : StationNo) (l : Level) (i : Nat) (o : Option Origin) :
    s.sent <+: (s.requestLevel n l i o).sent :=
  State.sent_settleAlerts (s.updAlerts n _) n

theorem State.sent_applyStaged (s : State) (n : StationNo) : s.sent <+: (s.applyStaged n).sent := by
  simp only [State.applyStaged]
  split
  · exact State.sent_settleAlerts (s.updAlerts n _) n
  · exact List.prefix_refl _

theorem State.sent_sendTrunk (s : State) (m : TrunkOut) : s.sent <+: (s.sendTrunk m).sent := by
  rw [State.sendTrunk_eq]
  exact List.prefix_append _ _

theorem head?_of_prefix {α : Type} {xs ys : List α} {a : α} (h : xs.head? = some a) (hp : xs <+: ys) :
    ys.head? = some a := by
  obtain ⟨zs, rfl⟩ := hp
  cases xs <;> simp_all

/-! ### Resolution -/

/-- R137: nothing pending, nothing to take. -/
theorem State.resolve_unpended (h : (s.st n).alerts.pending = .empty) (k : Nat) : State.resolve n k s = s := by
  refine State.resolve_none k ?_
  cases hc : (s.st n).alerts.candidate with
  | none => rfl
  | some l => simpa [h] using Resolver.pending_of_candidate hc

/-- R137: a level alone in the sets that is neither masked nor acknowledged at once enters service. -/
theorem State.resolve_only {l : Level} (hp : (s.st n).alerts.pending = LevelSet.empty.insert l)
    (hi : (s.st n).alerts.inService = .empty) (hm : (s.st n).alerts.mask.mem l = false)
    (ha : (s.st n).alerts.autoAck.mem l = false) (k : Nat) :
    State.resolve n (k + 1) s = (s.updAlerts n fun r => r.serve l).showAlerts n .none := by
  have hc : (s.st n).alerts.candidate = some l := Resolver.candidate_only hi (by simp [hp]) hm
  have hserve : ((s.st n).alerts.serve l).autoAck.mem l = false := ha
  simp only [State.resolve, hc, State.showAlerts_alerts, State.updAlerts_same, hserve, Bool.false_eq_true, if_false]

/-- R138: what a level alone in service shows. -/
theorem Resolver.showing_only {r : Resolver} {l : Level} (h : r.inService = LevelSet.empty.insert l) :
    r.showing = (some l, r.indexOf l) := by
  have hd : r.displayed = some l := Resolver.displayed_only fun k => by simp [h]
  simp only [Resolver.showing, hd]

theorem Resolver.displayed_empty {r : Resolver} (h : r.inService = .empty) : r.displayed = none := by
  simp [Resolver.displayed, h]

/-! ### The report of the hold condition -/

/-- R24, R42: a hold moves the state, the interrupted state and the timer only. -/
@[simp] theorem Ctx.beginHold_keeps (c : Ctx) :
    c.beginHold.kind = c.kind ∧ c.beginHold.borrower = c.borrower ∧ c.beginHold.tracked = c.tracked ∧
    c.beginHold.view = c.view ∧ c.beginHold.outstanding = c.outstanding ∧
    c.beginHold.maskedReason = c.maskedReason ∧ c.beginHold.items = c.items ∧
    c.beginHold.holding = c.holding ∧ c.beginHold.firstSeq = c.firstSeq ∧ c.beginHold.next = c.next ∧
    c.beginHold.lookup = c.lookup ∧ c.beginHold.period = c.period ∧ c.beginHold.lockCommand = c.lockCommand ∧
    c.beginHold.lockAlarm = c.lockAlarm ∧ c.beginHold.lockKeySrc = c.lockKeySrc := by
  simp only [Ctx.beginHold]
  split <;> simp

@[simp] theorem Ctx.endHold_keeps (c : Ctx) :
    c.endHold.kind = c.kind ∧ c.endHold.borrower = c.borrower ∧ c.endHold.tracked = c.tracked ∧
    c.endHold.view = c.view ∧ c.endHold.outstanding = c.outstanding ∧
    c.endHold.maskedReason = c.maskedReason ∧ c.endHold.items = c.items ∧ c.endHold.holding = c.holding ∧
    c.endHold.firstSeq = c.firstSeq ∧ c.endHold.next = c.next ∧ c.endHold.lookup = c.lookup ∧
    c.endHold.period = c.period ∧ c.endHold.lockCommand = c.lockCommand ∧ c.endHold.lockAlarm = c.lockAlarm ∧
    c.endHold.lockKeySrc = c.lockKeySrc := by
  simp only [Ctx.endHold]
  split <;> simp

/-- R24: the state that a hold interrupted is taken up again. -/
theorem Ctx.endHold_opened {c : Ctx} (ht : c.tx = .held) (hi : c.interrupted = some .opened) :
    c.endHold.tx = .opened ∧ c.endHold.interrupted = none := by
  simp [Ctx.endHold, ht, hi]

theorem Ctx.endHold_checking {c : Ctx} (ht : c.tx = .held) (hi : c.interrupted = some .checking) :
    c.endHold.tx = .checking ∧ c.endHold.interrupted = none := by
  simp [Ctx.endHold, ht, hi]

@[simp] theorem State.finishShow_hold (s : State) (n : StationNo) (t : Tone) :
    ((s.finishShow n t).st n).alerts.hold = (s.st n).alerts.hold := by
  simp only [State.finishShow]
  split <;> simp

theorem State.reportHold_same (h : (s.st n).alerts.holds = (s.st n).alerts.hold) : s.reportHold n = s := if_pos h

theorem State.reportHold_alerts (s : State) (n : StationNo) :
    ((s.reportHold n).st n).alerts = { (s.st n).alerts with hold := (s.st n).alerts.holds } := by
  simp only [State.reportHold]
  split
  · rename_i h
    rw [h]
  · repeat' split
    all_goals simp

/-- R24: a hold that ends at a HELD station lets its transaction go on. -/
theorem State.reportHold_ends (hn : (s.st n).alerts.holds = false) (hh : (s.st n).alerts.hold = true)
    (ht : (s.st n).ctx.tx = .held) : s.reportHold n =
      (s.upd n fun t => { t with alerts := { t.alerts with hold := false }, ctx := t.ctx.endHold }).tone n .none := by
  have htx : (s.st n).ctx.endHold.tx ≠ .held := by
    simp only [Ctx.endHold, ht]
    split <;> simp_all
  simp only [State.reportHold, hn, hh, Bool.false_eq_true, if_false, State.updAlerts, State.updCtx, State.upd_upd,
    State.st_upd_same, ht, htx]

/-! ### Whole events -/

/-- R139: the outcomes parked are none. -/
theorem State.applyParked_unparked (h : ∀ x ∈ (s.st n).ctx.items, x.parked = none) : s.applyParked n = s := by
  refine foldl_preserves (P := fun t => t = s) ?_ _ rfl
  rintro t i rfl
  cases hi : t.entry n i with
  | none => rfl
  | some x => simp only [h x (List.mem_of_getElem? hi)]

/-- R139: an event that does not move the hold condition, at a station that is not CLOSING. -/
theorem State.endEvent_steady (hh : ((State.resolve n 8 s).st n).alerts.holds = (s.st n).alerts.hold)
    (hc : (s.st n).ctx.tx ≠ .closing) (tone : Tone) :
    s.endEvent n tone id = (State.resolve n 8 s).finishShow n tone := by
  have hsame : (State.resolve n 8 s).reportHold n = State.resolve n 8 s :=
    State.reportHold_same (hh.trans (State.resolve_hold s n 8).symm)
  simp only [State.endEvent, hsame, Bool.and_not_self, Bool.false_eq_true, if_false, id]
  exact State.closeIfDone_of_ne (by simpa using hc)

/-- R137 to R139: an event that leaves nothing in the sets, at a station without a hold. -/
theorem State.endEvent_nothing (hp : (s.st n).alerts.pending = .empty) (hi : (s.st n).alerts.inService = .empty)
    (hh : (s.st n).alerts.hold = false) (hc : (s.st n).ctx.tx ≠ .closing) (tone : Tone) :
    s.endEvent n tone id = s.finishShow n tone := by
  rw [State.endEvent_unheld hh hc, State.resolve_unpended hp,
    State.reportHold_same (by rw [Resolver.holds_empty hi, hh])]

/-- R24, R137 to R139: an event that ends the hold of a HELD station over no parked outcome. -/
theorem State.endEvent_lifts (hp : (s.st n).alerts.pending = .empty) (hi : (s.st n).alerts.inService = .empty)
    (hh : (s.st n).alerts.hold = true) (ht : (s.st n).ctx.tx = .held)
    (hx : ∀ x ∈ (s.st n).ctx.items, x.parked = none) (tone : Tone) (endings : State → State) :
    s.endEvent n tone endings = ((endings ((s.upd n fun t =>
      { t with alerts := { t.alerts with hold := false }, ctx := t.ctx.endHold }).tone n .none)).finishShow n tone
        ).closeIfDone n := by
  simp only [State.endEvent, State.resolve_unpended hp, State.reportHold_ends (Resolver.holds_empty hi) hh ht]
  rw [State.applyParked_unparked]
  · simp
  · simpa using hx

/-! ### A request of a level in empty sets -/

/-- R134, R137: the resolver once a level has been requested in empty sets and served. -/
def Resolver.served (r : Resolver) (l : Level) (i : Nat) (o : Option Origin) : Resolver :=
  { r with
    pending := .empty, inService := LevelSet.empty.insert l, index := r.index.set l.idx i
    origin := if l = .l5 then o else r.origin, shown := (some l, i), hold := r.holdSet.mem l }

theorem Station.eq_of_parts {t u : Station} (hl : t.line = u.line) (hc : t.ctx = u.ctx) (ha : t.alerts = u.alerts)
    (hs : t.slips = u.slips) (ht : t.tallies = u.tallies) : t = u := by
  cases t
  cases u
  simp_all

/-- R138: an event that calls for no tone and finds shown what it has to show. -/
theorem State.finishShow_shown (h : (s.st n).alerts.shown = (s.st n).alerts.showing) : s.finishShow n .none = s :=
  if_pos ⟨rfl, h⟩

section
variable {l : Level} (hp : (s.st n).alerts.pending = .empty) (hi : (s.st n).alerts.inService = .empty)
  (hm : (s.st n).alerts.mask.mem l = false) (ha : (s.st n).alerts.autoAck.mem l = false)
  (hh : (s.st n).alerts.hold = false) (i : Nat) (o : Option Origin)
include hp hi hm ha hh

/-- R134, R137 to R139: a request of a level that is neither masked nor acknowledged at once, in empty sets and with no
hold: it is served and shown, and the hold condition is reported. -/
theorem State.requestLevel_served : ∃ v : State, s.requestLevel n l i o = v.reportHold n ∧
    v.st n = { s.st n with alerts := { (s.st n).alerts.served l i o with hold := false } } ∧
    v.sent = s.sent ++ s.toHead n [.display (s.st n).shownState (some l) i .none] := by
  have hr : (s.st n).alerts.request l i o = { (s.st n).alerts with
      pending := LevelSet.empty.insert l, index := (s.st n).alerts.index.set l.idx i
      origin := if l = .l5 then o else (s.st n).alerts.origin } := by
    simp [Resolver.request, hp, hi]
  generalize hu : (s.updAlerts n fun r => r.request l i o) = u
  have halerts : (u.st n).alerts = (s.st n).alerts.request l i o := by simp [← hu]
  rw [hr] at halerts
  have hres := State.resolve_only (s := u) (n := n) (l := l) (by rw [halerts]) (by rw [halerts]; exact hi)
    (by rw [halerts]; exact hm) (by rw [halerts]; exact ha) 7
  have hshow : ((u.st n).alerts.serve l).showing = (some l, i) := by
    rw [Resolver.showing_only (l := l) (by simp [Resolver.serve, halerts, hi])]
    simp [Resolver.serve, halerts, Resolver.indexOf]
  generalize hv : (u.updAlerts n fun r => r.serve l).showAlerts n .none = v at hres
  have hst : v.st n = { s.st n with alerts := { (s.st n).alerts.served l i o with hold := false } } := by
    refine Station.eq_of_parts (by simp [← hv, ← hu]) (by simp [← hv, ← hu]) ?_ (by simp [← hv, ← hu])
      (by simp [← hv, ← hu])
    rw [← hv, State.showAlerts_alerts, State.updAlerts_same, hshow]
    simp [Resolver.serve, Resolver.served, halerts, hi, hh]
  have hsent : v.sent = s.sent ++ s.toHead n [.display (s.st n).shownState (some l) i .none] := by
    have hd : ((u.st n).alerts.serve l).displayed = some l := by rw [← Resolver.showing_fst, hshow]
    rw [← hv, State.showAlerts, State.display_eq]
    have hline : (u.st n).line = (s.st n).line := by simp [← hu]
    have hctx : (u.st n).ctx = (s.st n).ctx := by simp [← hu]
    have hus : u.sent = s.sent := by rw [← hu]; rfl
    simp [State.toHead, Station.shownState, hshow, hd, hline, hctx, hus]
  refine ⟨v, ?_, hst, hsent⟩
  rw [State.requestLevel, hu, State.settleAlerts, hres]
  refine State.finishShow_shown ?_
  rw [State.reportHold_alerts, hst, Resolver.showing_only (l := l) rfl]
  simp [Resolver.served, Resolver.indexOf]

/-- R24: the station after it. -/
theorem State.requestLevel_only : (s.requestLevel n l i o).st n = { s.st n with
    alerts := (s.st n).alerts.served l i o
    ctx := if (s.st n).alerts.holdSet.mem l then (s.st n).ctx.beginHold else (s.st n).ctx } := by
  obtain ⟨v, hv, hst, -⟩ := State.requestLevel_served hp hi hm ha hh i o
  have hholds : (v.st n).alerts.holds = (s.st n).alerts.holdSet.mem l := by
    rw [hst]
    exact Resolver.holds_only rfl
  rw [hv]
  refine Station.eq_of_parts (by simp [hst]) ?_ ?_ (by simp [hst]) (by simp [hst])
  · rw [State.reportHold_ctx, hholds, hst]
    cases (s.st n).alerts.holdSet.mem l <;> simp
  · rw [State.reportHold_alerts, hholds, hst]
    rfl

end

end Sys2Proof.Machine
end

section
/-! SUPPORT. ALERT_CLEAR of each kind of level (R147), and the settling of O46. -/

namespace Sys2Proof.Machine

variable {s : State} {n : StationNo} {l : Level}

/-! ### The sets without a level -/

theorem Resolver.withdraw_pending (r : Resolver) (l : Level) : (r.withdraw l).pending = r.pending.erase l :=
  LevelSet.ext_mem (by simp)

theorem Resolver.withdraw_inService (r : Resolver) (l : Level) : (r.withdraw l).inService = r.inService.erase l :=
  LevelSet.ext_mem (by simp)

@[simp] theorem Resolver.sweep_sets (r : Resolver) (l k : Level) :
    (r.sweep l).pending.mem k = (!decide (k = l) && r.pending.mem k) ∧
    (r.sweep l).inService.mem k = (!decide (k = l) && r.inService.mem k) := by
  simp [Resolver.sweep]

/-- R141: the sweep takes the borrower levels but one out of both sets, and no other. -/
theorem Resolver.sweepBlocks_sets (r : Resolver) (l k : Level) :
    (r.sweepBlocks l).pending.mem k = (!(decide (k ≠ l) && Level.blocks.contains k) && r.pending.mem k) ∧
    (r.sweepBlocks l).inService.mem k = (!(decide (k ≠ l) && Level.blocks.contains k) && r.inService.mem k) := by
  have key : ∀ (ls : List Level) (r : Resolver),
      (ls.foldl Resolver.sweep r).pending.mem k = (!ls.contains k && r.pending.mem k) ∧
      (ls.foldl Resolver.sweep r).inService.mem k = (!ls.contains k && r.inService.mem k) := by
    intro ls
    induction ls with
    | nil => simp
    | cons x xs ih =>
      intro r
      simp only [List.foldl_cons, ih, Resolver.sweep_sets, List.contains_cons]
      by_cases hk : k = x
      · simp [hk]
      · simp [beq_eq_false_iff_ne.mpr hk, hk]
  have hmem : (Level.blocks.filter (· != l)).contains k = (decide (k ≠ l) && Level.blocks.contains k) := by
    rw [Bool.eq_iff_iff]
    simp [and_comm]
  have h := key (Level.blocks.filter (· != l)) r
  rwa [hmem] at h

theorem Level.mem_blocks {r : BlockReason} (h : l.reason? = some r) : l ∈ Level.blocks := by
  cases l <;> simp_all [Level.reason?, Level.blocks]

/-- R140: a borrower level other than an item's L5 refuses the borrower. -/
theorem Resolver.refusesBorrower_iff {a : Resolver} {r : BlockReason} (h : l.reason? = some r) :
    a.refusesBorrower l = true ↔ ¬ (l = .l5 ∧ a.origin = some .item) := by
  simp [Resolver.refusesBorrower, h, imp_iff_not_or]

/-! ### The clears -/

theorem State.clearLevel_notice (h : l = .l6 ∨ l = .l7) (s : State) (n : StationNo) :
    s.clearLevel n l = (s.updAlerts n fun r => r.withdraw l).endEvent n .none id := by
  obtain rfl | rfl := h <;> rfl

theorem State.clearLevel_fault (h : (s.st n).line.fault = true) : s.clearLevel n .l0 =
    (s.updAlerts n fun r => { r.withdraw .l0 with pending := (r.withdraw .l0).pending.insert .l0 }).endEvent n .none id := by
  simp only [State.clearLevel, h, if_true]

theorem State.clearLevel_borrower {r : BlockReason} (hl : l.reason? = some r)
    (ho : ¬ (l = .l5 ∧ (s.st n).alerts.origin = some .item)) (hk : (s.st n).ctx.kind = some .charge) :
    s.clearLevel n l = State.applyStaged (((s.refuseBorrowerSilently n).updAlerts n fun r =>
      (r.withdraw l).sweepBlocks l).endEvent n .none id) n := by
  have hb := (Resolver.refusesBorrower_iff hl).mpr ho
  cases l <;> simp_all [Level.reason?, State.clearLevel]

theorem State.clearLevel_items (ho : (s.st n).alerts.origin = some .item) : s.clearLevel n .l5 =
    (((s.st n).ctx.overrides.foldl (fun s i => s.refuseSilently n i) s).updAlerts n fun r =>
      r.withdraw .l5).endEvent n .none id := by
  have hb : (s.st n).alerts.refusesBorrower .l5 = false := by simp [Resolver.refusesBorrower, ho]
  simp only [State.clearLevel, hb, Bool.false_eq_true, if_false]

/-! ### Of L6 and L7, and of L0 -/

theorem State.clearLevel_notice_ends (h : l = .l6 ∨ l = .l7) (hp : (s.st n).alerts.pending.erase l = .empty)
    (hi : (s.st n).alerts.inService.erase l = .empty) (hh : (s.st n).alerts.hold = false)
    (hc : (s.st n).ctx.tx ≠ .closing) :
    ((s.clearLevel n l).st n).alerts.pending = .empty ∧ ((s.clearLevel n l).st n).alerts.inService = .empty ∧
      ((s.clearLevel n l).st n).ctx = (s.st n).ctx := by
  rw [State.clearLevel_notice h, State.endEvent_nothing (by simpa [Resolver.withdraw_pending] using hp)
    (by simpa [Resolver.withdraw_inService] using hi) (by simpa using hh) (by simpa using hc)]
  simp [Resolver.withdraw_pending, Resolver.withdraw_inService, hp, hi]

/-- R147: L0 of a station fault that goes on is served again. -/
theorem State.clearLevel_fault_serves (hp : (s.st n).alerts.pending.erase .l0 = .empty)
    (hi : (s.st n).alerts.inService.erase .l0 = .empty) (hf : (s.st n).line.fault = true)
    (hm : (s.st n).alerts.mask.mem .l0 = false) (ha : (s.st n).alerts.autoAck.mem .l0 = false)
    (hh : (s.st n).alerts.hold = (s.st n).alerts.holdSet.mem .l0) (hc : (s.st n).ctx.tx ≠ .closing) :
    ((s.clearLevel n .l0).st n).alerts.pending = .empty ∧
      ((s.clearLevel n .l0).st n).alerts.inService = LevelSet.empty.insert .l0 ∧
      ((s.clearLevel n .l0).st n).ctx = (s.st n).ctx ∧ ((s.clearLevel n .l0).st n).tallies = (s.st n).tallies ∧
      (s.clearLevel n .l0).journal = s.journal ∧ (s.clearLevel n .l0).borrowers = s.borrowers ∧
      (s.clearLevel n .l0).loans = s.loans := by
  rw [State.clearLevel_fault hf]
  generalize hu : s.updAlerts n _ = u
  have halerts : (u.st n).alerts =
      { (s.st n).alerts.withdraw .l0 with pending := ((s.st n).alerts.withdraw .l0).pending.insert .l0 } := by simp [← hu]
  have hres := State.resolve_only (s := u) (n := n) (l := .l0)
    (by rw [halerts, Resolver.withdraw_pending, hp]) (by rw [halerts]; exact (Resolver.withdraw_inService ..).trans hi)
    (by simpa [halerts] using hm) (by simpa [halerts] using ha) 7
  have hserved : ((State.resolve n 8 u).st n).alerts.pending = .empty ∧
      ((State.resolve n 8 u).st n).alerts.inService = LevelSet.empty.insert .l0 ∧
      ((State.resolve n 8 u).st n).alerts.holdSet = (s.st n).alerts.holdSet := by
    rw [hres, State.showAlerts_alerts, State.updAlerts_same, halerts]
    simp [Resolver.serve, Resolver.withdraw_pending, Resolver.withdraw_inService, hp, hi]
  obtain ⟨hpending, hservice, hset⟩ := hserved
  have hsteady := State.endEvent_steady (s := u) (n := n)
    (by rw [Resolver.holds_only hservice, hset, ← hh, halerts]; simp) (by simpa [← hu] using hc) .none
  rw [hsteady]
  refine ⟨by simpa using hpending, by simpa using hservice, ?_⟩
  simp [← hu]

/-! ### Of a borrower level -/

/-- R137: a level that stands in neither set stands in neither when a staged configuration has been applied. -/
theorem State.applyStaged_absent (hp : (s.st n).alerts.pending.mem l = false)
    (hi : (s.st n).alerts.inService.mem l = false) :
    ((s.applyStaged n).st n).alerts.pending.mem l = false ∧ ((s.applyStaged n).st n).alerts.inService.mem l = false := by
  simp only [State.applyStaged]
  split
  · rename_i c _ _
    simpa [State.settleAlerts] using State.resolve_absent (s := s.updAlerts n fun r => r.configure c) (n := n) (l := l) 8
      (by simpa [Resolver.configure] using hp) (by simpa [Resolver.configure] using hi)
  · exact ⟨hp, hi⟩

/-- R141, R145: what the event that follows a refused borrower leaves, with the staged configuration. -/
theorem State.refusedEvent_keeps (hc : (s.st n).ctx = (s.st n).ctx.cleared) (f : Resolver → Resolver) :
    let t := State.applyStaged ((s.updAlerts n f).endEvent n .none id) n
    (t.st n).ctx = (s.st n).ctx ∧ (t.st n).slips = (s.st n).slips ∧ (t.st n).tallies = (s.st n).tallies ∧
    (∀ l, (f (s.st n).alerts).pending.mem l = false → (f (s.st n).alerts).inService.mem l = false →
      (t.st n).alerts.pending.mem l = false ∧ (t.st n).alerts.inService.mem l = false) ∧
    (∀ m, m ≠ n → t.st m = s.st m) ∧ t = { s with stations := t.stations, sent := t.sent } ∧ s.sent <+: t.sent := by
  intro t
  have hcl : ((s.updAlerts n f).st n).ctx = ((s.updAlerts n f).st n).ctx.cleared := by simpa using hc
  obtain ⟨hctx, -, hslips, htallies⟩ := State.endEvent_cleared_parts hcl .none
  have hother (m : StationNo) (hm : m ≠ n) := State.endEvent_cleared_other hcl hm .none
  have hrest := State.endEvent_cleared_rest hcl .none
  have habsent : ∀ l, (f (s.st n).alerts).pending.mem l = false → (f (s.st n).alerts).inService.mem l = false →
      (((s.updAlerts n f).endEvent n .none id).st n).alerts.pending.mem l = false ∧
      (((s.updAlerts n f).endEvent n .none id).st n).alerts.inService.mem l = false := by
    intro l hp hi
    rw [State.endEvent_cleared hcl]
    simpa using State.resolve_absent (s := s.updAlerts n f) (n := n) (l := l) 8 (by simpa using hp) (by simpa using hi)
  have hsent : s.sent <+: ((s.updAlerts n f).endEvent n .none id).sent := by
    rw [State.endEvent_cleared hcl]
    exact ((State.sent_resolve n 8 (s.updAlerts n f)).trans (State.sent_reportHold _ n)).trans (State.sent_finishShow _ n _)
  have hcl' : (((s.updAlerts n f).endEvent n .none id).st n).ctx =
      (((s.updAlerts n f).endEvent n .none id).st n).ctx.cleared := by rw [hctx]; exact hcl
  have ht : t = ((s.updAlerts n f).endEvent n .none id).applyStaged n := rfl
  rw [ht]
  generalize (s.updAlerts n f).endEvent n .none id = v at *
  refine ⟨?_, ?_, ?_, fun l hp hi => ?_, fun m hm => ?_, ?_, ?_⟩
  · rw [State.applyStaged_cleared hcl', hctx]
    simp
  · simp [hslips]
  · simp [htallies]
  · exact State.applyStaged_absent (habsent l hp hi).1 (habsent l hp hi).2
  · rw [State.applyStaged_other hm, hother m hm, State.updAlerts_other _ hm]
  · have h := State.eq_of_rest (s := v) (t := v.applyStaged n) (by simp)
    rw [h, hrest]
    rfl
  · exact hsent.trans (State.sent_applyStaged v n)

theorem State.refuseBorrowerSilently_st (s : State) (n : StationNo) : (s.refuseBorrowerSilently n).st n =
    { s.st n with slips := (s.st n).slips.release, ctx := (s.st n).ctx.cleared } := by
  simp [State.refuseBorrowerSilently, State.endRefused]

/-- R23, R141, R147: ALERT_CLEAR of a level that refuses the borrower. -/
theorem State.clearLevel_refuses {r : BlockReason} (hl : l.reason? = some r)
    (ho : ¬ (l = .l5 ∧ (s.st n).alerts.origin = some .item)) (hk : (s.st n).ctx.kind = some .charge) :
    ((s.clearLevel n l).st n).ctx = (s.st n).ctx.cleared ∧
    ((s.clearLevel n l).st n).slips = (s.st n).slips.release ∧
    (∀ b ∈ Level.blocks, ((s.clearLevel n l).st n).alerts.pending.mem b = false ∧
      ((s.clearLevel n l).st n).alerts.inService.mem b = false) ∧
    ((s.clearLevel n l).st n).tallies = (s.st n).tallies ∧ (s.clearLevel n l).journal = s.journal ∧
    (s.clearLevel n l).borrowers = s.borrowers ∧ (s.clearLevel n l).loans = s.loans ∧
    (s.refuseBorrowerSilently n).sent <+: (s.clearLevel n l).sent := by
  rw [State.clearLevel_borrower hl ho hk]
  have hst := s.refuseBorrowerSilently_st n
  obtain ⟨hctx, hslips, htallies, habsent, -, hrest, hsent⟩ := State.refusedEvent_keeps
    (s := s.refuseBorrowerSilently n) (n := n) (by rw [hst]; rfl) fun r => (r.withdraw l).sweepBlocks l
  refine ⟨by rw [hctx, hst], by rw [hslips, hst], fun b hb => habsent b ?_ ?_, by rw [htallies, hst], ?_, ?_, ?_, hsent⟩
  · rw [(Resolver.sweepBlocks_sets _ l b).1, (Resolver.withdraw_sets _ l b).1]
    by_cases h : b = l <;> simp [h, hb]
  · rw [(Resolver.sweepBlocks_sets _ l b).2, (Resolver.withdraw_sets _ l b).2]
    by_cases h : b = l <;> simp [h, hb]
  · rw [hrest]
    simp [State.refuseBorrowerSilently, State.endRefused]
  · rw [hrest]
    simp [State.refuseBorrowerSilently, State.endRefused]
  · rw [hrest]
    simp [State.refuseBorrowerSilently, State.endRefused]

/-! ### Of an item's L5 -/

/-- An entry that an ending of L5 refuses (R27). -/
def Item.silenced (x : Item) : Item := if x.waitsOverride then x.refused none else x

theorem State.foldl_refuseSilently (is : List Nat) (s : State) (n : StationNo) :
    let t := is.foldl (fun s i => s.refuseSilently n i) s
    (∀ j, (t.st n).ctx.items[j]? =
      (s.st n).ctx.items[j]?.map fun x => if j ∈ is then x.refused none else x) ∧
    t.st n = { s.st n with ctx := { (s.st n).ctx with items := (t.st n).ctx.items } } ∧
    t.journal = s.journal ∧ t.borrowers = s.borrowers ∧ t.loans = s.loans := by
  induction is generalizing s with
  | nil => simp
  | cons i is ih =>
    obtain ⟨hitems, hst, hj, hb, hl⟩ := ih (s.refuseSilently n i)
    have hone : (s.refuseSilently n i).st n =
        { s.st n with ctx := { (s.st n).ctx with items := (s.st n).ctx.items.modify i fun x => x.refused none } } := by
      simp [State.refuseSilently]
    simp only [List.foldl_cons]
    refine ⟨fun j => ?_, ?_, ?_, ?_, ?_⟩
    · rw [hitems, hone, List.getElem?_modify]
      cases (s.st n).ctx.items[j]? with
      | none => simp
      | some x =>
        have hj : j ∈ i :: is ↔ i = j ∨ j ∈ is := by simp [eq_comm]
        have htwice : (x.refused none).refused none = x.refused none := rfl
        by_cases h : i = j
        · by_cases hi : j ∈ is <;> simp [h, hi, htwice]
        · simp [hj, h]
    · rw [hst, hone]
    · rw [hj]; simp [State.refuseSilently]
    · rw [hb]; simp [State.refuseSilently]
    · rw [hl]; simp [State.refuseSilently]

/-- R27: every entry that waits for OVERRIDE is refused, and no other. -/
theorem State.silence_items (s : State) (n : StationNo) :
    (((s.st n).ctx.overrides.foldl (fun s i => s.refuseSilently n i) s).st n).ctx.items =
      (s.st n).ctx.items.map Item.silenced := by
  refine List.ext_getElem? fun j => ?_
  rw [(State.foldl_refuseSilently _ s n).1 j, List.getElem?_map]
  cases hj : (s.st n).ctx.items[j]? with
  | none => rfl
  | some x =>
    have : j ∈ (s.st n).ctx.overrides ↔ x.waitsOverride = true := by simp [Ctx.mem_overrides, hj]
    simp only [Option.map_some, Item.silenced, this]

/-- R27, R147: ALERT_CLEAR of an item's L5 that stands alone at a station HELD from OPEN. -/
theorem State.clearLevel_items_ends (ho : (s.st n).alerts.origin = some .item)
    (hp : (s.st n).alerts.pending.erase .l5 = .empty) (hi : (s.st n).alerts.inService.erase .l5 = .empty)
    (hh : (s.st n).alerts.hold = true) (ht : (s.st n).ctx.tx = .held) (hint : (s.st n).ctx.interrupted = some .opened)
    (hx : ∀ x ∈ (s.st n).ctx.items, x.parked = none) :
    ((s.clearLevel n .l5).st n).ctx.items = (s.st n).ctx.items.map Item.silenced ∧
    ((s.clearLevel n .l5).st n).ctx.tx = .opened ∧ ((s.clearLevel n .l5).st n).alerts.pending = .empty ∧
    ((s.clearLevel n .l5).st n).alerts.inService = .empty ∧ ((s.clearLevel n .l5).st n).alerts.hold = false ∧
    ((s.clearLevel n .l5).st n).tallies = (s.st n).tallies ∧ (s.clearLevel n .l5).journal = s.journal ∧
    (s.clearLevel n .l5).borrowers = s.borrowers ∧ (s.clearLevel n .l5).loans = s.loans := by
  rw [State.clearLevel_items ho]
  have hsilent := s.silence_items n
  obtain ⟨-, hst, hj, hb, hl⟩ := State.foldl_refuseSilently (s.st n).ctx.overrides s n
  generalize (s.st n).ctx.overrides.foldl (fun s i => s.refuseSilently n i) s = v at *
  rw [hsilent] at hst
  have hparked : ∀ x ∈ ((v.updAlerts n fun r => r.withdraw .l5).st n).ctx.items, x.parked = none := by
    intro x hxm
    rw [(State.updAlerts_parts v n n _).2.1, hst] at hxm
    obtain ⟨y, hy, rfl⟩ := List.mem_map.mp hxm
    simp only [Item.silenced]
    split
    · rfl
    · exact hx y hy
  rw [State.endEvent_lifts (by simpa [hst, Resolver.withdraw_pending] using hp)
    (by simpa [hst, Resolver.withdraw_inService] using hi) (by simpa [hst] using hh) (by simpa [hst] using ht) hparked]
  have hctx : ((v.updAlerts n fun r => r.withdraw .l5).st n).ctx =
      { (s.st n).ctx with items := (s.st n).ctx.items.map Item.silenced } := by simp [hst]
  have hopen : ((v.updAlerts n fun r => r.withdraw .l5).st n).ctx.endHold.tx = .opened :=
    (Ctx.endHold_opened (by rw [hctx]; exact ht) (by rw [hctx]; exact hint)).1
  have halerts : ((v.updAlerts n fun r => r.withdraw .l5).st n).alerts = (s.st n).alerts.withdraw .l5 := by simp [hst]
  have htallies : ((v.updAlerts n fun r => r.withdraw .l5).st n).tallies = (s.st n).tallies := by simp [hst]
  rw [← hj, ← hb, ← hl]
  generalize hw : v.updAlerts n (fun r => r.withdraw .l5) = w at *
  have hkeeps : w.journal = v.journal ∧ w.borrowers = v.borrowers ∧ w.loans = v.loans := by simp [← hw]
  rw [State.closeIfDone_of_ne (by simp [hopen])]
  refine ⟨by simp [hctx], by simp [hopen], ?_, ?_, by simp, by simp [htallies], by simp [hkeeps], by simp [hkeeps],
    by simp [hkeeps]⟩
  · simp [halerts, Resolver.withdraw_pending, hp]
  · simp [halerts, Resolver.withdraw_inService, hi]

end Sys2Proof.Machine

namespace Sys2Proof.Proofs
open Sys2Proof Sys2Proof.Machine

/-- R146: the contents of ALERT_POLL field by field. -/
theorem pollBytes_eq (r : Resolver) : r.bytes =
    [r.pending, r.inService, r.mask, r.holdSet, r.autoAck].flatMap (fun x => be 1 x.bits) ++
      ([match r.mode with | .fixed => 0 | .rotating => 1, levelByte (some r.bottom), levelByte (some r.lowest),
        levelByte r.displayed, byte ((r.displayed.map fun l => r.index[l.idx]).getD 0)] : List Byte) ++
      ((match r.origin with | some .borrower => [1, 0] | some .item => [1, 1] | none => [0, 0]) : List Byte) ++
      ([if r.staged.isSome then 1 else 0] : List Byte) := by
  have hshow : r.showing.2 = (r.displayed.map fun l => r.index[l.idx]).getD 0 := by
    simp only [Resolver.showing, Resolver.indexOf]
    cases r.displayed <;> rfl
  have hmode : byte r.mode.ctorIdx = match r.mode with | .fixed => (0 : Byte) | .rotating => 1 := by
    cases r.mode <;> rfl
  have horigin : optionalField 1 (r.origin.map fun o => be 1 o.ctorIdx) =
      (match r.origin with | some .borrower => [1, 0] | some .item => [1, 1] | none => [0, 0] : List Byte) := by
    rcases r.origin with _ | _ | _ <;> rfl
  have hstaged : yesNo r.staged.isSome = [if r.staged.isSome then 1 else 0] := by
    cases r.staged <;> rfl
  simp only [Resolver.bytes, hshow, hmode, horigin, hstaged]
  simp

/-- Settles O46: a poll reads the resolver, and a clear is a withdrawal with the ending of its level. -/
theorem alertPollAndClear : Obligations.AlertPollAndClear := by
  intro tok body n s hr
  refine ⟨fun hb => ?_, fun l hb => ?_⟩
  · have h : exec (.alertPoll tok body) s = .next _ :=
      congrArg Host.Outcome.next (State.manage_withBody (.alertPoll tok body) tok 0x39 State.pollAlerts hr hb)
    exact h.trans (congrArg Host.Outcome.next ((s.fresh_answered tok 0x39 .done _).trans
      (congrArg (s.answered tok 0x39 .done) (pollBytes_eq (s.st n).alerts))))
  have hexec : exec (.alertClear tok body) s = .next _ :=
    congrArg Host.Outcome.next (State.manage_withBody (.alertClear tok body) tok 0x3A State.clearAlert hr hb)
  have hstands : ((s.st n).alerts.pending.mem l = true ∨ (s.st n).alerts.inService.mem l = true) →
      exec (.alertClear tok body) s =
        .next ((s.fresh.clearLevel n l).sendTrunk (.response tok 0x3A .done [])) := by
    intro h
    have hc : State.clearAlert (n, l) s.fresh = (s.fresh.clearLevel n l, .done) := if_pos (by simpa using h)
    rw [hc] at hexec
    exact hexec
  refine ⟨fun hp hi => ?_, fun h hl hp hi hh hc => ?_, fun h => ⟨fun hl hp hi hf hm ha hh hc => ?_,
    fun r hl ho hk => ?_, fun hl ho hp hi hh ht hint hx => ?_⟩⟩
  · have hc : State.clearAlert (n, l) s.fresh = (s.fresh, ⟨.notFound, []⟩) := if_neg (by simp [hp, hi])
    rw [hc] at hexec
    exact hexec.trans (congrArg Host.Outcome.next (s.fresh_answered ..))
  · obtain ⟨h1, h2, h3⟩ := State.clearLevel_notice_ends (s := s.fresh) (n := n) hl hp hi hh hc
    exact ⟨_, hstands h, by simpa using h1, by simpa using h2, by simpa using h3, State.sendTrunk_answers _ _ _ _ _⟩
  · subst hl
    obtain ⟨h1, h2, h3, h4, h5, h6, h7⟩ := State.clearLevel_fault_serves (s := s.fresh) (n := n) hp hi hf hm ha hh hc
    exact ⟨_, ⟨hstands h, State.sendTrunk_answers _ _ _ _ _, by simpa using h5, by simpa using h4, by simpa using h6,
      by simpa using h7⟩, by simpa using h1, by simpa using h2, by simpa using h3⟩
  · obtain ⟨h1, h2, h3, h4, h5, h6, h7, h8⟩ := State.clearLevel_refuses (s := s.fresh) (n := n) hl ho hk
    refine ⟨_, ⟨hstands h, State.sendTrunk_answers _ _ _ _ _, by simpa using h5, by simpa using h4, by simpa using h6,
      by simpa using h7⟩, by simpa using h1, fun i hi hk => ?_, fun b hb => by simpa using h3 b hb,
      fun hlink => ?_⟩
    · rw [State.sendTrunk_st, h2]
      exact SlipQueue.release_only hi hk
    · have hfirst : (s.fresh.refuseBorrowerSilently n).sent.head? =
          some (.desk n (.display (some .idle) (s.st n).alerts.displayed 0 .refuse)) := by
        rw [State.refuseBorrowerSilently, State.tone_attached (by simp [State.endRefused, hlink])]
        simp [State.endRefused, State.displayNow, Station.shownState, hlink]
      exact head?_of_prefix (head?_of_prefix hfirst h8) (State.sent_sendTrunk _ _)
  · subst hl
    obtain ⟨h1, h2, h3, h4, h5, h6, h7, h8, h9⟩ := State.clearLevel_items_ends (s := s.fresh) (n := n) ho hp hi hh ht hint hx
    exact ⟨_, ⟨hstands h, State.sendTrunk_answers _ _ _ _ _, by simpa using h7, by simpa using h6, by simpa using h8,
      by simpa using h9⟩, (congrArg (·.ctx.items) (State.sendTrunk_st ..)).trans h1, by simpa using h2, by simpa using h3, by simpa using h4, by simpa using h5⟩

end Sys2Proof.Proofs
end

section
/-! SUPPORT. A refused borrower with its record (R22, R23), acknowledges and badges at a borrower level (R141, R143), and
the settling of O14. -/

namespace Sys2Proof.Machine

variable {s : State} {n : StationNo} {p : Fin 128} {l : Level}

/-! ### The record of a refused borrower -/

/-- R22, R23: the REFUSAL record of the borrower of station n's transaction. -/
def State.refusalOf (s : State) (n : StationNo) (reason : Reason) (d : DecidedBy) : Record :=
  { s.record .refusal (some n) with
    decidedBy := d, borrower := (s.st n).ctx.borrower, reason := some reason, flags := (s.st n).ctx.stationFlags }

/-- A record without flags of its own carries those of its station (R19). -/
theorem State.journaled_plain {r : Record} (h : r.flags = {}) :
    (s.journaled n p r).journal = (s.recorded p { r with flags := (s.st n).ctx.stationFlags }).journal := by
  rw [State.journaled_journal, h]
  have : ResultFlags.union {} (s.st n).ctx.stationFlags = (s.st n).ctx.stationFlags := by simp [ResultFlags.union]
  rw [this]

/-- R22, R23: what a refused borrower leaves in a journal that is ready. -/
theorem State.refuseBorrower_ready (hp : s.ready p) (reason : Reason) (d : DecidedBy) :
    (s.refuseBorrower n reason d).st n = { s.st n with
      slips := (s.st n).slips.release, ctx := (s.st n).ctx.cleared
      tallies := { (s.st n).tallies with refusals := min 4294967295 ((s.st n).tallies.refusals + 1) } } ∧
    (s.refuseBorrower n reason d).journal = (s.recorded p (s.refusalOf n reason d)).journal ∧
    (∀ m, m ≠ n → (s.refuseBorrower n reason d).st m = s.st m) ∧
    (s.refuseBorrower n reason d) = { s with
      stations := (s.refuseBorrower n reason d).stations, journal := (s.refuseBorrower n reason d).journal
      sent := (s.refuseBorrower n reason d).sent } ∧
    (s.refuseBorrower n reason d).sent =
      s.sent ++ s.toHead n [.display (if (s.st n).line.link = .check then none else some .idle)
        (s.st n).alerts.displayed 0 .refuse] := by
  generalize hr : { s.record .refusal (some n) with
    decidedBy := d, borrower := (s.st n).ctx.borrower, reason := some reason } = r
  have heq : s.refuseBorrower n reason d = (((s.journaled n p r).tallyRefusal n).endRefused n).tone n .refuse := by
    rw [State.refuseBorrower, State.writeStation_journaled hp, hr]
  have hst : ((((s.journaled n p r).tallyRefusal n).endRefused n).st n) = { s.st n with
      slips := (s.st n).slips.release, ctx := (s.st n).ctx.cleared
      tallies := { (s.st n).tallies with refusals := min 4294967295 ((s.st n).tallies.refusals + 1) } } := by
    refine Station.eq_of_parts ?_ ?_ ?_ ?_ ?_ <;>
      simp [State.endRefused, State.tallyRefusal, sat32, satAdd, Config.maxCount32]
  have hsent : (((s.journaled n p r).tallyRefusal n).endRefused n).sent = s.sent := rfl
  rw [heq, State.tone_eq]
  refine ⟨hst, ?_, fun m hm => ?_, rfl, ?_⟩
  · refine Eq.trans (by rfl) ((State.journaled_plain (by rw [← hr]; rfl)).trans ?_)
    rw [← hr]
    rfl
  · simp [State.endRefused, State.tallyRefusal, hm]
  · simp only [State.sending_sent, hsent, State.toHead, State.displayNow, Station.shownState, hst]
    rfl

/-! ### Acknowledges -/

/-- R140, R141: the acknowledge of a level that refuses the borrower. -/
theorem State.acknowledge_borrower {r : BlockReason} (hd : (s.st n).alerts.displayed = some l)
    (hl : l.reason? = some r) (ho : ¬ (l = .l5 ∧ (s.st n).alerts.origin = some .item))
    (hk : (s.st n).ctx.kind = some .charge) :
    s.acknowledge n = State.applyStaged (((s.refuseBorrower n (.block r) .noOne).updAlerts n fun r =>
      (r.leave l).sweepBlocks l).endEvent n .none id) n := by
  have hb := (Resolver.refusesBorrower_iff hl).mpr ho
  cases l <;> simp_all [Level.reason?, State.acknowledge, State.borrowerEnding]

/-- R23, R141: it leaves the borrower refused and none of the borrower levels in a set. -/
theorem State.acknowledge_refuses {r : BlockReason} (hd : (s.st n).alerts.displayed = some l)
    (hl : l.reason? = some r) (ho : ¬ (l = .l5 ∧ (s.st n).alerts.origin = some .item))
    (hk : (s.st n).ctx.kind = some .charge) (hpend : (s.st n).alerts.pending.mem l = false) (hp : s.ready p) :
    (s.acknowledge n).journal = (s.recorded p (s.refusalOf n (.block r) .noOne)).journal ∧
    ((s.acknowledge n).st n).tallies =
      { (s.st n).tallies with refusals := min 4294967295 ((s.st n).tallies.refusals + 1) } ∧
    ((s.acknowledge n).st n).ctx = (s.st n).ctx.cleared ∧
    ((s.acknowledge n).st n).slips = (s.st n).slips.release ∧
    (∀ b ∈ Level.blocks, ((s.acknowledge n).st n).alerts.pending.mem b = false ∧
      ((s.acknowledge n).st n).alerts.inService.mem b = false) ∧
    (s.refuseBorrower n (.block r) .noOne).sent <+: (s.acknowledge n).sent ∧
    (∀ m, m ≠ n → (s.acknowledge n).st m = s.st m) ∧
    s.acknowledge n = { s with stations := (s.acknowledge n).stations, journal := (s.acknowledge n).journal
                               sent := (s.acknowledge n).sent } := by
  rw [State.acknowledge_borrower hd hl ho hk]
  obtain ⟨hst, hjournal, hother, hrest, -⟩ := State.refuseBorrower_ready (n := n) hp (.block r) .noOne
  obtain ⟨hctx, hslips, htallies, habsent, hother', hrest', hsent⟩ := State.refusedEvent_keeps
    (s := s.refuseBorrower n (.block r) .noOne) (n := n) (by rw [hst]; rfl) fun r => (r.leave l).sweepBlocks l
  refine ⟨?_, by rw [htallies, hst], by rw [hctx, hst], by rw [hslips, hst], fun b hb => habsent b ?_ ?_, hsent,
    fun m hm => (hother' m hm).trans (hother m hm), ?_⟩
  · rw [hrest']
    exact hjournal
  · rw [(Resolver.sweepBlocks_sets _ l b).1, (Resolver.leave_keeps _ l).1, hst]
    by_cases h : b = l <;> simp [h, hb, hpend]
  · rw [(Resolver.sweepBlocks_sets _ l b).2, Resolver.leave_inService]
    by_cases h : b = l <;> simp [h, hb]
  · rw [hrest', hrest]

/-! ### Badges -/

theorem exec_scan_badge {symbol : Text} {k : Nat} (hv : validSymbol symbol = true) (hk : classify symbol = .badge k)
    (hlink : (s.st n).line.link = .active) :
    exec (.scan n symbol) s = .next ((s.fresh.scanned n .good).takeBadge n k) := by
  rw [exec_scan hv, State.takeScan_badge hk (by simp [hlink]), if_neg (by simp [hlink])]
  rfl

/-- R143: a listed badge that settles the displayed level. -/
theorem Resolver.overridable_of {a : Resolver} {r : BlockReason} (hd : a.displayed = some l) (hl : l.reason? = some r)
    (hh : a.hold = true) (hs : a.holdSet.mem l = true) : a.overridable = some l := by
  simp [Resolver.overridable, hd, hl, hh, hs]

/-- R143: the OVERRIDE record of a borrower level. -/
def State.overrideOf (s : State) (n : StationNo) (r : BlockReason) (k : Nat) : Record :=
  { s.record .override (some n) with
    borrower := (s.st n).ctx.borrower, reason := some (.block r), badge := some k, flags := (s.st n).ctx.stationFlags }

/-- R23: a borrower level is overridden at a station whose check goes on. -/
theorem State.overrideEnding_borrower {r : BlockReason} (hl : l.reason? = some r) (hk : (s.st n).ctx.kind = some .charge)
    (ht : (s.st n).ctx.tx = .checking) : State.overrideEnding n l true s =
      if ((s.st n).ctx.outstanding.filter (· != r)).isEmpty
      then (s.updCtx n fun c => { c with outstanding := c.outstanding.filter (· != r) }).enterOpen n
      else s.updCtx n fun c => { c with outstanding := c.outstanding.filter (· != r) } := by
  simp [State.overrideEnding, hl, hk, ht]

/-- R22, R42: the transaction opens at a station that is not HELD. -/
theorem State.enterOpen_eq (ht : (s.st n).ctx.tx ≠ .held) : s.enterOpen n =
    (s.updCtx n fun c => { c with tx := .opened }.startTimer (s.st n).alerts.hold).tone n .accept := by
  rw [State.enterOpen, if_neg ht, State.startTimer, State.updCtx, State.updCtx, State.upd_upd, State.st_upd_same]
  rfl

/-- R23, R143: what is left at the station when a borrower level of a check has been overridden. -/
theorem State.overrideEnding_leaves {r : BlockReason} (hl : l.reason? = some r) (hk : (s.st n).ctx.kind = some .charge)
    (ht : (s.st n).ctx.tx = .checking) (hh : (s.st n).alerts.hold = false) :
    let v := State.overrideEnding n l true s
    let left := (s.st n).ctx.outstanding.filter (· != r)
    (v.st n).line = (s.st n).line ∧ (v.st n).alerts = (s.st n).alerts ∧ (v.st n).tallies = (s.st n).tallies ∧
    (v.st n).ctx.outstanding = left ∧ (v.st n).ctx.interrupted = (s.st n).ctx.interrupted ∧
    (left = [] → (v.st n).ctx.tx = .opened ∧ (v.st n).ctx.timer = .running (s.st n).ctx.period) ∧
    (left ≠ [] → (v.st n).ctx.tx = .checking) ∧
    (∀ m, m ≠ n → v.st m = s.st m) ∧ v = { s with stations := v.stations, sent := v.sent } := by
  intro v left
  have hv : v = if left.isEmpty then (s.updCtx n fun c => { c with outstanding := left }).enterOpen n
      else s.updCtx n fun c => { c with outstanding := left } := by
    have h := State.overrideEnding_borrower (n := n) hl hk ht
    have hcongr : (s.updCtx n fun c => { c with outstanding := c.outstanding.filter (· != r) }) =
        s.updCtx n fun c => { c with outstanding := left } := State.upd_congr rfl
    rw [hcongr] at h
    exact h
  rcases hleft : left with _ | ⟨x, xs⟩
  · rw [hleft, List.isEmpty_nil, if_pos rfl, State.enterOpen_eq (by simp [ht])] at hv
    rw [hv]
    refine ⟨by simp, by simp, by simp, by simp [Ctx.startTimer], by simp [Ctx.startTimer],
      fun _ => by simp [Ctx.startTimer, hh], fun h => absurd rfl h, fun m hm => by simp [hm],
      State.eq_of_rest (by simp)⟩
  · rw [hleft, if_neg (by simp)] at hv
    rw [hv]
    exact ⟨by simp, by simp, by simp, by simp, by simp, fun h => absurd h (by simp), fun _ => by simp [ht],
      fun m hm => by simp [hm], rfl⟩

section
variable {r : BlockReason} {k : Nat} (hb : s.badges.contains k = true) (hd : (s.st n).alerts.displayed = some l)
  (hl : l.reason? = some r) (ho : ¬ (l = .l5 ∧ (s.st n).alerts.origin = some .item))
  (hh : (s.st n).alerts.hold = true) (hs : (s.st n).alerts.holdSet.mem l = true)
include hb hd hl ho hh hs

/-- R143: a listed badge at a borrower level, in a journal that is ready. -/
theorem State.takeBadge_ready (hp : s.ready p) : s.takeBadge n k =
    (((s.journaled n p { s.overrideOf n r k with flags := {} }).updTallies n fun t =>
      { t with overrides := sat32 t.overrides 1 }).updAlerts n fun r => r.leave l).endEvent n .accept
        (State.overrideEnding n l true) := by
  have href := (Resolver.refusesBorrower_iff (a := (s.st n).alerts) hl).mpr ho
  simp only [State.takeBadge, hb, Bool.not_true, Bool.false_eq_true, if_false, Resolver.overridable_of hd hl hh hs,
    State.writeStation_journaled hp, href, Station.overrideItem, hl, if_true, Option.map_some]
  rfl

omit ho in
/-- R171: a listed badge with no page FILLING. -/
theorem State.takeBadge_full (hf : s.journal.filling? = none) (ha : s.alarmsSettled) :
    s.takeBadge n k = s.lost.badgeJournalFull n := by
  simp only [State.takeBadge, hb, Bool.not_true, Bool.false_eq_true, if_false, Resolver.overridable_of hd hl hh hs,
    State.writeStation_lost s n _ hf ha]

/-- R23, R143: a borrower level overridden at a station HELD from CHECKING, with nothing else in the sets. -/
theorem State.takeBadge_overrides (hp : s.ready p) (hk : (s.st n).ctx.kind = some .charge)
    (hi : (s.st n).alerts.inService = LevelSet.empty.insert l) (hpend : (s.st n).alerts.pending = .empty)
    (ht : (s.st n).ctx.tx = .held) (hint : (s.st n).ctx.interrupted = some .checking) (hitems : (s.st n).ctx.items = [])
    (hlink : (s.st n).line.link = .active) :
    let t := s.takeBadge n k
    let left := (s.st n).ctx.outstanding.filter (· != r)
    t.journal = (s.recorded p (s.overrideOf n r k)).journal ∧
    (t.st n).tallies = { (s.st n).tallies with overrides := min 4294967295 ((s.st n).tallies.overrides + 1) } ∧
    (t.st n).alerts.inService = .empty ∧ (t.st n).alerts.hold = false ∧
    ((t.st n).ctx.outstanding = left ∧ (t.st n).ctx.interrupted = none ∧
      (left = [] → (t.st n).ctx.tx = .opened ∧ (t.st n).ctx.timer = .running (s.st n).ctx.period) ∧
      (left ≠ [] → (t.st n).ctx.tx = .checking)) ∧
    t.sent.getLast? = some (.desk n (.display (some (t.st n).ctx.tx) none 0 .accept)) ∧
    (∀ m, m ≠ n → t.st m = s.st m) ∧ t = { s with stations := t.stations, journal := t.journal, sent := t.sent } := by
  intro t left
  have hready := State.takeBadge_ready hb hd hl ho hh hs hp
  generalize hr : { s.overrideOf n r k with flags := {} } = rec_ at hready
  generalize hu : ((s.journaled n p rec_).updTallies n fun t =>
      { t with overrides := sat32 t.overrides 1 }).updAlerts n (fun r => r.leave l) = u at hready
  have hempty : ((s.st n).alerts.leave l).inService = .empty := LevelSet.ext_mem (by simp [hi])
  have hualerts : (u.st n).alerts = (s.st n).alerts.leave l := by simp [← hu]
  have huctx : (u.st n).ctx = (s.st n).ctx.numbered s.journal.counter := by
    rw [← hu, (State.updAlerts_parts _ n n _).2.1, (State.updTallies_parts _ n n _).2.1, State.journaled_st, ← hr]
    rfl
  have hlift := State.endEvent_lifts (s := u) (n := n) (by rw [hualerts]; simpa using hpend)
    (by rw [hualerts]; exact hempty) (by rw [hualerts]; simpa using hh) (by rw [huctx]; simpa using ht)
    (by rw [huctx]; simp [hitems]) .accept (State.overrideEnding n l true)
  generalize hw : (u.upd n fun t => { t with alerts := { t.alerts with hold := false }, ctx := t.ctx.endHold }).tone n
    .none = w at hlift
  obtain ⟨hchecking, hnone⟩ := Ctx.endHold_checking (c := (u.st n).ctx) (by rw [huctx]; simpa using ht)
    (by rw [huctx]; simpa using hint)
  have hwst : w.st n = { u.st n with
      alerts := { (s.st n).alerts.leave l with hold := false }, ctx := (u.st n).ctx.endHold } := by
    rw [← hw, State.tone_st, State.st_upd_same, hualerts]
  obtain ⟨h1, h2, h3, h4, h5, h6, h7, h8, h9⟩ := State.overrideEnding_leaves (s := w) (n := n) hl
    (by rw [hwst]; simp [huctx, hk]) (by rw [hwst]; exact hchecking) (by rw [hwst])
  have houtstanding : (w.st n).ctx.outstanding = (s.st n).ctx.outstanding := by rw [hwst]; simp [huctx]
  have hperiod : (w.st n).ctx.period = (s.st n).ctx.period := by rw [hwst]; simp [huctx]
  have hinterrupted : (w.st n).ctx.interrupted = none := by rw [hwst]; exact hnone
  have htallies : (w.st n).tallies =
      { (s.st n).tallies with overrides := min 4294967295 ((s.st n).tallies.overrides + 1) } := by
    rw [hwst]
    simp [← hu, sat32, satAdd, Config.maxCount32]
  have hjournal : w.journal = (s.recorded p (s.overrideOf n r k)).journal := by
    have hj : w.journal = (s.journaled n p rec_).journal := by simp [← hw, ← hu]
    rw [hj, State.journaled_plain (by rw [← hr]), ← hr]
    rfl
  have hline : (w.st n).line = (s.st n).line := by rw [hwst]; simp [← hu]
  have hother : ∀ m, m ≠ n → w.st m = s.st m := fun m hm => by simp [← hw, ← hu, hm]
  have hrest : w = { s with stations := w.stations, journal := w.journal, sent := w.sent } := by
    rw [← hw, State.tone_eq, ← hu]
    rfl
  rw [houtstanding, hperiod] at h6
  rw [houtstanding] at h4 h7
  have ht' : t = ((State.overrideEnding n l true w).finishShow n .accept).closeIfDone n := hready.trans hlift
  generalize State.overrideEnding n l true w = v at *
  have hservice : (v.st n).alerts.inService = .empty := by rw [h2, hwst]; exact hempty
  have hstate : (v.st n).ctx.tx = .opened ∨ (v.st n).ctx.tx = .checking := by
    by_cases h : left = []
    · exact .inl (h6 h).1
    · exact .inr (h7 h)
  rw [State.closeIfDone_of_ne (by rcases hstate with h | h <;> simp [h])] at ht'
  have hlast := State.finishShow_last (s := v) (n := n) (by rw [h1, hline, hlink]; decide) (t := .accept) (by decide)
  have hshow : ((v.finishShow n .accept).st n).alerts.showing = (none, 0) := by
    rw [Resolver.showing, Resolver.displayed_empty (by simpa using hservice)]
  rw [hshow] at hlast
  rw [ht']
  refine ⟨?_, ?_, ?_, ?_, ⟨?_, ?_, fun h => ?_, fun h => ?_⟩, ?_, fun m hm => ?_, ?_⟩
  · simp only [State.finishShow_keeps]
    rw [h9]
    exact hjournal
  · simpa [h3] using htallies
  · simpa using hservice
  · rw [State.finishShow_hold, h2, hwst]
  · simpa using h4
  · simpa [h5] using hinterrupted
  · simpa using h6 h
  · simpa using h7 h
  · rw [hlast]
    simp [Station.shownState, h1, hline, hlink]
  · rw [State.finishShow_other _ hm, h8 m hm, hother m hm]
  · have h := State.eq_of_rest (s := v) (t := v.finishShow n .accept) (by simp)
    rw [h, h9, hrest]

end

theorem State.showAlerts_eq {x : Option Level × Nat} (h : (s.st n).alerts.showing = x) (t : Tone) :
    s.showAlerts n t = (s.display n t x.2).updAlerts n fun r => { r with shown := x } := by
  rw [State.showAlerts, h]
  exact State.upd_congr (by simp only [State.display_st, h])

/-- R138: a badge turned away shows tone REFUSE with index 250, and then the level's own index where it is another. -/
theorem State.badgeJournalFull_eq (hd : (s.st n).alerts.displayed = some l) (hlink : (s.st n).line.link = .active) :
    s.badgeJournalFull n = (s.updAlerts n fun a => { a with shown := (some l, a.index[l.idx]) }).sending
      (s.sent ++ .desk n (.display (some (s.st n).ctx.tx) (some l) 250 .refuse) ::
        if (s.st n).alerts.index[l.idx] = 250 then []
        else [.desk n (.display (some (s.st n).ctx.tx) (some l) (s.st n).alerts.index[l.idx] .none)]) := by
  have hatt : (s.st n).line.link ≠ .detached := by simp [hlink]
  generalize hu : (s.display n .refuse Config.journalFullIndex).updAlerts n (fun r =>
    { r with shown := (r.displayed, Config.journalFullIndex) }) = u
  have hu' : u = (s.updAlerts n fun r => { r with shown := (some l, 250) }).sending
      (s.sent ++ [.desk n (.display (some (s.st n).ctx.tx) (some l) 250 .refuse)]) := by
    have hdisplay : s.display n .refuse 250 =
        s.sending (s.sent ++ [.desk n (.display (some (s.st n).ctx.tx) (some l) 250 .refuse)]) := by
      rw [State.display_eq, State.toHead_attached hatt]
      simp [Station.shownState, hlink, hd]
    rw [← hu, Config.journalFullIndex, hdisplay]
    rw [State.updAlerts, State.sending_upd, State.updAlerts]
    exact congrArg (State.sending · _) (State.upd_congr (by rw [hd]))
  have hst : u.st n = { s.st n with alerts := { (s.st n).alerts with shown := (some l, 250) } } := by
    rw [hu', State.sending_st, State.updAlerts_same]
  have hshow : (u.st n).alerts.showing = (some l, (s.st n).alerts.index[l.idx]) := by
    have hd' : (u.st n).alerts.displayed = some l := by rw [hst]; exact hd
    rw [Resolver.showing, hd', hst]
    rfl
  rw [State.badgeJournalFull, hu]
  by_cases h : (s.st n).alerts.index[l.idx] = 250
  · rw [State.finishShow_shown (by rw [hshow, hst, h]), hu', if_pos h]
    exact congrArg (State.sending · _) (State.upd_congr (by simp [h]))
  · have h' : ¬ 250 = (s.st n).alerts.index[l.idx] := fun e => h e.symm
    have hshows : u.showAlerts n .none = (s.updAlerts n fun a => { a with shown := (some l, a.index[l.idx]) }).sending
        (u.sent ++ [.desk n (.display (some (s.st n).ctx.tx) (some l) (s.st n).alerts.index[l.idx] .none)]) := by
      have hdisplay : u.display n .none (s.st n).alerts.index[l.idx] = u.sending
          (u.sent ++ [.desk n (.display (some (s.st n).ctx.tx) (some l) (s.st n).alerts.index[l.idx] .none)]) := by
        rw [State.display_eq, State.toHead_attached (by rw [hst]; exact hatt), ← Resolver.showing_fst, hshow]
        simp [Station.shownState, hst, hlink]
      rw [State.showAlerts_eq hshow, hdisplay, hu']
      have htwice : (s.updAlerts n fun r => { r with shown := (some l, 250) }).updAlerts n
          (fun r => { r with shown := (some l, (s.st n).alerts.index[l.idx]) }) =
          s.updAlerts n fun a => { a with shown := (some l, a.index[l.idx]) } :=
        (State.upd_upd s n _ _).trans (by exact State.upd_congr rfl)
      exact congrArg (State.sending · (s.sent ++ [.desk n (.display (some (s.st n).ctx.tx) (some l) 250 .refuse)] ++
        [.desk n (.display (some (s.st n).ctx.tx) (some l) (s.st n).alerts.index[l.idx] .none)])) htwice
    rw [State.finishShow, if_neg (by rw [hshow, hst]; simpa using h'), if_neg h, hshows, hu']
    simp

end Sys2Proof.Machine
end

section
namespace Sys2Proof.Proofs
open Sys2Proof Sys2Proof.Machine

/-- Settles O14: an acknowledge refuses the borrower, and a badge settles the level or is turned away. -/
theorem blockLevelEndings : Obligations.BlockLevelEndings := by
  intro n l r s hlink hd hpend hl ho hk
  have hatt : (s.st n).line.link ≠ .detached := by simp [hlink]
  refine ⟨fun p hp => ?_, fun symbol k hv hsymbol hb hh hs => ⟨fun p hp hi hpe ht hint hitems => ?_, fun hf ha => ?_⟩⟩
  · obtain ⟨h1, h2, h3, h4, h5, h6, h7, h8⟩ := State.acknowledge_refuses (s := s.fresh.heard n) (n := n) (l := l) (p := p)
      (by simpa using hd) hl (by simpa using ho) (by simpa using hk) (by simpa using hpend) (State.ready_of hp rfl rfl rfl)
    obtain ⟨-, -, -, -, hsent⟩ := State.refuseBorrower_ready (s := s.fresh.heard n) (n := n) (p := p)
      (State.ready_of hp rfl rfl rfl) (.block r) .noOne
    have hexec : exec (.key n .ack) s = .next ((s.fresh.heard n).acknowledge n) := exec_key hlink .ack
    refine ⟨_, (s.fresh.heard n).refusalOf n (.block r) .noOne, hexec, rfl, rfl, rfl, by simp [State.refusalOf],
      rfl, rfl, h1.trans (State.recorded_journal rfl _ _), by simpa using h2, by simpa using h3, fun i hi hk => ?_,
      fun b hb => h5 b hb, head?_of_prefix ?_ h6, fun m hm => (h7 m hm).trans (State.heard_other hm), ?_⟩
    · refine h4.trans ?_
      rw [State.heard_st]
      exact SlipQueue.release_only hi hk
    · rw [hsent, State.toHead_attached (by simpa using hatt)]
      simp [State.heard, hlink, hd]
    · exact h8.trans rfl
  · obtain ⟨h1, h2, h3, h4, h5, h6, h7, h8⟩ := State.takeBadge_overrides (s := s.fresh.scanned n .good) (n := n) (l := l)
      (p := p) (k := k) hb (by simpa using hd) hl (by simpa using ho) (by simpa using hh) (by simpa using hs)
      (State.ready_of hp rfl rfl rfl) (by simpa using hk) (by simpa using hi) (by simpa using hpe) (by simpa using ht)
      (by simpa using hint) (by simpa using hitems) (by simpa using hlink)
    refine ⟨_, (s.fresh.scanned n .good).overrideOf n r k, exec_scan_badge hv hsymbol hlink, rfl, rfl, rfl,
      by simp [State.overrideOf], rfl, rfl, rfl, h1.trans (State.recorded_journal rfl _ _), by simpa using h2, h3, h4,
      by simpa using h5, h6, fun m hm => (h7 m hm).trans (State.scanned_other hm _), h8.trans rfl⟩
  · rw [exec_scan_badge hv hsymbol hlink, State.takeBadge_full (s := s.fresh.scanned n .good) (n := n) (l := l) hb (by simpa using hd) hl (by simpa using hh)
      (by simpa using hs) hf ha, State.badgeJournalFull_eq (by simpa using hd) (by simpa using hlink)]
    refine congrArg Host.Outcome.next ?_
    simp
    rfl

end Sys2Proof.Proofs
end

section
/-! SUPPORT. The borrower check: a borrower scanned in IDLE (R21), the acceptance without a counted reason (R22, R58), and
the entry that a check creates (R51, R57). -/

namespace Sys2Proof.Machine

variable {s t : State} {n : StationNo} {b : Nat} {e : Borrower}

/-! ### The scan -/

theorem exec_scan_borrower {symbol : Text} (hv : validSymbol symbol = true) (hb : classify symbol = .borrower b)
    (hlink : (s.st n).line.link = .active) :
    exec (.scan n symbol) s = .next ((s.fresh.scanned n .good).borrowerScan n b) := by
  refine (exec_scan hv n s).trans (congrArg Host.Outcome.next ?_)
  rw [State.takeScan_active (by exact hlink) (by rw [hb]; exact Line.crosses_good _), hb]
  simp [ScanOutcome.quality, ScanOutcome.clamped, State.stick_nothing, State.scanInActive]

/-- R21: the context of a borrower's transaction that opens in IDLE, in a given state. -/
def Ctx.taken (c : Ctx) (b : Nat) (tx : TxState) : Ctx :=
  { c with
    tx := tx, kind := some .charge, borrower := some b, tracked := true, view := none, outstanding := []
    maskedReason := false, holding := some .reserved }

/-- R21: a borrower scan in IDLE that opens a check: the state that the check starts in. -/
theorem State.borrowerInIdle_checks {i : Fin 4} (hlocked : (s.st n).ctx.locked = false)
    (hslot : (s.st n).slips.freeSlot = some i) (h0 : (s.st n).alerts.inService.mem .l0 = false)
    (hh : (s.st n).alerts.hold = false) (hlink : (s.st n).line.link = .active) :
    ∃ w : State, s.borrowerInIdle n b = State.applyStaged (w.startCheck n b) n ∧
      w.st n = { s.st n with slips := (s.st n).slips.setSlot i .reserved, ctx := (s.st n).ctx.taken b .checking } ∧
      (∀ m, m ≠ n → w.st m = s.st m) ∧
      w.sent = s.sent ++ [.desk n (.display (some .checking) (s.st n).alerts.displayed 0 .none)] ∧
      w = { s with stations := w.stations, sent := w.sent } := by
  generalize hu : ((s.updSlips n (·.reserve)).updCtx n fun c => c.taken b .checking) = u
  have hust : u.st n =
      { s.st n with slips := (s.st n).slips.setSlot i .reserved, ctx := (s.st n).ctx.taken b .checking } := by
    rw [← hu]
    simp [SlipQueue.reserve, hslot]
  refine ⟨u.tone n .none, ?_, by rw [State.tone_st, hust], fun m hm => ?_, ?_, ?_⟩
  · have hstops : (s.st n).alerts.stops = false := by simp [Resolver.stops, h0, hh]
    simp only [State.borrowerInIdle, hlocked, hslot, hstops, Option.isNone_some, Bool.false_eq_true, if_false, ← hu]
    rfl
  · rw [State.tone_st, ← hu]
    simp [hm]
  · have hsent : u.sent = s.sent := by rw [← hu]; rfl
    rw [State.tone_attached (by simp [hust, hlink])]
    simp [State.displayNow, Station.shownState, hust, hlink, Ctx.taken, hsent]
  · rw [State.tone_eq, ← hu]
    rfl

/-! ### Reasons -/

/-- R58: the reasons present read the clock, the active bank and RULES_INVALID. -/
theorem State.reasons_congr (hc : t.clock = s.clock) (ha : t.bankA = s.bankA) (hb : t.bankB = s.bankB)
    (hact : t.active = s.active) (hr : t.mgmt.alarms = s.mgmt.alarms) (e : Borrower) : t.reasons e = s.reasons e := by
  have hcat : ∀ c, t.category? c = s.category? c := by
    intro c
    simp only [State.category?, State.activeBank, hr, hact, ha, hb]
  have hp : t.reasonPresent e = s.reasonPresent e := by
    funext r
    cases r <;> simp only [State.reasonPresent, hc, hcat]
  simp only [State.reasons, hp]

/-- R22, R58: the counted reasons of a borrower, and whether one is masked. -/
def State.countedReasons (s : State) (n : StationNo) (e : Borrower) : List BlockReason :=
  (s.reasons e).filter fun x => (s.st n).alerts.counts x.level

def State.anyMasked (s : State) (n : StationNo) (e : Borrower) : Bool :=
  (s.reasons e).any fun x => (s.st n).alerts.mask.mem x.level

/-- R22, R42: a borrower without a counted reason opens the transaction. -/
theorem State.acceptBorrower_opens (hcounted : s.countedReasons n e = []) (ht : (s.st n).ctx.tx = .checking) :
    s.acceptBorrower n e = (s.updCtx n fun c => Ctx.startTimer { c with
      lookup := none, maskedReason := c.maskedReason || s.anyMasked n e, outstanding := [], tx := .opened }
        (s.st n).alerts.hold).tone n .accept := by
  have hc : (s.reasons e).filter (fun x => (s.st n).alerts.counts x.level) = [] := hcounted
  simp only [State.acceptBorrower, hc, List.isEmpty_nil, if_true]
  rw [State.enterOpen_eq (by simp [ht]), State.updCtx, State.updCtx, State.upd_upd]
  refine congrArg (State.tone · n .accept) (State.upd_congr ?_)
  rw [State.st_upd_same]
  rfl

/-- R22: what the opening of a transaction leaves. -/
theorem State.acceptBorrower_leaves (hcounted : s.countedReasons n e = []) (ht : (s.st n).ctx.tx = .checking)
    (hh : (s.st n).alerts.hold = false) :
    (s.acceptBorrower n e).st n = { s.st n with ctx := { (s.st n).ctx with
      lookup := none, maskedReason := (s.st n).ctx.maskedReason || s.anyMasked n e, outstanding := [], tx := .opened
      timer := .running (s.st n).ctx.period } } ∧
    (∀ m, m ≠ n → (s.acceptBorrower n e).st m = s.st m) ∧
    s.acceptBorrower n e = { s with stations := (s.acceptBorrower n e).stations, sent := (s.acceptBorrower n e).sent } ∧
    ((s.st n).line.link = .active → (s.acceptBorrower n e).sent =
      s.sent ++ [.desk n (.display (some .opened) (s.st n).alerts.displayed 0 .accept)]) := by
  rw [State.acceptBorrower_opens hcounted ht]
  refine ⟨by simp [Ctx.startTimer, hh], fun m hm => by simp [hm], State.eq_of_rest (by simp), fun hlink => ?_⟩
  rw [State.tone_attached (by simp [hlink])]
  simp [State.displayNow, Station.shownState, hlink, Ctx.startTimer]

/-- R145: a staged configuration waits while the station is not IDLE. -/
theorem State.applyStaged_open (h : (s.st n).ctx.tx ≠ .idle) : s.applyStaged n = s := by
  simp only [State.applyStaged]
  split
  · rename_i h'
    exact absurd h' h
  · rfl

theorem State.applyStaged_none (h : (s.st n).alerts.staged = none) : s.applyStaged n = s := by
  simp only [State.applyStaged, h]

/-! ### The entry that a check creates -/

/-- R49, R51: an entry created in a table with room. -/
theorem State.createBorrower_room (h : s.borrowers.length < 4096) : s.createBorrower e =
    some ((if e.origin = .learned then (s.setBorrower e).touch e.number else s.setBorrower e).mapCtx fun c =>
      c.track e.number) := by
  have hroom : s.makeRoom = some s := if_pos h
  simp only [State.createBorrower, hroom]

theorem State.hasRoom_of (h : s.borrowers.length < 4096) : s.hasRoom = true := by
  simp [State.hasRoom, Config.maxBorrowers, h]

theorem Ctx.track_tracked {c : Ctx} (h : c.tracked = true) (b : Nat) : c.track b = c := by
  simp [Ctx.track, h]

/-- R53, R55: a check that goes on from the entry that stands. -/
theorem State.checkWithout_standing (h : s.borrower? b = some e) (d : DecidedBy) :
    s.checkWithout n b d = s.acceptEntry n e := by
  simp only [State.checkWithout, h]

theorem State.checkWithout_stranger (h : s.borrower? b = none) (d : DecidedBy) :
    s.checkWithout n b d = s.decideStranger n b d := by
  simp only [State.checkWithout, h]

/-! ### Queries -/

/-- R110: the state once a query has been sent under the FREE tag g. -/
def State.asked (s : State) (g : Tag) (q : Question) (cls : Nat) : State :=
  ((s.setQuery g ⟨(s.queries[g].gen + 1) % 256, .waiting q s.service.patience⟩).countService fun c =>
    { c with sent := sat32 c.sent 1 }).emit (.trunk (.query g.val ((s.queries[g].gen + 1) % 256) q cls))

theorem State.ask_free {g : Tag} (h : s.freeTag = some g) (q : Question) (cls : Nat) :
    s.ask q cls = (some (g, (s.queries[g].gen + 1) % 256), s.asked g q cls) := by
  simp only [State.ask, h]
  rfl

/-- R110: a fallback counted, where the query table is full. -/
def State.fellBack (s : State) : State := s.countService fun c => { c with fallbacks := sat32 c.fallbacks 1 }

theorem State.ask_full (h : s.freeTag = none) (q : Question) (cls : Nat) : s.ask q cls = (none, s.fellBack) := by
  simp only [State.ask, h]
  rfl

/-- R53, R55: the check of a borrower whose entry serves at once, with the fallback that a full query table counts. -/
theorem State.startCheck_standing (he : s.borrower? b = some e)
    (hcase : e.origin = .loaded ∨ s.service.state = .offline ∨ s.freeTag = none) :
    s.startCheck n b =
      (if e.origin ≠ .loaded ∧ s.service.state ≠ .offline then s.fellBack else s).acceptEntry n e := by
  by_cases hoff : s.service.state = .offline
  · simp [State.startCheck, hoff, State.checkWithout_standing he]
  by_cases hload : e.origin = .loaded
  · simp [State.startCheck, hoff, he, hload]
  have hfull : s.freeTag = none := (hcase.resolve_left hload).resolve_left hoff
  simp only [State.startCheck, if_neg hoff, he, if_neg hload, State.askLookup, State.ask_full hfull,
    if_pos (And.intro hload hoff)]
  exact State.checkWithout_standing (s := s.fellBack) he _

/-- R53: the check of a borrower that asks the server. -/
theorem State.startCheck_asks {g : Tag} (he : ∀ e, s.borrower? b = some e → e.origin ≠ .loaded)
    (hoff : s.service.state ≠ .offline) (hg : s.freeTag = some g) :
    s.startCheck n b = (s.asked g ⟨n, .borrowerLookup, b, none, none⟩ 0).updCtx n fun c =>
      { c with lookup := some (g, (s.queries[g].gen + 1) % 256) } := by
  have hask : s.askLookup n b = (s.asked g ⟨n, .borrowerLookup, b, none, none⟩ 0).updCtx n fun c =>
      { c with lookup := some (g, (s.queries[g].gen + 1) % 256) } := by
    simp only [State.askLookup, State.ask_free hg]
  cases hb : s.borrower? b with
  | none => simp only [State.startCheck, if_neg hoff, hb, hask]
  | some e => simp only [State.startCheck, if_neg hoff, hb, if_neg (he e hb), hask]

/-- R57: the stranger policy with room in the table and a journal that is ready. -/
theorem State.decideStranger_admits {p : Fin 128} (hpol : s.service.policy = .admits) (hroom : s.borrowers.length < 4096)
    (hp : s.ready p) (d : DecidedBy) : s.decideStranger n b d =
      (((s.journaled n p { s.record .borrowerNew (some n) with decidedBy := d, borrower := some b }).setBorrower
        (s.stranger b)).mapCtx fun c => c.track b).acceptBorrower n (s.stranger b) := by
  have hcreate : ∀ r, (s.journaled n p r).createBorrower (s.stranger b) =
      some (((s.journaled n p r).setBorrower (s.stranger b)).mapCtx fun c => c.track b) := fun r =>
    State.createBorrower_room (s := s.journaled n p r) hroom
  simp only [State.decideStranger, hpol, State.hasRoom_of hroom, State.writeStation_journaled hp, if_true, hcreate]
  rfl

theorem State.decideStranger_refuses (hpol : s.service.policy = .refuse) (d : DecidedBy) :
    s.decideStranger n b d = s.refuseBorrower n .stranger d := by
  simp only [State.decideStranger, hpol]

theorem State.decideStranger_full (hpol : s.service.policy = .admits) (hf : s.journal.filling? = none)
    (ha : s.alarmsSettled) (d : DecidedBy) : s.decideStranger n b d = s.lost.refuseBorrowerFull n := by
  simp only [State.decideStranger, hpol, State.writeStation_lost s n _ hf ha]

end Sys2Proof.Machine
end

section
/-! SUPPORT. The requests of the counted reasons of a borrower (R22, R24, R134): the levels that stand while they are made
one after the other, and the settling of O7. -/

namespace Sys2Proof.Machine

variable {s : State} {n : StationNo} {e : Borrower} {a r : Resolver}

/-! ### Levels of reasons -/

theorem BlockReason.level_inj {x y : BlockReason} (h : x.level = y.level) : x = y := by
  cases x <;> cases y <;> first | rfl | exact absurd h (by decide)

theorem Level.idx_inj {k l : Level} (h : k.idx = l.idx) : k = l := by
  cases k <;> cases l <;> first | rfl | exact absurd h (by decide)

@[simp] theorem Resolver.candidate_shown (r : Resolver) (x : Option Level × Nat) :
    { r with shown := x }.candidate = r.candidate := rfl

/-- R22, R134: the resolver while the reasons `done` have been requested of one that had nothing in its sets: their levels,
and no others, stand; none is acknowledged at once; each has its message index; and one that counts is in service. -/
structure Resolver.requested (a : Resolver) (e : Borrower) (done : List BlockReason) (r : Resolver) : Prop where
  settings : r.settings = a.settings
  union : ∀ l, (r.pending.mem l || r.inService.mem l) = done.any fun x => decide (x.level = l)
  index : ∀ x ∈ done, r.indexOf x.level = e.indexFor x
  origin : .limit ∈ done → r.origin = some .borrower
  serving : ∃ x ∈ done, r.inService.mem x.level = true ∧ a.holdSet.mem x.level = true

theorem Resolver.requested.holds (h : a.requested e done r) : r.holds = true := by
  obtain ⟨x, -, hi, hs⟩ := h.serving
  have hset : r.holdSet = a.holdSet := congrArg (·.2.1) h.settings
  refine List.any_eq_true.mpr ⟨x.level, Level.mem_all _, ?_⟩
  rw [hi, hset, hs]
  rfl

/-- R137: a level taken into service stays among those that stand. -/
theorem Resolver.requested.serve (h : a.requested e done r) {l : Level} (hl : r.candidate = some l) :
    a.requested e done (r.serve l) := by
  have hp := Resolver.pending_of_candidate hl
  refine ⟨h.settings, fun k => ?_, h.index, h.origin, ?_⟩
  · rw [← h.union k]
    by_cases hk : k = l
    · simp [Resolver.serve, hk, hp]
    · simp [Resolver.serve, hk]
  · obtain ⟨x, hx, hi, hs⟩ := h.serving
    exact ⟨x, hx, by simp [Resolver.serve, hi], hs⟩

theorem Resolver.requested.shown (h : a.requested e done r) (x : Option Level × Nat) :
    a.requested e done { r with shown := x } :=
  ⟨h.settings, h.union, h.index, h.origin, h.serving⟩

/-- R137: no level of a reason is acknowledged at once, so that none of them leaves. -/
theorem Resolver.requested.leave (h : a.requested e done r) (ha : ∀ x : BlockReason, a.autoAck.mem x.level = false)
    {l : Level} (hl : r.autoAck.mem l = true) : a.requested e done (r.leave l) := by
  have hauto : r.autoAck = a.autoAck := congrArg (·.2.2.1) h.settings
  have hnot : r.inService.mem l = false := by
    rw [Bool.eq_false_iff]
    intro hi
    have hu := h.union l
    rw [hi, Bool.or_true, eq_comm, List.any_eq_true] at hu
    obtain ⟨x, -, hx⟩ := hu
    have := ha x
    rw [of_decide_eq_true hx, ← hauto, hl] at this
    cases this
  have hleave : r.leave l = r := if_neg (by simp [hnot])
  rwa [hleave]

/-- R134: a further reason requested. -/
theorem Resolver.requested.request (h : a.requested e done r) {x : BlockReason} (hx : x ∉ done) :
    a.requested e (done ++ [x]) (r.request x.level (e.indexFor x) (if x = .limit then some .borrower else none)) := by
  have hnot : (r.pending.mem x.level || r.inService.mem x.level) = false := by
    rw [h.union, List.any_eq_false]
    intro y hy hl
    exact hx (BlockReason.level_inj (of_decide_eq_true hl) ▸ hy)
  obtain ⟨hp, hi⟩ := Bool.or_eq_false_iff.mp hnot
  have hreq : ∀ o, r.request x.level (e.indexFor x) o = { r with
      pending := r.pending.insert x.level, index := r.index.set x.level.idx (e.indexFor x)
      origin := if x.level = .l5 then o else r.origin } := by
    intro o
    simp only [Resolver.request, hp, hi, Bool.false_eq_true, if_false]
  rw [hreq]
  refine ⟨h.settings, fun l => ?_, fun y hy => ?_, fun hlim => ?_, ?_⟩
  · rw [List.any_append, ← h.union l]
    by_cases hl : l = x.level
    · simp [hl]
    · simp [hl, Ne.symm hl]
  · rcases List.mem_append.mp hy with hy | hy
    · have hne : x.level.idx ≠ y.level.idx := fun e =>
        hx (BlockReason.level_inj (Level.idx_inj e) ▸ hy)
      rw [← h.index y hy]
      exact Vector.getElem_set_ne x.level.idx.isLt y.level.idx.isLt fun e => hne (Fin.ext e)
    · obtain rfl := List.mem_singleton.mp hy
      simp [Resolver.indexOf]
  · by_cases hxl : x = .limit
    · simp [hxl, BlockReason.level]
    · have hne : x.level ≠ .l5 := fun e => hxl (BlockReason.level_inj e)
      rw [if_neg hne]
      exact h.origin ((List.mem_append.mp hlim).resolve_right fun hm => hxl (List.mem_singleton.mp hm).symm)
  · obtain ⟨y, hy, hi, hs⟩ := h.serving
    exact ⟨y, List.mem_append_left _ hy, hi, hs⟩

/-! ### The requests one after the other -/

theorem State.resolve_requested {a : Resolver} {done : List BlockReason} (ha : ∀ x : BlockReason, a.autoAck.mem x.level = false)
    (k : Nat) (h : a.requested e done (s.st n).alerts) : a.requested e done ((State.resolve n k s).st n).alerts :=
  State.resolve_preserves (P := a.requested e done) (fun _ _ hl h => h.serve hl) (fun _ x h => h.shown x)
    (fun _ _ hl h => h.leave ha hl) k s h

/-- R134, R139: a further reason requested while the hold condition holds. -/
theorem State.requestReason_held {done : List BlockReason} {x : BlockReason}
    (ha : ∀ x : BlockReason, a.autoAck.mem x.level = false) (h : a.requested e done (s.st n).alerts)
    (hh : (s.st n).alerts.hold = true) (hx : x ∉ done) :
    a.requested e (done ++ [x]) ((s.requestReason n e x).st n).alerts ∧
    ((s.requestReason n e x).st n).alerts.hold = true ∧ ((s.requestReason n e x).st n).ctx = (s.st n).ctx := by
  generalize hu : (s.updAlerts n fun r => r.request x.level (e.indexFor x) (if x = .limit then some .borrower else none))
    = u
  have hualerts : (u.st n).alerts =
      (s.st n).alerts.request x.level (e.indexFor x) (if x = .limit then some .borrower else none) := by simp [← hu]
  have hureq : a.requested e (done ++ [x]) (u.st n).alerts := by
    rw [hualerts]
    exact h.request hx
  have huhold : (u.st n).alerts.hold = true := by
    rw [hualerts, ← hh]
    simp only [Resolver.request]
    repeat' split
    all_goals rfl
  have hres := State.resolve_requested ha 8 hureq
  have hsame : (State.resolve n 8 u).reportHold n = State.resolve n 8 u :=
    State.reportHold_same (by rw [hres.holds, State.resolve_hold, huhold])
  have heq : s.requestReason n e x = (State.resolve n 8 u).finishShow n .none := by
    rw [State.requestReason, State.requestLevel, hu, State.settleAlerts, hsame]
  rw [heq]
  refine ⟨?_, by rw [State.finishShow_hold, State.resolve_hold, huhold], by simp [← hu]⟩
  simp only [State.finishShow]
  split
  · exact hres
  · rw [State.showAlerts_alerts]
    exact hres.shown _

theorem State.foldl_requestReason_held (ha : ∀ x : BlockReason, a.autoAck.mem x.level = false) (xs : List BlockReason) :
    ∀ {s : State} {done : List BlockReason}, a.requested e done (s.st n).alerts → (s.st n).alerts.hold = true →
      (∀ x ∈ xs, x ∉ done) → xs.Nodup →
      a.requested e (done ++ xs) ((xs.foldl (fun s x => s.requestReason n e x) s).st n).alerts ∧
      ((xs.foldl (fun s x => s.requestReason n e x) s).st n).alerts.hold = true ∧
      ((xs.foldl (fun s x => s.requestReason n e x) s).st n).ctx = (s.st n).ctx := by
  induction xs with
  | nil =>
    intro s done h hh _ _
    simpa using ⟨h, hh⟩
  | cons x xs ih =>
    intro s done h hh hnew hnodup
    obtain ⟨hx, hnodup⟩ := List.nodup_cons.mp hnodup
    obtain ⟨h1, h2, h3⟩ := State.requestReason_held ha h hh (hnew x (by simp))
    obtain ⟨k1, k2, k3⟩ := ih h1 h2 (fun y hy hd => (List.mem_append.mp hd).elim (hnew y (by simp [hy]))
      fun he => hx (List.mem_singleton.mp he ▸ hy)) hnodup
    rw [List.append_assoc, List.singleton_append] at k1
    rw [List.foldl_cons]
    exact ⟨k1, k2, k3.trans h3⟩

/-- R22, R24, R134: a borrower with counted reasons at a station with nothing in its sets and no hold is HELD. -/
theorem State.acceptBorrower_holds (hcounted : s.countedReasons n e ≠ []) (ht : (s.st n).ctx.tx = .checking)
    (hh : (s.st n).alerts.hold = false) (hp : (s.st n).alerts.pending = .empty) (hi : (s.st n).alerts.inService = .empty)
    (ha : ∀ x : BlockReason, (s.st n).alerts.autoAck.mem x.level = false) :
    (s.st n).alerts.requested e (s.countedReasons n e) ((s.acceptBorrower n e).st n).alerts ∧
    ((s.acceptBorrower n e).st n).alerts.hold = true ∧
    ((s.acceptBorrower n e).st n).ctx.tx = .held ∧ ((s.acceptBorrower n e).st n).ctx.interrupted = some .checking ∧
    ((s.acceptBorrower n e).st n).ctx.outstanding = s.countedReasons n e ∧
    ((s.acceptBorrower n e).st n).ctx.maskedReason = ((s.st n).ctx.maskedReason || s.anyMasked n e) ∧
    ((s.acceptBorrower n e).st n).ctx.borrower = (s.st n).ctx.borrower := by
  generalize hu : (s.updCtx n fun c => { c with
    lookup := none, maskedReason := c.maskedReason || s.anyMasked n e, outstanding := s.countedReasons n e }) = u
  have heq : s.acceptBorrower n e = (s.countedReasons n e).foldl (fun s x => s.requestReason n e x) u := by
    have hne : (s.countedReasons n e).isEmpty = false := by simpa using hcounted
    have hne' : ((s.reasons e).filter fun x => (s.st n).alerts.counts x.level).isEmpty = false := hne
    simp only [State.acceptBorrower, hne', Bool.false_eq_true, if_false]
    exact congrArg (List.foldl _ · _) hu
  have hualerts : (u.st n).alerts = (s.st n).alerts := by simp [← hu]
  have hnodup : (s.countedReasons n e).Nodup := ((by decide : BlockReason.all.Nodup).filter _).filter _
  have hcounts : ∀ x ∈ s.countedReasons n e, (s.st n).alerts.counts x.level = true := fun x hx =>
    (List.mem_filter.mp hx).2
  obtain ⟨x, xs, hxs⟩ := List.exists_cons_of_ne_nil hcounted
  rw [heq, hxs]
  rw [hxs] at hnodup hcounts
  obtain ⟨hx, hnodup⟩ := List.nodup_cons.mp hnodup
  have hcx := hcounts x (by simp)
  obtain ⟨hm, hs⟩ : (s.st n).alerts.mask.mem x.level = false ∧ (s.st n).alerts.holdSet.mem x.level = true := by
    simpa [Resolver.counts] using hcx
  have hfirst := State.requestLevel_only (s := u) (n := n) (l := x.level) (by rw [hualerts]; exact hp)
    (by rw [hualerts]; exact hi) (by rw [hualerts]; exact hm) (by rw [hualerts]; exact ha x) (by rw [hualerts]; exact hh)
    (e.indexFor x) (if x = .limit then some .borrower else none)
  rw [hualerts, hs, if_pos rfl] at hfirst
  have hreq : (s.st n).alerts.requested e [x] ((u.requestReason n e x).st n).alerts := by
    rw [State.requestReason, hfirst]
    refine ⟨rfl, fun l => by simp [Resolver.served, eq_comm], fun y hy => ?_, fun hlim => ?_,
      ⟨x, by simp, by simp [Resolver.served], hs⟩⟩
    · obtain rfl := List.mem_singleton.mp hy
      simp [Resolver.served, Resolver.indexOf]
    · obtain rfl := List.mem_singleton.mp hlim
      rfl
  have hold : ((u.requestReason n e x).st n).alerts.hold = true := by
    rw [State.requestReason, hfirst]
    exact hs
  obtain ⟨k1, k2, k3⟩ := State.foldl_requestReason_held ha xs hreq hold
    (fun y hy hd => hx (List.mem_singleton.mp hd ▸ hy)) hnodup
  have hctx : ((u.requestReason n e x).st n).ctx = (u.st n).ctx.beginHold := by rw [State.requestReason, hfirst]
  have htx : (u.st n).ctx.tx = .checking := by simp [← hu, ht]
  rw [List.foldl_cons]
  refine ⟨k1, k2, ?_, ?_, ?_, ?_, ?_⟩
  · rw [k3, hctx]
    simp [Ctx.beginHold, htx]
  · rw [k3, hctx]
    simp [Ctx.beginHold, htx]
  · rw [k3, hctx]
    simp [← hu, hxs]
  · rw [k3, hctx]
    simp [← hu]
  · rw [k3, hctx]
    simp [← hu]

end Sys2Proof.Machine
end

section
/-! The settling of O7. -/

namespace Sys2Proof.Machine

variable {s w : State} {n : StationNo} {b : Nat} {e : Borrower}

/-- R51: what the acceptance of an entry changes first: a LEARNED one heads the recency list. -/
def State.recencyFor (s : State) (e : Borrower) : List Nat :=
  if e.origin = .learned then e.number :: s.recency.filter (· != e.number) else s.recency

/-- R51, R53, R55: the state in which the entry that stands is accepted. -/
theorem State.startCheck_accepts (he : s.borrower? b = some e)
    (hcase : e.origin = .loaded ∨ s.service.state = .offline ∨ s.freeTag = none) :
    ∃ z : State, s.startCheck n b = z.acceptBorrower n e ∧
      z = { s with recency := s.recencyFor e, service := z.service } ∧
      z.service.stats.fallbacks = (if e.origin ≠ .loaded ∧ s.service.state ≠ .offline
        then min 4294967295 (s.service.stats.fallbacks + 1) else s.service.stats.fallbacks) := by
  rw [State.startCheck_standing he hcase, State.acceptEntry]
  generalize hz : (if e.origin ≠ .loaded ∧ s.service.state ≠ .offline then s.fellBack else s) = z
  have hrest : z = { s with service := z.service } := by
    rw [← hz]
    split <;> rfl
  have hfall : z.service.stats.fallbacks = (if e.origin ≠ .loaded ∧ s.service.state ≠ .offline
      then min 4294967295 (s.service.stats.fallbacks + 1) else s.service.stats.fallbacks) := by
    rw [← hz]
    split
    · simp [State.fellBack, State.countService, sat32, satAdd, Config.maxCount32]
    · rfl
  refine ⟨_, rfl, ?_, ?_⟩
  · simp only [State.recencyFor]
    split
    · rw [hrest]
      rfl
    · rw [hrest]
  · rw [← hfall]
    split <;> rfl

theorem State.sent_foldl_requestReason (n : StationNo) (e : Borrower) (xs : List BlockReason) (s : State) :
    s.sent <+: (xs.foldl (fun s x => s.requestReason n e x) s).sent := by
  induction xs generalizing s with
  | nil => exact List.prefix_refl _
  | cons x xs ih => exact (s.sent_requestLevel n _ _ _).trans (ih (s.requestReason n e x))

/-- R22: what an acceptance never reaches. -/
theorem State.acceptBorrower_reaches (s : State) (n : StationNo) (e : Borrower) :
    ((s.acceptBorrower n e).st n).slips = (s.st n).slips ∧
    ((s.acceptBorrower n e).st n).tallies = (s.st n).tallies ∧
    (∀ m, m ≠ n → (s.acceptBorrower n e).st m = s.st m) ∧
    s.acceptBorrower n e = { s with stations := (s.acceptBorrower n e).stations, sent := (s.acceptBorrower n e).sent } ∧
    s.sent <+: (s.acceptBorrower n e).sent := by
  generalize hu : (s.updCtx n fun c => { c with
    lookup := none, maskedReason := c.maskedReason || s.anyMasked n e, outstanding := s.countedReasons n e }) = u
  have heq : s.acceptBorrower n e = if (s.countedReasons n e).isEmpty then u.enterOpen n
      else (s.countedReasons n e).foldl (fun s x => s.requestReason n e x) u := by
    rw [← hu]
    rfl
  have hus : (u.st n).slips = (s.st n).slips ∧ (u.st n).tallies = (s.st n).tallies := by simp [← hu]
  have huo : ∀ m, m ≠ n → u.st m = s.st m := fun m hm => by simp [← hu, hm]
  have hur : u = { s with stations := u.stations, sent := u.sent } := by rw [← hu]; rfl
  have hsent : u.sent = s.sent := by rw [← hu]; rfl
  rw [heq]
  split
  · rw [State.enterOpen]
    split
    · exact ⟨by simp [State.startTimer, hus], by simp [State.startTimer, hus],
        fun m hm => by simp [State.startTimer, hm, huo m hm], by rw [hur]; rfl, by rw [← hsent]; exact List.prefix_refl _⟩
    · refine ⟨by simp [State.startTimer, hus], by simp [State.startTimer, hus],
        fun m hm => by simp [State.startTimer, hm, huo m hm], ?_, ?_⟩
      · rw [State.tone_eq, hur]
        rfl
      · rw [← hsent]
        exact State.sent_tone ((u.updCtx n fun c => { c with tx := .opened }).startTimer n) n .accept
  · have hkeeps : ∀ (xs : List BlockReason),
        let t := xs.foldl (fun s x => s.requestReason n e x) u
        (t.st n).slips = (u.st n).slips ∧ (t.st n).tallies = (u.st n).tallies ∧ (∀ m, m ≠ n → t.st m = u.st m) ∧
          t = { u with stations := t.stations, sent := t.sent } := by
      intro xs
      refine foldl_preserves (P := fun t : State => (t.st n).slips = (u.st n).slips ∧
        (t.st n).tallies = (u.st n).tallies ∧ (∀ m, m ≠ n → t.st m = u.st m) ∧
        t = { u with stations := t.stations, sent := t.sent }) ?_ xs ⟨rfl, rfl, fun _ _ => rfl, rfl⟩
      rintro t x ⟨h1, h2, h3, h4⟩
      have hstep := State.eq_of_rest (s := t) (t := t.requestReason n e x) (by simp [State.requestReason])
      refine ⟨by simpa [State.requestReason] using h1, by simpa [State.requestReason] using h2,
        fun m hm => by simpa [State.requestReason, hm] using h3 m hm, ?_⟩
      rw [hstep, h4]
    obtain ⟨h1, h2, h3, h4⟩ := hkeeps (s.countedReasons n e)
    refine ⟨h1.trans hus.1, h2.trans hus.2, fun m hm => (h3 m hm).trans (huo m hm), ?_, ?_⟩
    · rw [h4, hur]
    · rw [← hsent]
      exact State.sent_foldl_requestReason n e _ u

/-! ### A reservation given back -/

/-- R151: the release of the only reservation gives the queue back as it was. -/
theorem SlipQueue.release_setSlot {q : SlipQueue} {i : Fin 4} (hfree : q.freeSlot = some i)
    (hres : ∀ k : Fin 4, q.slots[k] ≠ .reserved) : (q.setSlot i .reserved).release = q := by
  have hi : q.slots[i] = .free := by simpa using List.find?_some (p := fun k : Fin 4 => decide (q.slots[k] = .free)) hfree
  have honly : (q.setSlot i .reserved).reservedSlot = some i := by
    refine SlipQueue.find_only (by simp [SlipQueue.setSlot]) fun k hk => ?_
    rw [SlipQueue.setSlot_slots, if_neg hk]
    exact decide_eq_false (hres k)
  have hset : q.slots.set i .free = q.slots := by
    rw [← hi]
    exact Vector.set_getElem_self _
  simp only [SlipQueue.release, honly]
  simp only [SlipQueue.setSlot, Vector.set_set, hset]

/-- R57: the entry of a stranger, with the loans counted. -/
theorem State.stranger_eq (s : State) (b : Nat) : s.stranger b =
    { number := b, origin := .provisional, category := 15, manual := none, expiry := none, balance := 0
      onLoan := min 255 (s.loans.countP fun l => l.borrower == b), overdue := 0, changed := true, inFlight := false } := by
  simp [State.stranger, State.pendingCount, List.countP_eq_length_filter, Config.strangerCategory, Config.maxCount8]

theorem State.eq_of_stations {t u : State} (hrest : t = { u with stations := t.stations, sent := t.sent })
    (hst : ∀ m, t.st m = u.st m) (hsent : t.sent = u.sent) : t = u := by
  have hvec : t.stations = u.stations := Vector.ext fun k hk => hst ⟨k, hk⟩
  rw [hrest, hvec, hsent]

end Sys2Proof.Machine

namespace Sys2Proof.Proofs
open Sys2Proof Sys2Proof.Machine

section
variable {s w : State} {n : StationNo} {b : Nat} {e : Borrower} {i : Fin 4}
  (hlink : (s.st n).line.link = .active) (hh : (s.st n).alerts.hold = false)
  (hw : w.st n = { (s.scanned n .good).st n with
    slips := (s.st n).slips.setSlot i .reserved, ctx := (s.st n).ctx.taken b .checking })
  (hother : ∀ m, m ≠ n → w.st m = s.st m)
  (hsent : w.sent = [.desk n (.display (some .checking) (s.st n).alerts.displayed 0 .none)])
  (hrest : w = { s with stations := w.stations, sent := w.sent })
include hlink hh hw hother hsent hrest

/-- R22, R51, R55: the check of an entry that serves at once, without a counted reason. -/
theorem checkOpens (he : s.borrower? b = some e)
    (hcase : e.origin = .loaded ∨ s.service.state = .offline ∨ s.freeTag = none)
    (hcounted : s.countedReasons n e = []) :
    let t := State.applyStaged (w.startCheck n b) n
    ((t.st n).slips.slots = (s.st n).slips.slots.set i .reserved ∧ (∀ m, m ≠ n → t.st m = s.st m) ∧
      t.borrowers = s.borrowers ∧ t.journal = s.journal) ∧
    (t.st n).ctx = { (s.st n).ctx.taken b .opened with
      maskedReason := s.anyMasked n e, firstSeq := (s.st n).ctx.firstSeq, lookup := none
      timer := .running (s.st n).ctx.period } ∧
    t.recency = s.recencyFor e ∧
    t.service.stats.fallbacks = (if e.origin ≠ .loaded ∧ s.service.state ≠ .offline
      then min 4294967295 (s.service.stats.fallbacks + 1) else s.service.stats.fallbacks) ∧
    t.sent = [.desk n (.display (some .checking) (s.st n).alerts.displayed 0 .none),
      .desk n (.display (some .opened) (s.st n).alerts.displayed 0 .accept)] ∧
    t = { s with stations := t.stations, recency := s.recencyFor e, service := t.service, sent := t.sent } := by
  intro t
  have hwb : w.borrower? b = some e := by rw [hrest]; exact he
  have hwcase : e.origin = .loaded ∨ w.service.state = .offline ∨ w.freeTag = none := by rw [hrest]; exact hcase
  obtain ⟨z, hz, hzrest, hfall⟩ := State.startCheck_accepts (n := n) hwb hwcase
  have hzst : ∀ m, z.st m = w.st m := fun m => by rw [hzrest]; rfl
  have hreasons : z.reasons e = s.reasons e := State.reasons_congr (by rw [hzrest, hrest]) (by rw [hzrest, hrest])
    (by rw [hzrest, hrest]) (by rw [hzrest, hrest]) (by rw [hzrest, hrest]) e
  have halerts : (z.st n).alerts = (s.st n).alerts := by rw [hzst, hw]; simp
  have hctx : (z.st n).ctx = (s.st n).ctx.taken b .checking := by rw [hzst, hw]
  obtain ⟨h1, h2, h3, h4⟩ := State.acceptBorrower_leaves (s := z) (n := n) (e := e)
    (by rw [State.countedReasons, hreasons, halerts]; exact hcounted) (by rw [hctx]; rfl) (by rw [halerts]; exact hh)
  have hmasked : z.anyMasked n e = s.anyMasked n e := by rw [State.anyMasked, hreasons, halerts]; rfl
  rw [hctx, hmasked] at h1
  have ht : t = z.acceptBorrower n e := by
    rw [← State.applyStaged_open (s := z.acceptBorrower n e) (n := n) (by rw [h1]; simp), ← hz]
  rw [ht]
  have hservice : (z.acceptBorrower n e).service = z.service := by rw [h3]
  refine ⟨⟨by rw [h1, hzst, hw]; rfl, fun m hm => by rw [h2 m hm, hzst, hother m hm], by rw [h3, hzrest, hrest],
    by rw [h3, hzrest, hrest]⟩, ?_, ?_, ?_, ?_, ?_⟩
  · rw [h1]
    simp [Ctx.taken]
  · rw [h3, hzrest, hrest]
    rfl
  · rw [hservice, hfall, hrest]
  · rw [h4 (by rw [hzst, hw]; simpa using hlink), halerts]
    have : z.sent = w.sent := by rw [hzrest]
    rw [this, hsent]
    rfl
  · rw [h3, hzrest, hrest]
    rfl

omit hlink in
/-- R22, R24, R134: the check of an entry that serves at once, with counted reasons and nothing in the sets. -/
theorem checkHolds (he : s.borrower? b = some e)
    (hcase : e.origin = .loaded ∨ s.service.state = .offline ∨ s.freeTag = none)
    (hcounted : s.countedReasons n e ≠ []) (hp : (s.st n).alerts.pending = .empty)
    (hi : (s.st n).alerts.inService = .empty) (ha : ∀ r : BlockReason, (s.st n).alerts.autoAck.mem r.level = false) :
    let t := State.applyStaged (w.startCheck n b) n
    ((t.st n).slips.slots = (s.st n).slips.slots.set i .reserved ∧ (∀ m, m ≠ n → t.st m = s.st m) ∧
      t.borrowers = s.borrowers ∧ t.journal = s.journal) ∧
    (t.st n).ctx.tx = .held ∧ (t.st n).ctx.interrupted = some .checking ∧
    (t.st n).ctx.outstanding = s.countedReasons n e ∧ (t.st n).ctx.maskedReason = s.anyMasked n e ∧
    (t.st n).ctx.borrower = some b ∧ (t.st n).alerts.hold = true ∧
    (∀ r : BlockReason, ((t.st n).alerts.pending.mem r.level || (t.st n).alerts.inService.mem r.level) =
      (s.countedReasons n e).contains r) ∧
    (.manual ∈ s.countedReasons n e → (t.st n).alerts.index[Level.l1.idx] = e.manual.getD 0) ∧
    (.limit ∈ s.countedReasons n e → (t.st n).alerts.origin = some .borrower) ∧
    t.sent.head? = some (.desk n (.display (some .checking) (s.st n).alerts.displayed 0 .none)) ∧
    t.recency = s.recencyFor e ∧ (t.st n).tallies = (s.st n).tallies := by
  intro t
  have hwb : w.borrower? b = some e := by rw [hrest]; exact he
  have hwcase : e.origin = .loaded ∨ w.service.state = .offline ∨ w.freeTag = none := by rw [hrest]; exact hcase
  obtain ⟨z, hz, hzrest, -⟩ := State.startCheck_accepts (n := n) hwb hwcase
  have hzst : ∀ m, z.st m = w.st m := fun m => by rw [hzrest]; rfl
  have hreasons : z.reasons e = s.reasons e := State.reasons_congr (by rw [hzrest, hrest]) (by rw [hzrest, hrest])
    (by rw [hzrest, hrest]) (by rw [hzrest, hrest]) (by rw [hzrest, hrest]) e
  have halerts : (z.st n).alerts = (s.st n).alerts := by rw [hzst, hw]; simp
  have hctx : (z.st n).ctx = (s.st n).ctx.taken b .checking := by rw [hzst, hw]
  have hsame : z.countedReasons n e = s.countedReasons n e := by rw [State.countedReasons, hreasons, halerts]; rfl
  have hmasked : z.anyMasked n e = s.anyMasked n e := by rw [State.anyMasked, hreasons, halerts]; rfl
  obtain ⟨h1, h2, h3, h4, h5, h6, h7⟩ := State.acceptBorrower_holds (s := z) (n := n) (e := e)
    (by rw [hsame]; exact hcounted) (by rw [hctx]; rfl) (by rw [halerts]; exact hh) (by rw [halerts]; exact hp)
    (by rw [halerts]; exact hi) (by rw [halerts]; exact ha)
  rw [hsame, halerts] at h1
  have ht : t = z.acceptBorrower n e := by
    rw [← State.applyStaged_open (s := z.acceptBorrower n e) (n := n) (by rw [h3]; simp), ← hz]
  rw [ht]
  obtain ⟨k1, k2, k3, k4, k5⟩ := z.acceptBorrower_reaches n e
  refine ⟨⟨by rw [k1, hzst, hw]; rfl, fun m hm => by rw [k3 m hm, hzst, hother m hm], by rw [k4, hzrest, hrest],
    by rw [k4, hzrest, hrest]⟩, h3, h4, by rw [h5, hsame], by rw [h6, hctx, hmasked]; rfl, by rw [h7, hctx]; rfl, h2,
    fun r => ?_, fun hm => h1.index _ hm, h1.origin, head?_of_prefix ?_ k5, ?_, ?_⟩
  · rw [h1.union, Bool.eq_iff_iff]
    simp only [List.any_eq_true, decide_eq_true_eq, List.contains_iff_mem]
    exact ⟨fun ⟨x, hx, hl⟩ => BlockReason.level_inj hl ▸ hx, fun hr => ⟨r, hr, rfl⟩⟩
  · have : z.sent = w.sent := by rw [hzrest]
    rw [this, hsent]
    rfl
  · rw [k4, hzrest, hrest]
    rfl
  · rw [k2, hzst, hw]
    simp

omit hlink hh in
/-- R53: the check of a borrower that asks the server. -/
theorem checkAsks (he : ∀ e, s.borrower? b = some e → e.origin ≠ .loaded) (hoff : s.service.state ≠ .offline) {g : Tag}
    (hg : s.freeTag = some g) :
    let gen := (s.queries[g].gen + 1) % 256
    let q : Question := ⟨n, .borrowerLookup, b, none, none⟩
    let t := State.applyStaged (w.startCheck n b) n
    ((t.st n).slips.slots = (s.st n).slips.slots.set i .reserved ∧ (∀ m, m ≠ n → t.st m = s.st m) ∧
      t.borrowers = s.borrowers ∧ t.journal = s.journal) ∧
    (t.st n).ctx = { (s.st n).ctx.taken b .checking with lookup := some (g, gen) } ∧
    t.queries = s.queries.set g ⟨gen, .waiting q s.service.patience⟩ ∧ t.recency = s.recency ∧ t.loans = s.loans ∧
    t.sent = [.desk n (.display (some .checking) (s.st n).alerts.displayed 0 .none), .trunk (.query g.val gen q 0)] ∧
    t.service = { s.service with stats := { s.service.stats with sent := min 4294967295 (s.service.stats.sent + 1) } } := by
  intro gen q t
  have hask := State.startCheck_asks (s := w) (n := n) (b := b) (g := g) (by rw [hrest]; exact he)
    (by rw [hrest]; exact hoff) (by rw [hrest]; exact hg)
  have hqueries : w.queries = s.queries := by rw [hrest]
  have hservice : w.service = s.service := by rw [hrest]
  generalize hv : (w.asked g ⟨n, .borrowerLookup, b, none, none⟩ 0).updCtx n _ = v at hask
  have hvst : v.st n = { w.st n with ctx := { (w.st n).ctx with lookup := some (g, gen) } } := by
    rw [← hv, State.updCtx_same, hqueries]
    rfl
  have ht : t = v := by
    rw [← State.applyStaged_open (s := v) (n := n) (by rw [hvst, hw]; simp [Ctx.taken]), ← hask]
  rw [ht]
  refine ⟨⟨by rw [hvst, hw]; rfl, fun m hm => ?_, ?_, ?_⟩, by rw [hvst, hw], ?_, ?_, ?_, ?_, ?_⟩
  · rw [← hv, State.updCtx_other _ hm]
    exact hother m hm
  · rw [← hv, hrest]
    rfl
  · rw [← hv, hrest]
    rfl
  · rw [← hv, hrest]
    rfl
  · rw [← hv, hrest]
    rfl
  · rw [← hv, hrest]
    rfl
  · have hout : v.sent = w.sent ++ [.trunk (.query g.val ((w.queries[g].gen + 1) % 256) q 0)] := by rw [← hv]; rfl
    rw [hout, hsent, hqueries]
    rfl
  · have hstats : v.service = { w.service with stats := { w.service.stats with
        sent := sat32 w.service.stats.sent 1 } } := by rw [← hv]; rfl
    rw [hstats, hservice]
    simp [sat32, satAdd, Config.maxCount32]

section strangers
variable (hcleared : (s.st n).ctx = (s.st n).ctx.cleared) (hslot : (s.st n).slips.freeSlot = some i)
  (hres : ∀ k : Fin 4, (s.st n).slips.slots[k] ≠ .reserved) (hstaged : (s.st n).alerts.staged = none)
  (hoff : s.service.state = .offline) (hnone : s.borrower? b = none)
include hoff hnone

omit hlink hh hw hother hsent in
theorem startCheck_stranger : w.startCheck n b = w.decideStranger n b .localPart := by
  have hwoff : w.service.state = .offline := by rw [hrest]; exact hoff
  have hwnone : w.borrower? b = none := by rw [hrest]; exact hnone
  simp only [State.startCheck, if_pos hwoff, State.checkWithout_stranger hwnone]

include hcleared hslot hres hstaged

omit hh in
/-- R57: the stranger policy REFUSE. -/
theorem strangerRefused {p : Fin 128} (hp : s.ready p) (hpol : s.service.policy = .refuse) :
    let t := State.applyStaged (w.startCheck n b) n
    ∃ r : Record, r.kind = .refusal ∧ r.station = some n ∧ r.decidedBy = .localPart ∧ r.borrower = some b ∧
      r.item = none ∧ r.reason = some .stranger ∧ t.journal = (s.recorded p r).journal ∧
      (t.st n).ctx = (s.st n).ctx ∧ (t.st n).slips = (s.st n).slips ∧
      (t.st n).tallies = ((s.refusalCounted n).st n).tallies ∧ (∀ m, m ≠ n → t.st m = s.st m) ∧
      t.sent = [.desk n (.display (some .checking) (s.st n).alerts.displayed 0 .none),
        .desk n (.display (some .idle) (s.st n).alerts.displayed 0 .refuse)] ∧
      t = { s with stations := t.stations, journal := t.journal, sent := t.sent } := by
  intro t
  have hwp : w.ready p := State.ready_of hp (by rw [hrest]) (by rw [hrest]) (by rw [hrest])
  obtain ⟨h1, h2, h3, h4, h5⟩ := State.refuseBorrower_ready (n := n) hwp .stranger .localPart
  have ht : t = w.refuseBorrower n .stranger .localPart := by
    rw [← State.applyStaged_none (s := w.refuseBorrower n .stranger .localPart) (n := n)
      (by rw [h1, hw]; simpa using hstaged),
      ← State.decideStranger_refuses (b := b) (by rw [hrest]; exact hpol) .localPart,
      ← startCheck_stranger hrest hoff hnone]
  rw [ht]
  have hwlink : (w.st n).line.link = .active := by rw [hw]; simpa using hlink
  refine ⟨w.refusalOf n .stranger .localPart, rfl, rfl, rfl, by simp [State.refusalOf, hw, Ctx.taken], rfl, rfl,
    h2.trans (State.recorded_journal (by rw [hrest]) _ _), ?_, ?_, ?_, fun m hm => (h3 m hm).trans (hother m hm), ?_, ?_⟩
  · rw [h1, hw]
    exact hcleared.symm
  · rw [h1, hw]
    exact SlipQueue.release_setSlot hslot hres
  · rw [h1, hw]
    simp [State.refusalCounted]
  · rw [h5, State.toHead_attached (by rw [hwlink]; decide), hsent, hwlink, hw]
    simp
  · rw [h4, hrest]

omit hcleared hslot hres hstaged hh hother in
/-- R57: the stranger policy ADMIT, in a journal that is ready. -/
theorem strangerAdmitted (hcleared : (s.st n).ctx = (s.st n).ctx.cleared) (hh : (s.st n).alerts.hold = false)
    {p : Fin 128} (hp : s.ready p) (hpol : s.service.policy = .admits)
    (hroom : s.borrowers.length < 4096) (hreasons : s.reasons (s.stranger b) = []) :
    let t := State.applyStaged (w.startCheck n b) n
    ∃ r : Record, r.kind = .borrowerNew ∧ r.station = some n ∧ r.decidedBy = .localPart ∧ r.borrower = some b ∧
      t.journal = (s.recorded p r).journal ∧
      t.borrower? b = some (s.stranger b) ∧ (∀ c, c ≠ b → t.borrower? c = s.borrower? c) ∧ t.recency = s.recency ∧
      (t.st n).ctx = { (s.st n).ctx.taken b .opened with
        maskedReason := false, firstSeq := some s.journal.counter, lookup := none
        timer := .running (s.st n).ctx.period } ∧
      (t.st n).slips.slots = (s.st n).slips.slots.set i .reserved ∧
      t.sent = [.desk n (.display (some .checking) (s.st n).alerts.displayed 0 .none),
        .desk n (.display (some .opened) (s.st n).alerts.displayed 0 .accept)] := by
  intro t
  have hwp : w.ready p := State.ready_of hp (by rw [hrest]) (by rw [hrest]) (by rw [hrest])
  have he : w.stranger b = s.stranger b := by rw [hrest]; rfl
  have hfirst : (s.st n).ctx.firstSeq = none := by rw [hcleared]; rfl
  generalize hr : ({ w.record .borrowerNew (some n) with decidedBy := .localPart, borrower := some b } : Record) = r
  have hrkind : r.opens = true := by rw [← hr]; rfl
  have hrflags : r.flags = {} := by rw [← hr]; rfl
  generalize hz : (((w.journaled n p r).setBorrower (w.stranger b)).mapCtx fun c => c.track b) = z
  have hcheck : w.startCheck n b = z.acceptBorrower n (w.stranger b) := by
    rw [startCheck_stranger hrest hoff hnone, State.decideStranger_admits (by rw [hrest]; exact hpol)
      (by rw [hrest]; exact hroom) hwp, hr, hz]
  have hzst : z.st n = { w.st n with ctx := { w.st n |>.ctx with firstSeq := some s.journal.counter } } := by
    have hcounter : w.journal.counter = s.journal.counter := by rw [hrest]
    rw [← hz, State.mapCtx_st, State.setBorrower_st, State.journaled_st, hw, hcounter, if_pos hrkind]
    simp [Ctx.numbered, Ctx.taken, Ctx.track, hfirst]
  have hzreasons : z.reasons (w.stranger b) = [] := by
    rw [he, ← hreasons]
    exact State.reasons_congr (by rw [← hz, hrest]; rfl) (by rw [← hz, hrest]; rfl) (by rw [← hz, hrest]; rfl)
      (by rw [← hz, hrest]; rfl) (by rw [← hz, hrest]; rfl) _
  obtain ⟨h1, h2, h3, h4⟩ := State.acceptBorrower_leaves (s := z) (n := n) (e := w.stranger b)
    (by rw [State.countedReasons, hzreasons]; rfl) (by rw [hzst, hw]; rfl) (by rw [hzst, hw]; simpa using hh)
  have ht : t = z.acceptBorrower n (w.stranger b) := by
    rw [← State.applyStaged_open (s := z.acceptBorrower n (w.stranger b)) (n := n) (by rw [h1]; simp), ← hcheck]
  have hmasked : z.anyMasked n (w.stranger b) = false := by rw [State.anyMasked, hzreasons]; rfl
  have hborrower : ∀ c, (z.acceptBorrower n (w.stranger b)).borrower? c = (w.setBorrower (w.stranger b)).borrower? c :=
    fun c => by rw [h3, ← hz]; rfl
  have hfind : ∀ c, w.borrower? c = s.borrower? c := fun c => by rw [hrest]; rfl
  rw [ht]
  refine ⟨{ r with flags := (w.st n).ctx.stationFlags }, by rw [← hr]; rfl, by rw [← hr]; rfl, by rw [← hr],
    by rw [← hr], ?_, ?_, fun c hc => ?_, ?_, ?_, ?_, ?_⟩
  · rw [h3]
    refine Eq.trans (by rw [← hz]; rfl) ((State.journaled_plain hrflags).trans ?_)
    exact State.recorded_journal (by rw [hrest]) _ _
  · rw [hborrower, he]
    exact State.borrower?_setBorrower_same w (s.stranger b)
  · rw [hborrower, he, ← hfind]
    exact State.borrower?_setBorrower_other _ _ hc
  · rw [h3, ← hz, hrest]
    rfl
  · rw [h1, hmasked, hzst, hw]
    rfl
  · rw [h1, hzst, hw]
    rfl
  · have hzsent : z.sent = w.sent := by rw [← hz]; rfl
    rw [h4 (by rw [hzst, hw]; simpa using hlink), hzst, hw, hzsent, hsent]
    simp

omit hh in
/-- R31, R171: the stranger policy ADMIT without a FILLING page. -/
theorem strangerFull (hf : s.journal.filling? = none) (ha : s.alarmsSettled) (hpol : s.service.policy = .admits) :
    State.applyStaged (w.startCheck n b) n =
      (s.lost.refusalCounted n |>.updLine n fun _ => ((s.scanned n .good).st n).line).sending
        [.desk n (.display (some .checking) (s.st n).alerts.displayed 0 .none),
          .desk n (.display (some .idle) (s.st n).alerts.displayed 250 .refuse)] := by
  have hwf : w.journal.filling? = none := by rw [hrest]; exact hf
  have hwa : w.alarmsSettled := by rw [hrest]; exact ha
  have hwpol : w.service.policy = .admits := by rw [hrest]; exact hpol
  have hwlink : (w.st n).line.link = .active := by rw [hw]; simpa using hlink
  generalize hu : (w.lost.tallyRefusal n).endRefused n = u
  have hust : u.st n = { s.st n with
      line := ((s.scanned n .good).st n).line
      tallies := { (s.st n).tallies with refusals := min 4294967295 ((s.st n).tallies.refusals + 1) } } := by
    rw [← hu, State.endRefused, State.updCtx_same, State.updSlips_same, State.tallyRefusal, State.updTallies_same,
      show w.lost.st n = w.st n from rfl, hw]
    refine Station.eq_of_parts (by rfl) hcleared.symm (by simp) (SlipQueue.release_setSlot hslot hres) ?_
    simp [sat32, satAdd, Config.maxCount32]
  have hfull : w.lost.refuseBorrowerFull n = u.sending
      [.desk n (.display (some .checking) (s.st n).alerts.displayed 0 .none),
        .desk n (.display (some .idle) (s.st n).alerts.displayed 250 .refuse)] := by
    have hulink : (u.st n).line.link = .active := by rw [hust]; simpa using hlink
    have husent : u.sent = w.sent := by rw [← hu]; rfl
    have hidle : (u.st n).ctx.tx = .idle := by rw [hust, hcleared]; rfl
    have hshown : (u.st n).shownState = some .idle := by simp [Station.shownState, hulink, hidle]
    rw [State.refuseBorrowerFull, hu, State.display_eq, State.toHead_attached (by rw [hulink]; decide), husent, hsent,
      hshown, hust]
    rfl
  rw [startCheck_stranger hrest hoff hnone, State.decideStranger_full hwpol hwf hwa, hfull,
    State.applyStaged_none (by rw [State.sending_st, hust]; exact hstaged)]
  refine State.eq_of_stations ?_ (fun m => ?_) rfl
  · rw [← hu, hrest]
    rfl
  · by_cases hm : m = n
    · rw [hm, State.sending_st, hust, State.sending_st, State.updLine_same, State.refusalCounted,
        State.updTallies_same]
      rfl
    · rw [State.sending_st, State.sending_st, State.updLine_other _ hm, State.refusalCounted, State.updTallies_other _ hm,
        ← hu, State.endRefused, State.updCtx_other _ hm, State.updSlips_other _ hm, State.tallyRefusal,
        State.updTallies_other _ hm]
      exact hother m hm

end strangers

end

/-- Settles O7: the scan takes the borrower into a check, and each clause is what the check makes of that state. -/
theorem borrowerScansInIdle : Obligations.BorrowerScansInIdle := by
  unfold Obligations.BorrowerScansInIdle
  intro n symbol b i s hv hb hlink hidle hlocked hslot h0 hh taken opened shows reserved
  obtain ⟨w, hstart, hw, hother, hsent, hrest⟩ := State.borrowerInIdle_checks (s := s.fresh.scanned n .good) (n := n) (b := b) (i := i)
    (by simpa using hlocked) (by simpa using hslot) (by simpa using h0) (by simpa using hh) (by simpa using hlink)
  have hw' : w.st n = { (s.scanned n .good).st n with
      slips := (s.st n).slips.setSlot i .reserved, ctx := (s.st n).ctx.taken b .checking } := by
    rw [hw]
    simp [State.scanned]
  have hother' : ∀ m, m ≠ n → w.st m = s.st m := fun m hm => by
    rw [hother m hm]
    simp [State.scanned, hm]
  have hsent' : w.sent = [.desk n (.display (some .checking) (s.st n).alerts.displayed 0 .none)] := by
    have halerts : ((s.fresh.scanned n .good).st n).alerts = (s.st n).alerts := by simp [State.scanned]
    rw [hsent, halerts]
    rfl
  have hrest' : w = { s with stations := w.stations, sent := w.sent } := by
    rw [hrest]
    rfl
  have hexec : exec (.scan n symbol) s = .next (State.applyStaged (w.startCheck n b) n) := by
    rw [exec_scan_borrower hv hb hlink, State.borrowerScan, ← hstart]
    simp [hidle]
  refine ⟨fun e he hcase => ⟨fun hcounted => ?_, fun hcounted hp hi ha => ?_⟩, fun he hoff g hg => ?_,
    fun hnone hoff hcleared hres hstaged => ⟨fun p hp => ⟨fun hpol => ?_, fun hpol hroom hreasons => ?_⟩,
      fun hf ha hpol => ?_⟩⟩
  · have hnum := State.borrower?_number he
    have := checkOpens hlink hh hw' hother' hsent' hrest' he hcase hcounted
    rw [State.recencyFor, hnum] at this
    exact ⟨_, hexec, this⟩
  · have hnum := State.borrower?_number he
    have := checkHolds hh hw' hother' hsent' hrest' he hcase hcounted hp hi ha
    rw [State.recencyFor, hnum] at this
    exact ⟨_, hexec, this⟩
  · exact ⟨_, hexec, checkAsks hw' hother' hsent' hrest' he hoff hg⟩
  · obtain ⟨r, hr⟩ := strangerRefused hlink hw' hother' hsent' hrest' hcleared hslot hres hstaged hoff hnone hp hpol
    obtain ⟨hk, hst, hd, hbor, hit, hrs, hjo, hctx, hsl, hta, ho, hse, ht⟩ := hr
    exact ⟨_, r, hexec, hk, hst, hd, hbor, hit, hrs, hjo, hctx, hsl, hta, ho, hse, ht⟩
  · rw [← s.stranger_eq b] at hreasons
    obtain ⟨r, hr⟩ := strangerAdmitted hlink hw' hsent' hrest' hoff hnone hcleared hh hp hpol hroom hreasons
    rw [s.stranger_eq b] at hr
    exact ⟨_, r, hexec, hr⟩
  · exact hexec.trans (congrArg Host.Outcome.next
      (strangerFull hlink hw' hother' hsent' hrest' hcleared hslot hres hstaged hoff hnone hf ha hpol))

end Sys2Proof.Proofs
end

section
/-! SUPPORT. A timely reply (R112, R113), the entry that a FOUND reply gives (R54), and the settling of O22. -/

namespace Sys2Proof.Machine

variable {s z : State} {n : StationNo} {b k : Nat} {e : Borrower} {f : Found} {g : Tag} {q : Question} {m : ReplyMsg}

/-! ### Timely replies -/

/-- R113: with the service ONLINE a timely reply frees its query and is counted. -/
theorem State.freeQuery_matched (h : s.service.state = .online) :
    (s.freeQuery g).matchedReply = s.answeredQuery g := by
  have hon : (((s.freeQuery g).countService fun c => { c with matched := sat32 c.matched 1 }).updService
      fun v => { v with count := 0 }).service.state = .online := h
  rw [State.matchedReply, State.setServiceState, if_pos hon]
  rfl

/-- R112, R113: a reply that answers a WAITING query hands its outcome to the station. -/
theorem exec_reply {o : ReplyOutcome} (hup : s.service.linkUp = true) (hon : s.service.state = .online)
    (htag : m.tag = g.val) (hgen : m.gen = s.queries[g].gen) (hw : s.queries[g].state = .waiting q k)
    (hkind : replyKind? m = some q.kind) (htarget : replyTarget? m = some q.target) (ho : replyOutcome? m = some o) :
    exec (.reply m) s = .next ((s.fresh.answeredQuery g).handOutcome (g, s.queries[g].gen) q o) := by
  refine congrArg Host.Outcome.next ?_
  have htagOf : tagOf m.tag = some g := by simp [tagOf, htag]
  have hanswers : replyAnswers m s.fresh.queries[g] q = true := by
    simp only [replyAnswers, hkind, htarget, decide_true, Bool.and_true, decide_eq_true_eq]
    exact hgen
  have hstate : s.fresh.queries[g].state = .waiting q k := hw
  simp only [State.takeReply, htagOf, ho, hstate, hanswers, if_true, State.freeQuery_matched (s := s.fresh) hon]
  exact State.whileLinkUp_up _ hup

/-! ### The entry that a reply gives -/

/-- R54: what a FOUND reply leaves where its entry is taken into the table. -/
theorem State.takeFound_learns (changed inFlight : Bool)
    (h : (∃ e, s.borrower? b = some e ∧ e.origin ≠ .loaded ∧ e.changed = changed ∧ e.inFlight = inFlight) ∨
      (s.borrower? b = none ∧ s.borrowers.length < 4096 ∧ changed = false ∧ inFlight = false)) :
    let new : Borrower := { s.learned b f with changed := changed, inFlight := inFlight }
    ∃ z, s.takeFound b f = z ∧ z.borrower? b = some new ∧ (∀ c, c ≠ b → z.borrower? c = s.borrower? c) ∧
      z.recency = b :: s.recency.filter (· != b) ∧
      (∀ m, ∃ tr v, z.st m = { s.st m with ctx := { (s.st m).ctx with tracked := tr, view := v } }) ∧
      z = { s with stations := z.stations, borrowers := z.borrowers, recency := z.recency } := by
  intro new
  refine ⟨_, rfl, ?_⟩
  rcases h with ⟨e, he, hload, rfl, rfl⟩ | ⟨hnone, hroom, rfl, rfl⟩
  · have heq : s.takeFound b f = (s.setBorrower new).touch b := by simp only [State.takeFound, he, if_neg hload, new]
    rw [heq]
    refine ⟨State.borrower?_setBorrower_same s new, fun c hc => State.borrower?_setBorrower_other _ new hc, rfl,
      fun m => ⟨_, _, rfl⟩, rfl⟩
  · have heq : s.takeFound b f = ((s.setBorrower new).touch b).mapCtx fun c => c.track b := by
      simp only [State.takeFound, hnone, State.createBorrower_room hroom]
      rfl
    rw [heq]
    refine ⟨State.borrower?_setBorrower_same s new, fun c hc => State.borrower?_setBorrower_other _ new hc, rfl,
      fun m => ?_, rfl⟩
    rw [State.mapCtx_st]
    simp only [Ctx.track]
    split
    · exact ⟨true, none, rfl⟩
    · exact ⟨_, _, rfl⟩

/-- R51: an entry that heads the recency list heads it again. -/
theorem State.touch_head {l : List Nat} (h : s.recency = b :: l.filter (· != b)) :
    (s.touch b).recency = b :: l.filter (· != b) := by
  simp [State.touch, h]

end Sys2Proof.Machine

namespace Sys2Proof.Proofs
open Sys2Proof Sys2Proof.Machine

variable {s z : State} {n : StationNo} {b : Nat} {e : Borrower}

/-- R22, R58: a check that goes on from an entry without a present reason opens the transaction. -/
theorem acceptBorrower_ends (hreasons : z.reasons e = []) (ht : (z.st n).ctx.tx = .checking)
    (hh : (z.st n).alerts.hold = false) :
    let t := State.applyStaged (z.acceptBorrower n e) n
    (t.st n).ctx.tx = .opened ∧ (t.st n).ctx.lookup = none ∧ (t.st n).ctx.borrower = (z.st n).ctx.borrower ∧
      (t.st n).ctx.timer = .running (z.st n).ctx.period ∧ t = { z with stations := t.stations, sent := t.sent } := by
  intro t
  obtain ⟨h1, -, h3, -⟩ := State.acceptBorrower_leaves (s := z) (n := n) (e := e)
    (by rw [State.countedReasons, hreasons]; rfl) ht hh
  have htz : t = z.acceptBorrower n e := State.applyStaged_open (by rw [h1]; simp)
  rw [htz]
  exact ⟨by rw [h1], by rw [h1], by rw [h1], by rw [h1], h3⟩

/-- R22, R23: what a refused borrower leaves once a staged configuration has been applied. -/
theorem refuseBorrower_ends {p : Fin 128} (hp : s.ready p) (reason : Reason) (d : DecidedBy) :
    let t := State.applyStaged (s.refuseBorrower n reason d) n
    t.journal = (s.recorded p (s.refusalOf n reason d)).journal ∧
      (t.st n).tallies = { (s.st n).tallies with refusals := min 4294967295 ((s.st n).tallies.refusals + 1) } ∧
      (t.st n).ctx = (s.st n).ctx.cleared ∧
      t = { s with stations := t.stations, journal := t.journal, sent := t.sent } := by
  intro t
  obtain ⟨h1, h2, -, h4, -⟩ := State.refuseBorrower_ready (n := n) hp reason d
  have hstaged := State.eq_of_rest (s := s.refuseBorrower n reason d) (t := t) (by simp [t])
  refine ⟨?_, ?_, ?_, ?_⟩
  · rw [hstaged]
    exact h2
  · rw [(State.applyStaged_parts _ n n).2.2, h1]
  · rw [State.applyStaged_cleared (by rw [h1]; rfl), h1]
  · rw [hstaged, h4]

/-- Settles O22: the outcome handed to the check ends it on the entry that then stands, or refuses the borrower. -/
theorem lookupRepliesDecide : Obligations.LookupRepliesDecide := by
  unfold Obligations.LookupRepliesDecide
  intro m g q k b s hup hon htag hgen hw hm hq hb hmb hlookup hborrower htx hkind hold n opened
  have hrk : replyKind? m = some q.kind := by simp [replyKind?, hm, hq]
  have hrt : replyTarget? m = some q.target := by simp [replyTarget?, replyKind?, hm, hmb, hb]
  generalize hu : s.fresh.answeredQuery g = u
  have hust : u.st n = s.st n := by rw [← hu]; rfl
  have hrest : u = { s.answeredQuery g with sent := [] } := by rw [← hu]; rfl
  have huq : u.queries = (s.answeredQuery g).queries := by rw [hrest]
  have huj : u.journal = s.journal := by rw [hrest]; rfl
  have hchecked : u.checkedBy n (g, s.queries[g].gen) = some b := by
    simp only [State.checkedBy, hust]
    rw [if_pos hlookup, hborrower]
  have hfind : ∀ c, u.borrower? c = s.borrower? c := fun c => by rw [hrest]; rfl
  have hreasons : ∀ e, u.reasons e = s.reasons e := State.reasons_congr (by rw [hrest]; rfl) (by rw [hrest]; rfl)
    (by rw [hrest]; rfl) (by rw [hrest]; rfl) (by rw [hrest]; rfl)
  have hfound : m.outcome = 0 → exec (.reply m) s = .next (State.applyStaged (u.checkFound n b (replyFound m)) n) := by
    intro ho
    rw [exec_reply hup hon htag hgen hw hrk hrt (o := .found (replyFound m)) (by simp [replyOutcome?, replyKind?, hm, ho]), hu]
    simp only [State.handOutcome, hq]
    rw [hchecked]
  have hunknown : m.outcome = 1 → exec (.reply m) s = .next (State.applyStaged (u.checkUnknown n b) n) := by
    intro ho
    rw [exec_reply hup hon htag hgen hw hrk hrt (o := .unknown) (by simp [replyOutcome?, replyKind?, hm, ho]), hu]
    simp only [State.handOutcome, hq]
    rw [hchecked]
  refine ⟨fun e ho hcase => ?_, fun e ho he hload hnone => ?_, fun p ho hp hnot => ?_⟩
  · intro new hnew
    have hlearned : ({ u.learned b (replyFound m) with changed := e.changed, inFlight := e.inFlight } : Borrower) = new := by
      have hcount : u.pendingCount b = s.loans.countP fun l => l.borrower == b := by
        rw [State.pendingCount, List.countP_eq_length_filter, hrest]
        rfl
      simp only [State.learned, hcount]
      rfl
    obtain ⟨z, hz, hzb, hzo, hzr, hzst, hzrest⟩ := State.takeFound_learns (s := u) (b := b) (f := replyFound m) e.changed e.inFlight
      (by
        rcases hcase with ⟨he, hload⟩ | ⟨hnone, hroom, hc, hi⟩
        · exact .inl ⟨e, (hfind b).trans he, hload, rfl, rfl⟩
        · exact .inr ⟨(hfind b).trans hnone, by rw [hrest]; exact hroom, hc, hi⟩)
    rw [hlearned] at hzb
    have hcheck : u.checkFound n b (replyFound m) = (z.touch b).acceptBorrower n new := by
      simp only [State.checkFound, hz, hzb, State.acceptEntry]
      rfl
    obtain ⟨tr, v, hzn⟩ := hzst n
    rw [hust] at hzn
    have hzreasons : (z.touch b).reasons new = [] := by
      rw [State.reasons_congr (s := u) (by rw [hzrest]; rfl) (by rw [hzrest]; rfl) (by rw [hzrest]; rfl)
        (by rw [hzrest]; rfl) (by rw [hzrest]; rfl), hreasons, hnew]
    have htn : (z.touch b).st n = z.st n := rfl
    obtain ⟨h1, h2, h3, h4, h5⟩ := acceptBorrower_ends (n := n) hzreasons (by rw [htn, hzn]; exact htx)
      (by rw [htn, hzn]; exact hold)
    have hrecency : u.recency = s.recency := by rw [hrest]; rfl
    refine ⟨_, ⟨(hfound ho).trans (by rw [hcheck]), ?_, h1, h2, ?_, ?_, ?_⟩, ?_, fun c hc => ?_, ?_⟩
    · rw [h5, ← huq, hzrest]
      rfl
    · rw [h3, htn, hzn]
      exact hborrower
    · rw [h4, htn, hzn]
    · rw [h5, ← huj, hzrest]
      rfl
    · rw [h5]
      exact hzb
    · rw [h5, ← hfind]
      exact hzo c hc
    · rw [h5, ← hrecency]
      exact State.touch_head hzr
  · have hexec : exec (.reply m) s = .next (State.applyStaged (u.acceptBorrower n e) n) := by
      have hub := (hfind b).trans he
      have hnl : ¬ e.origin = .learned := by rw [hload]; decide
      rcases ho with ho | ho
      · rw [hfound ho, State.checkFound, State.takeFound]
        simp only [hub, if_pos hload, State.acceptEntry, if_neg hnl]
      · rw [hunknown ho, State.checkUnknown]
        simp only [hub, if_pos hload, State.acceptEntry, if_neg hnl]
    obtain ⟨h1, h2, h3, h4, h5⟩ := acceptBorrower_ends (z := u) (n := n) ((hreasons e).trans hnone)
      (by rw [hust]; exact htx) (by rw [hust]; exact hold)
    refine ⟨_, ⟨hexec, by rw [h5]; exact huq, h1, h2, ?_, ?_, by rw [h5]; exact huj⟩, ?_, ?_⟩
    · rw [h3, hust]
      exact hborrower
    · rw [h4, hust]
    · rw [h5, hrest]
      rfl
    · rw [h5, hrest]
      rfl
  · have hexec : exec (.reply m) s = .next (State.applyStaged (u.refuseBorrower n .unknownBorrower .online) n) := by
      rw [hunknown ho, State.checkUnknown]
      cases hub : u.borrower? b with
      | none => rfl
      | some e => simp only [if_neg (hnot e ((hfind b).symm.trans hub))]
    have hup : u.ready p := State.ready_of hp huj (by rw [hrest]; rfl) (by rw [hrest]; rfl)
    obtain ⟨h1, h2, h3, h4⟩ := refuseBorrower_ends (n := n) hup .unknownBorrower .online
    refine ⟨_, u.refusalOf n .unknownBorrower .online, hexec, by rw [h4]; exact huq, rfl, rfl, rfl, ?_, rfl, rfl,
      h1.trans (State.recorded_journal huj _ _), by rw [h2, hust], by rw [h3, hust], ?_, ?_⟩
    · exact (congrArg (fun t : Station => t.ctx.borrower) hust).trans hborrower
    · rw [h4, hrest]
      rfl
    · rw [h4, hrest]
      rfl

end Sys2Proof.Proofs
end

section
/-! SUPPORT. What a grant (R29) and a discharge (R34) make of their item in a journal that is ready, and in one without a
FILLING page (R31). -/

namespace Sys2Proof.Machine

variable {s : State} {n : StationNo} {p : Fin 128} {i b index : Nat} {x : Item} {e : Borrower} {c : Calendar} {rule : Rule}
  {d : DecidedBy} {offline atOnce : Bool}

/-! ### Flags -/

@[simp] theorem ResultFlags.union_empty (a : ResultFlags) : a.union {} = a := by
  simp [ResultFlags.union]

@[simp] theorem ResultFlags.union_classClamped (a b : ResultFlags) :
    (a.union b).classClamped = (a.classClamped || b.classClamped) := rfl

/-- R90: the computation of a due date clamps no class. -/
theorem computeDue_unclamped (c : Calendar) (r : Rule) (at_ : Time) (expiry : Option Nat) :
    (computeDue c r at_ expiry).flags.classClamped = false := by
  have hdays : ∀ a k, (dueOfDays c a k).flags.classClamped = false := by
    intro a k
    simp only [dueOfDays]
    split <;> rfl
  have hhours : ∀ a k, (dueOfHours c a k).flags.classClamped = false := by
    intro a k
    simp only [dueOfHours]
    repeat' split
    all_goals rfl
  have hhold : ∀ r : DueResult, (holdDue r).flags.classClamped = r.flags.classClamped := by
    intro r
    simp only [holdDue]
    split
    · simp [gapFlag]
    · rfl
  have hcap : ∀ a (r : DueResult), (capDue c a expiry r).flags.classClamped = r.flags.classClamped := by
    intro a r
    simp only [capDue]
    repeat' split
    all_goals simp [beyondFlag]
  rw [computeDue, hcap, hhold]
  split
  · exact hdays _ _
  · exact hhours _ _

/-- R100 to R105: nor does the computation of a fine. -/
theorem computeFine_unclamped (c : Calendar) (r : Rule) (k : Category) (st : Settings) (due ret : Time) :
    (computeFine c r k st due ret).flags.classClamped = false := by
  have hlate : (unitsLate c r due ret).2.classClamped = false := by
    simp only [unitsLate, lateDays, lateHours]
    repeat' split
    all_goals rfl
  simp only [computeFine]
  repeat' split
  all_goals simp [hlate]

/-! ### Entries -/

theorem State.entry_updItem (h : s.entry n i = some x) (f : Item → Item) : (s.updItem n i f).entry n i = some (f x) := by
  have h' : (s.st n).ctx.items[i]? = some x := h
  simp [State.entry, h']

theorem State.updItem_at (h : s.entry n i = some x) (f : Item → Item) : s.updItem n i f = s.updItem n i fun _ => f x := by
  have h' : (s.st n).ctx.items[i]? = some x := h
  have hitems : (s.st n).ctx.items.modify i f = (s.st n).ctx.items.modify i fun _ => f x := by
    refine List.ext_getElem? fun k => ?_
    rw [List.getElem?_modify, List.getElem?_modify]
    split
    · subst k
      simp [h']
    · rfl
  simp only [State.updItem, State.updCtx]
  exact State.upd_congr (by rw [hitems])

/-- R19: the context of station n once a record has joined and entry i has become y. -/
def Ctx.settledEntry (c : Ctx) (counter i : Nat) (y : Item) : Ctx :=
  { c.numbered counter with items := c.items.modify i fun _ => y }

@[simp] theorem Ctx.settledEntry_keeps (c : Ctx) (k i : Nat) (y : Item) :
    (c.settledEntry k i y).tx = c.tx ∧ (c.settledEntry k i y).kind = c.kind ∧
    (c.settledEntry k i y).borrower = c.borrower ∧ (c.settledEntry k i y).timer = c.timer ∧
    (c.settledEntry k i y).period = c.period ∧ (c.settledEntry k i y).maskedReason = c.maskedReason ∧
    (c.settledEntry k i y).interrupted = c.interrupted ∧
    (c.settledEntry k i y).items = c.items.modify i fun _ => y := by
  simp [Ctx.settledEntry]

/-- R37: an item becomes what y is, once a record that counts for the transaction has been written. -/
theorem State.updItem_journaled {r : Record} (hr : r.opens = true) (y : Item) :
    ((s.journaled n p r).updItem n i fun _ => y).st n =
      { s.st n with ctx := (s.st n).ctx.settledEntry s.journal.counter i y } := by
  rw [State.updItem_same, State.journaled_st, if_pos hr]
  simp [Ctx.settledEntry]

/-! ### Grants -/

/-- What a grant is made from: the entry, the borrower and the computed due time, the rule, and who decides. -/
structure Granting where
  item : Item
  borrower : Nat
  res : DueResult
  index : Nat
  rule : Rule
  decidedBy : DecidedBy
  offline : Bool
  atOnce : Bool

/-- R29: the flags of a granted entry and of its record. -/
def Granting.flags (g : Granting) : ResultFlags := (g.item.flags.union { offlineDecided := g.offline }).union g.res.flags

/-- R29, step 4: the CHARGE record of station n. -/
def State.chargeOf (s : State) (n : StationNo) (g : Granting) : Record :=
  { s.record .charge (some n) with
    decidedBy := g.decidedBy, flags := g.flags, borrower := some g.borrower, item := some g.item.number
    due := some g.res.due, ruleIndex := some g.index, bankGen := some s.generation
    detail := if g.atOnce then some .localFallback else none }

/-- R29: the GRANTED entry, whose record has the number k. -/
def Granting.entry (g : Granting) (k : Nat) : Item :=
  { g.item.settled with
    state := .granted, due := some g.res.due, decidedBy := some g.decidedBy, flags := g.flags, chargeSeq := some k
    hourly := decide (g.rule.unit = .hours) }

/-- R29, steps 1 to 5: the state once the record is written, the entry GRANTED, the loan posted to e and noted. -/
def State.granted (s : State) (n : StationNo) (i : Nat) (p : Fin 128) (e : Borrower) (g : Granting) : State :=
  State.noteLoan (State.setBorrower (((s.stick g.res.flags.sticky).journaled n p (s.chargeOf n g)).updItem n i fun _ =>
    g.entry s.journal.counter) (e.post fun e => { e with onLoan := satAdd Config.maxCount8 e.onLoan 1 })) g.decidedBy false
    ⟨g.item.number, g.borrower, g.res.due, g.index, s.journal.counter⟩

/-- R29: a grant in a journal that is ready. -/
theorem State.grant_ready (hp : s.ready p) (hx : s.entry n i = some x) (hb : (s.st n).ctx.borrower = some b)
    (he : s.borrower? b = some e) (hc : s.activeBank.calendar? = some c)
    (hindex : s.ruleIndex? x.cls e.category = some index) (hrule : s.rule? index = some rule)
    (hroom : d = .online ∨ s.loans.length < 512) :
    let g : Granting := ⟨x, b, computeDue c rule s.now e.expiry, index, rule, d, offline, atOnce⟩
    s.grant n i d offline atOnce =
      (((s.granted n i p e g).grantException n (g.entry s.journal.counter) b).updTallies n fun t =>
        { t with charges := sat32 t.charges 1 }).tone n .accept := by
  intro g
  have hcat : s.txCategory n = e.category := by simp only [State.txCategory, hb, Option.bind_some, he]
  have hexp : s.txExpiry n = e.expiry := by simp only [State.txExpiry, hb, Option.bind_some, he]
  have huntracked : s.loanUntracked d x.number = false := by
    rcases hroom with rfl | h
    · rfl
    · simp [State.loanUntracked, Config.maxLoans, Nat.not_le.mpr h]
  have huntracked' : (s.stick g.res.flags.sticky).loanUntracked d x.number = false := huntracked
  have hps : (s.stick g.res.flags.sticky).ready p := State.ready_of hp rfl rfl rfl
  simp only [State.grant, hx, hb, hc, hcat, hindex, hrule, State.grantWith, hexp]
  simp only [show computeDue c rule s.now e.expiry = g.res from rfl, huntracked']
  rw [State.writeStation_journaled hps]
  simp only [Bool.false_eq_true, if_false]
  generalize hu : State.updItem _ n i _ = u
  have hub : (u.st n).ctx.borrower = some b := by
    rw [← hu]
    simp [hb]
  have hue : u.borrower? b = some e := by
    rw [← hu]
    exact he
  rw [State.postLoan_standing hub hue, ← hu]
  rfl

section
variable (s : State) (n : StationNo) (i : Nat) (p : Fin 128) (e : Borrower) (g : Granting)

theorem State.granted_st :
    (s.granted n i p e g).st n =
      { s.st n with ctx := (s.st n).ctx.settledEntry s.journal.counter i (g.entry s.journal.counter) } ∧
    ∀ m, m ≠ n → (s.granted n i p e g).st m = s.st m := by
  have hst : ∀ (u : State) (d : DecidedBy) l (m : StationNo), (u.noteLoan d false l).st m = u.st m := by
    intro u d l m
    simp only [State.noteLoan]
    repeat' split
    all_goals rfl
  refine ⟨?_, fun m hm => ?_⟩
  · rw [State.granted, hst, State.setBorrower_st, State.updItem_journaled rfl]
    rfl
  · rw [State.granted, hst, State.setBorrower_st, State.updItem_other hm, State.journaled_other hm]
    rfl

theorem State.granted_journal : (s.granted n i p e g).journal =
    (s.recorded p { s.chargeOf n g with flags := g.flags.union (s.st n).ctx.stationFlags }).journal := by
  simp only [State.granted, State.noteLoan]
  repeat' split
  all_goals rfl

/-- R29, step 5: an online grant takes the item off the pending loan list, another puts it last there. -/
theorem State.granted_loans : (s.granted n i p e g).loans =
    (s.loans.filter fun l => l.item != g.item.number) ++ if g.decidedBy = .online then [] else
      [⟨g.item.number, g.borrower, g.res.due, g.index, s.journal.counter⟩] := by
  simp only [State.granted, State.noteLoan, Bool.false_eq_true, if_false]
  split
  · simp
    rfl
  · rfl

theorem State.granted_borrower {b : Nat} (he : s.borrower? b = some e) :
    (s.granted n i p e g).borrower? b =
      some { e with onLoan := min 255 (e.onLoan + 1), changed := true, inFlight := false } := by
  have hposted := (State.setBorrower_posted (s := ((s.stick g.res.flags.sticky).journaled n p (s.chargeOf n g)).updItem n i
    fun _ => g.entry s.journal.counter) (b := b) (e := e) he (f := fun e =>
    { e with onLoan := satAdd Config.maxCount8 e.onLoan 1 }) rfl).1
  simp only [State.granted, State.noteLoan]
  split
  · exact hposted
  · exact hposted

theorem State.granted_rest : s.granted n i p e g = { s with
    stations := (s.granted n i p e g).stations, borrowers := (s.granted n i p e g).borrowers
    loans := (s.granted n i p e g).loans, journal := (s.granted n i p e g).journal
    mgmt := { s.mgmt with sticky := (s.granted n i p e g).mgmt.sticky } } := by
  simp only [State.granted, State.noteLoan, Bool.false_eq_true, if_false]
  split <;> rfl

end

/-- R29, step 6: without an exception a grant leaves the exception table. -/
theorem State.grantException_absent (h : s.exception? x.number = none) : s.grantException n x b = s := by
  simp only [State.grantException, h]

/-- R29: a grant of an item without an exception, in a journal that is ready. -/
theorem State.grant_unlisted (hp : s.ready p) (hx : s.entry n i = some x) (hb : (s.st n).ctx.borrower = some b)
    (he : s.borrower? b = some e) (hc : s.activeBank.calendar? = some c)
    (hindex : s.ruleIndex? x.cls e.category = some index) (hrule : s.rule? index = some rule)
    (hroom : d = .online ∨ s.loans.length < 512) (hnone : s.exception? x.number = none) :
    let g : Granting := ⟨x, b, computeDue c rule s.now e.expiry, index, rule, d, offline, atOnce⟩
    let t := s.grant n i d offline atOnce
    t.st n = { s.st n with
      ctx := (s.st n).ctx.settledEntry s.journal.counter i (g.entry s.journal.counter)
      tallies := { (s.st n).tallies with charges := min 4294967295 ((s.st n).tallies.charges + 1) } } ∧
    (∀ m, m ≠ n → t.st m = s.st m) ∧ t.entry n i = some (g.entry s.journal.counter) ∧
    t.journal = (s.recorded p { s.chargeOf n g with flags := g.flags.union (s.st n).ctx.stationFlags }).journal ∧
    t.borrower? b = some { e with onLoan := min 255 (e.onLoan + 1), changed := true, inFlight := false } ∧
    t.loans = ((s.loans.filter fun l => l.item != x.number) ++ if d = .online then [] else
      [⟨x.number, b, g.res.due, index, s.journal.counter⟩]) ∧
    t = { s with
      stations := t.stations, borrowers := t.borrowers, loans := t.loans, journal := t.journal
      mgmt := { s.mgmt with sticky := t.mgmt.sticky }, sent := t.sent } := by
  intro g t
  generalize hz : s.granted n i p e g = z
  have hzst := s.granted_st n i p e g
  have hzj := s.granted_journal n i p e g
  have hzl := s.granted_loans n i p e g
  have hzb := s.granted_borrower n i p e g he
  have hzr := s.granted_rest n i p e g
  rw [hz] at hzst hzj hzl hzb hzr
  obtain ⟨hzn, hzo⟩ := hzst
  have hexc : z.exception? (g.entry s.journal.counter).number = none := by
    rw [hzr]
    exact hnone
  have ht : t = (z.updTallies n fun t => { t with charges := sat32 t.charges 1 }).tone n .accept := by
    simp only [t]
    rw [State.grant_ready hp hx hb he hc hindex hrule hroom, ← hz, State.grantException_absent (by rw [hz]; exact hexc)]
  have htn : t.st n = { s.st n with
      ctx := (s.st n).ctx.settledEntry s.journal.counter i (g.entry s.journal.counter)
      tallies := { (s.st n).tallies with charges := min 4294967295 ((s.st n).tallies.charges + 1) } } := by
    rw [ht, State.tone_st, State.updTallies_same, hzn]
    simp [sat32, satAdd, Config.maxCount32]
  rw [State.tone_eq] at ht
  have hx' : (s.st n).ctx.items[i]? = some x := hx
  refine ⟨htn, fun m hm => ?_, ?_, ?_, ?_, ?_, ?_⟩
  · rw [ht, State.sending_st, State.updTallies_other _ hm]
    exact hzo m hm
  · rw [State.entry, htn]
    simp [hx']
  · rw [ht]
    exact hzj
  · rw [ht]
    exact hzb
  · rw [ht]
    exact hzl
  · rw [ht, hzr]
    rfl

/-! ### Discharges -/

/-- R34: the DISCHARGE record of station n for entry x. -/
def State.dischargeOf (s : State) (n : StationNo) (x : Item) (d : Discharge) : Record :=
  { s.record .discharge (some n) with
    decidedBy := d.decidedBy, flags := x.flags.union d.flags, borrower := d.borrower, item := some x.number, due := d.due
    fine := d.fine.map (·.fine), ruleIndex := d.ruleIndex, bankGen := some s.generation
    detail := if d.atOnce then some Detail.localFallback else none }

/-- R34, R107: the RETURNED entry. -/
def Discharge.entry (d : Discharge) (x : Item) (saturated : Bool) : Item :=
  { x.settled with
    state := .returned, fine := d.fine.map (·.fine), decidedBy := some d.decidedBy
    flags := (x.flags.union d.flags).union { balanceSaturated := saturated }
    routing := x.routing.orElse fun _ => d.routing }

/-- R61: what a posting of a discharge leaves. -/
theorem State.postDischarge_posts (s : State) (b : Option Nat) (f : Option FineResult) :
    (∀ c, b ≠ some c → (s.postDischarge b f).1.borrower? c = s.borrower? c) ∧
    (∀ c e, b = some c → s.borrower? c = some e → (s.postDischarge b f).1.borrower? c = some { e with
      onLoan := e.onLoan - 1
      overdue := if (f.map (·.late)).getD false = true then e.overdue - 1 else e.overdue
      balance := min 16777215 (e.balance + (f.map (·.fine)).getD 0)
      changed := true, inFlight := false }) ∧
    (s.postDischarge b f).1 = { s with borrowers := (s.postDischarge b f).1.borrowers } := by
  cases hb : b.bind s.borrower? with
  | none =>
    have heq : s.postDischarge b f = (s, false) := by simp only [State.postDischarge, hb]
    rw [heq]
    refine ⟨fun c _ => rfl, fun c e hc he => ?_, rfl⟩
    rw [hc, Option.bind_some, he] at hb
    cases hb
  | some e =>
    obtain ⟨c, rfl, he⟩ := Option.bind_eq_some_iff.mp hb
    obtain ⟨hpost, hother⟩ := State.setBorrower_posted he (f := fun e => { e with
      onLoan := e.onLoan - 1
      overdue := if (f.map (·.late)).getD false then e.overdue - 1 else e.overdue
      balance := satAdd Config.maxMoney e.balance ((f.map (·.fine)).getD 0) }) rfl
    have heq : (s.postDischarge (some c) f).1 = s.setBorrower (e.post fun e => { e with
        onLoan := e.onLoan - 1
        overdue := if (f.map (·.late)).getD false then e.overdue - 1 else e.overdue
        balance := satAdd Config.maxMoney e.balance ((f.map (·.fine)).getD 0) }) := by
      simp only [State.postDischarge, Option.bind_some, he]
    rw [heq]
    refine ⟨fun k hk => hother k fun h => hk (by rw [h]), fun k y hk hy => ?_, rfl⟩
    cases hk
    rw [he] at hy
    cases hy
    exact hpost

/-- The posting of a discharge reads of the rest of the state only the borrower table. -/
theorem State.postDischarge_borrowers {u : State} (h : u = { s with stations := u.stations, journal := u.journal })
    (b : Option Nat) (f : Option FineResult) :
    (u.postDischarge b f).1.borrowers = (s.postDischarge b f).1.borrowers := by
  have hfind : u.borrower? = s.borrower? := by
    funext c
    rw [h]
    rfl
  have hborrowers : u.borrowers = s.borrowers := by rw [h]
  cases hb : b.bind s.borrower? with
  | none => simp only [State.postDischarge, hfind, hb, hborrowers]
  | some e => simp only [State.postDischarge, hfind, hb, State.setBorrower, hborrowers]

/-- R34: a discharge in a journal that is ready. -/
theorem State.discharge_ready (hp : s.ready p) (hx : s.entry n i = some x) (d : Discharge) :
    ∃ sat, (d.borrower = none → sat = false) ∧
    let y := d.entry x sat
    let t := s.discharge n i d
    s.discharged t n p y d.decidedBy d.borrower d.due d.ruleIndex d.fine ∧ t.entry n i = some y ∧
    (t.st n).line = (s.st n).line ∧ (t.st n).alerts = (s.st n).alerts ∧
    (t.st n).ctx = (s.st n).ctx.settledEntry s.journal.counter i y ∧
    (∀ m, m ≠ n → t.st m = s.st m) ∧ t.borrowers = (s.postDischarge d.borrower d.fine).1.borrowers ∧
    t.journal = (s.recorded p { s.dischargeOf n x d with
      flags := (x.flags.union d.flags).union (s.st n).ctx.stationFlags }).journal ∧
    t = { s with
      stations := t.stations, borrowers := t.borrowers, journal := t.journal
      mgmt := { s.mgmt with sticky := t.mgmt.sticky }, sent := t.sent } := by
  generalize hj : s.journaled n p (s.dischargeOf n x d) = j
  have hjrest : j = { s with stations := j.stations, journal := j.journal } := by
    rw [← hj]
    rfl
  have hjpost : ∀ c, j.borrower? c = s.borrower? c := fun c => by rw [hjrest]; rfl
  obtain ⟨hnot, hpost, hprest⟩ := j.postDischarge_posts d.borrower d.fine
  refine ⟨(j.postDischarge d.borrower d.fine).2, fun hb => by rw [hb]; rfl, ?_⟩
  intro y t
  have hjx : (j.postDischarge d.borrower d.fine).1.entry n i = some x := by
    have hitems : (j.st n).ctx.items = (s.st n).ctx.items := by simp [← hj]
    rw [hprest]
    exact (congrArg (·[i]?) hitems).trans hx
  generalize hv : (j.postDischarge d.borrower d.fine).1.stick
    { balanceSaturated := (j.postDischarge d.borrower d.fine).2 } = v
  have hvx : v.entry n i = some x := by rw [← hv]; exact hjx
  have hvrest : v = { j with
      borrowers := (j.postDischarge d.borrower d.fine).1.borrowers
      mgmt := { s.mgmt with sticky := v.mgmt.sticky } } := by
    rw [← hv, hprest, ← hj]
    rfl
  have ht : t = ((v.updItem n i fun _ => y).updTallies n fun t =>
      { t with
        discharges := sat32 t.discharges 1
        fines := sat32 t.fines ((d.fine.map (·.fine)).getD 0) }).tone n .accept := by
    have := State.updItem_at hvx fun x' => { x'.settled with
      state := .returned, fine := d.fine.map (·.fine), decidedBy := some d.decidedBy
      flags := (x.flags.union d.flags).union { balanceSaturated := (j.postDischarge d.borrower d.fine).2 }
      routing := x'.routing.orElse fun _ => d.routing }
    have hwrite : s.writeStation n (s.dischargeOf n x d) = (some s.journal.counter, j) := by
      rw [State.writeStation_journaled hp, hj]
    simp only [State.dischargeOf] at hwrite
    simp only [t, State.discharge, hx, hwrite]
    rw [hv, this]
    rfl
  have hvst : ∀ m, v.st m = j.st m := fun m => by rw [hvrest]; rfl
  have htn : t.st n = { s.st n with
      ctx := (s.st n).ctx.settledEntry s.journal.counter i y
      tallies := { (s.st n).tallies with
        discharges := min 4294967295 ((s.st n).tallies.discharges + 1)
        fines := min 4294967295 ((s.st n).tallies.fines + (d.fine.map (·.fine)).getD 0) } } := by
    have hjn : j.st n = { s.st n with ctx := (s.st n).ctx.numbered s.journal.counter } := by
      rw [← hj, State.journaled_st]
      rfl
    rw [ht, State.tone_st, State.updTallies_same, State.updItem_same, hvst, hjn]
    simp [sat32, satAdd, Config.maxCount32, Ctx.settledEntry]
  rw [State.tone_eq] at ht
  generalize hr : { s.dischargeOf n x d with flags := (x.flags.union d.flags).union (s.st n).ctx.stationFlags } = r
  have hjournal : t.journal = (s.recorded p r).journal := by
    have : t.journal = j.journal := by
      rw [ht, hvrest]
      rfl
    rw [this, ← hj, ← hr]
    rfl
  have hborrowers : t.borrowers = (j.postDischarge d.borrower d.fine).1.borrowers := by
    rw [ht, hvrest]
    rfl
  have hfind : ∀ c, t.borrower? c = (j.postDischarge d.borrower d.fine).1.borrower? c := fun c => by
    rw [State.borrower?, State.borrower?, hborrowers]
  have hx' : (s.st n).ctx.items[i]? = some x := hx
  refine ⟨⟨rfl, rfl, rfl, ⟨{ r with seq := s.journal.counter }, ?_, by rw [← hr]; rfl, rfl, by rw [← hr]; rfl, by rw [← hr]; rfl,
    by rw [← hr]; rfl, by rw [← hr]; rfl, by rw [← hr]; rfl, by rw [← hr]; rfl, by rw [← hr]; rfl,
    by rw [← hr]; rfl⟩, fun c hc => ?_, fun c e hc he => ?_, ?_⟩,
    ?_, ?_, ?_, ?_, fun m hm => ?_, ?_, hjournal, ?_⟩
  · rw [hjournal]
    simp [State.recorded]
  · rw [hfind, hnot c hc, hjpost]
  · rw [hfind, hpost c e hc ((hjpost c).trans he)]
  · rw [htn]
  · rw [State.entry, htn]
    simp [hx']
  · rw [htn]
  · rw [htn]
  · rw [htn]
  · rw [ht, State.sending_st, State.updTallies_other _ hm, State.updItem_other hm, hvst, ← hj]
    exact State.journaled_other hm p _
  · rw [hborrowers, State.postDischarge_borrowers hjrest]
  · rw [ht, hvrest, hjrest]
    rfl

end Sys2Proof.Machine
end

section
/-! SUPPORT. An outcome handed to an item entry (R20, R113), and the settling of O21. -/

namespace Sys2Proof.Machine

variable {s : State} {n : StationNo} {p : Fin 128} {g : Tag} {q : Question} {m : ReplyMsg} {i : Nat} {x : Item}

/-! ### The hand-over -/

/-- R113, R114: an outcome reaches the entry that still holds the query. -/
theorem State.handItem_held (hx : s.entry n i = some x) {k : Tag × Nat} (hk : x.query = some k) (o : ItemOutcome) :
    s.handItem n (i + 1) k o = (s.takeOutcome n i o).closeIfDone n := by
  simp only [State.handItem, Nat.add_sub_cancel, hx, hk, if_true]

/-- R20: an AWAITING entry among the items. -/
theorem Ctx.awaiting_ne_zero {c : Ctx} (hx : c.items[i]? = some x) (h : x.state = .awaiting) : c.awaiting ≠ 0 := by
  have hmem : x ∈ c.items.filter fun y => decide (y.state = .awaiting) :=
    List.mem_filter.mpr ⟨List.mem_of_getElem? hx, by simp [h]⟩
  intro h0
  have hnil : c.items.filter (fun y => decide (y.state = .awaiting)) = [] := List.eq_nil_of_length_eq_zero h0
  rw [hnil] at hmem
  cases hmem

/-- R40: a close does not complete while an entry is AWAITING. -/
theorem State.closeIfDone_awaiting (hx : s.entry n i = some x) (h : x.state = .awaiting) : s.closeIfDone n = s :=
  if_neg fun hc => Ctx.awaiting_ne_zero hx h hc.2

/-- R20: an outcome that reaches an AWAITING entry while the hold condition holds is parked. -/
theorem State.handItem_parks (hx : s.entry n i = some x) {k : Tag × Nat} (hk : x.query = some k)
    (ha : x.state = .awaiting) (hh : (s.st n).alerts.hold = true) (o : ItemOutcome) :
    s.handItem n (i + 1) k o =
      s.updItem n i fun x => { x with waiting := some .reply, query := none, parked := some o } := by
  rw [State.handItem_held hx hk, State.takeOutcome, if_pos hh]
  exact State.closeIfDone_awaiting (State.entry_updItem hx _) ha

/-- R20: without a hold it is applied at once. -/
theorem State.handItem_applies (hx : s.entry n i = some x) {k : Tag × Nat} (hk : x.query = some k)
    (hh : (s.st n).alerts.hold = false) (o : ItemOutcome) :
    s.handItem n (i + 1) k o = (s.applyOutcome n i o).closeIfDone n := by
  rw [State.handItem_held hx hk, State.takeOutcome, if_neg (by simp [hh])]

/-! ### Refused items -/

/-- R30: the REFUSAL record of entry x. -/
def State.itemRefusalOf (s : State) (n : StationNo) (x : Item) (reason : Reason) (d : DecidedBy) : Record :=
  { s.record .refusal (some n) with
    decidedBy := d, flags := x.flags, borrower := (s.st n).ctx.borrower, item := some x.number, reason := some reason }

/-- R30: an item refused in a journal that is ready. -/
theorem State.refuseItem_ready (hp : s.ready p) (hx : s.entry n i = some x) (reason : Reason) (d : DecidedBy) :
    let y := x.refused (if d = .online then some .online else none)
    let t := s.refuseItem n i reason d
    t.st n = { s.st n with
      ctx := (s.st n).ctx.settledEntry s.journal.counter i y
      tallies := { (s.st n).tallies with refusals := min 4294967295 ((s.st n).tallies.refusals + 1) } } ∧
    (∀ m, m ≠ n → t.st m = s.st m) ∧ t.entry n i = some y ∧
    t.journal = (s.recorded p { s.itemRefusalOf n x reason d with
      flags := x.flags.union (s.st n).ctx.stationFlags }).journal ∧
    t = { s with stations := t.stations, journal := t.journal, sent := t.sent } := by
  intro y t
  have hwrite : s.writeStation n (s.itemRefusalOf n x reason d) =
      (some s.journal.counter, s.journaled n p (s.itemRefusalOf n x reason d)) := State.writeStation_journaled hp n _
  have hjx : (s.journaled n p (s.itemRefusalOf n x reason d)).entry n i = some x := by
    have hitems : ((s.journaled n p (s.itemRefusalOf n x reason d)).st n).ctx.items = (s.st n).ctx.items := by simp
    exact (congrArg (·[i]?) hitems).trans hx
  have ht : t = ((((s.journaled n p (s.itemRefusalOf n x reason d)).updItem n i fun _ => y).tallyRefusal n).tone n
      .refuse) := by
    have := State.updItem_at hjx fun x => x.refused (if d = .online then some .online else none)
    simp only [State.itemRefusalOf] at hwrite this
    simp only [t, State.refuseItem, hx, hwrite]
    rw [this]
    rfl
  have htn : t.st n = { s.st n with
      ctx := (s.st n).ctx.settledEntry s.journal.counter i y
      tallies := { (s.st n).tallies with refusals := min 4294967295 ((s.st n).tallies.refusals + 1) } } := by
    rw [ht, State.tone_st, State.tallyRefusal, State.updTallies_same, State.updItem_journaled rfl]
    simp [sat32, satAdd, Config.maxCount32]
  have hx' : (s.st n).ctx.items[i]? = some x := hx
  rw [State.tone_eq] at ht
  refine ⟨htn, fun m hm => ?_, ?_, ?_, ?_⟩
  · rw [ht, State.sending_st, State.tallyRefusal, State.updTallies_other _ hm, State.updItem_other hm]
    exact State.journaled_other hm p _
  · rw [State.entry, htn]
    simp [hx']
  · rw [ht]
    rfl
  · rw [ht]
    rfl

/-! ### Replies to the query of an item -/

/-- R113: a timely reply to the query of an item. -/
theorem exec_itemReply {o : ItemOutcome} {r : ReplyOutcome} (hup : s.service.linkUp = true)
    (hon : s.service.state = .online) (htag : m.tag = g.val) (hgen : m.gen = s.queries[g].gen) {k : Nat}
    (hw : s.queries[g].state = .waiting q k) (htarget : plainNumber 12 3 m.item = some q.target)
    (hkind : m.kind = 1 ∧ q.kind = .chargeRequest ∨ m.kind = 2 ∧ q.kind = .dischargeRequest)
    (hpos : q.position = some (i + 1)) (hr : replyOutcome? m = some r) (ho : r.item? = some o) :
    exec (.reply m) s = .next ((s.fresh.answeredQuery g).handItem q.station (i + 1) (g, s.queries[g].gen) o) := by
  have hrk : replyKind? m = some q.kind := by
    rcases hkind with ⟨hm, hq⟩ | ⟨hm, hq⟩ <;> simp [replyKind?, hm, hq]
  have hrt : replyTarget? m = some q.target := by
    rcases hkind with ⟨hm, -⟩ | ⟨hm, -⟩ <;> simp [replyTarget?, replyKind?, hm, htarget]
  rw [exec_reply hup hon htag hgen hw hrk hrt hr]
  have hne : q.kind ≠ .borrowerLookup := by
    rcases hkind with ⟨-, hq⟩ | ⟨-, hq⟩ <;> simp [hq]
  have hhand : (s.fresh.answeredQuery g).handOutcome (g, s.queries[g].gen) q r =
      (s.fresh.answeredQuery g).handItem q.station (i + 1) (g, s.queries[g].gen) o := by
    rw [State.handOutcome]
    · simp only [ho, hpos]
    · exact fun _ h => absurd h hne
    · exact fun h => absurd h hne
  rw [hhand]

/-- R137: what the request of a level leaves of the transaction. -/
theorem State.requestLevel_entry (l : Level) (k : Nat) (o : Option Origin) :
    (s.requestLevel n l k o).entry n i = s.entry n i := by
  have hu : ((s.requestLevel n l k o).st n).ctx.unheld = (s.st n).ctx.unheld := by
    simp [State.requestLevel, State.settleAlerts]
  exact congrArg (·[i]?) (Ctx.unheld_slip hu).2.2.2.1

/-! ### Discharges -/

/-- What `State.discharged` reads of the two states. -/
theorem State.discharged_congr {s' t t' : State} {d : DecidedBy} {b : Option Nat} {due : Option Time} {index : Option Nat}
    {f : Option FineResult} (h : s.discharged t n p x d b due index f)
    (hs : s'.journal = s.journal ∧ s'.generation = s.generation ∧ s'.borrowers = s.borrowers ∧
      (s'.st n).tallies = (s.st n).tallies)
    (ht : t'.journal = t.journal ∧ t'.borrowers = t.borrowers ∧ (t'.st n).tallies = (t.st n).tallies) :
    s'.discharged t' n p x d b due index f := by
  obtain ⟨hsj, hsg, hsb, hst⟩ := hs
  obtain ⟨htj, htb, htt⟩ := ht
  have hsf : ∀ c, s'.borrower? c = s.borrower? c := fun c => by rw [State.borrower?, State.borrower?, hsb]
  have htf : ∀ c, t'.borrower? c = t.borrower? c := fun c => by rw [State.borrower?, State.borrower?, htb]
  simp only [State.discharged, hsj, hsg, hsf, hst, htj, htf, htt]
  exact h

/-- R91: the decision of an ON_LOAN reply for which the active bank gives a fine. -/
theorem State.onLoanDischarge_fined {o : OnLoan} {index : Nat} {f : FineResult} (hcan : s.canFine = true)
    (hindex : s.ruleIndex? (min o.cls 63) (((s.borrower? o.borrower).map (·.category)).getD 15) = some index)
    (hf : s.fineFrom index (((s.borrower? o.borrower).map (·.category)).getD 15) ⟨o.day, min o.minute 1439⟩ s.now = some f)
    (d : DecidedBy) :
    let r := s.onLoanDischarge d o
    r.decidedBy = d ∧ r.borrower = some o.borrower ∧ r.due = some ⟨o.day, min o.minute 1439⟩ ∧
      r.ruleIndex = some index ∧ r.fine = some f := by
  intro r
  have hactive : s.mgmt.alarms.rulesInvalid.active = false := by
    simp only [State.canFine, Bool.and_eq_true, Bool.not_eq_true'] at hcan
    exact hcan.1
  have hcat : s.fineCategory (some o.borrower) = ((s.borrower? o.borrower).map (·.category)).getD 15 := by
    simp only [State.fineCategory, Option.bind_some]
    cases s.borrower? o.borrower <;> rfl
  have hfine : r.fine = some f := by
    simp only [r, State.onLoanDischarge, hactive, Bool.false_eq_true, if_false, State.finedDischarge, hcan, if_true, hcat,
      clampClass, Config.otherClass, Config.lastMinute, hindex, Option.bind_some, hf]
  refine ⟨?_, ?_, ?_, ?_, hfine⟩ <;>
    simp [r, State.onLoanDischarge, hactive, State.finedDischarge, hcat, clampClass, Config.otherClass,
      Config.lastMinute, hindex]

/-- R34: a discharge from an ON_LOAN reply in a journal that is ready, with the request of L6 that may follow. -/
theorem State.dischargeOnLoan_ready (hp : s.ready p) (hx : s.entry n i = some x) (o : OnLoan) :
    let d := s.onLoanDischarge .online o
    let t := s.dischargeOnLoan n i o
    ∃ y, y.number = x.number ∧ s.discharged t n p y d.decidedBy d.borrower d.due d.ruleIndex d.fine ∧
      t.entry n i = some y ∧ t.loans = s.loans ∧ t.queries = s.queries ∧ t.service = s.service ∧
      ((t.st n).ctx.tx = .closing ↔ (s.st n).ctx.tx = .closing) := by
  intro d t
  have hps : (s.stick d.flags.sticky).ready p := State.ready_of hp rfl rfl rfl
  obtain ⟨sat, -, hdis, hent, -, -, hctx, -, -, -, hrest⟩ :=
    State.discharge_ready (s := s.stick d.flags.sticky) (n := n) (i := i) hps hx d
  generalize hv : (s.stick d.flags.sticky).discharge n i d = v at hdis hent hctx hrest
  have ht : t = if o.hold = true then v.requestLevel n .l6 0 none else v := by
    have hret : (d.entry x sat).state = .returned := rfl
    simp only [t, State.dischargeOnLoan]
    rw [show (s.stick _).discharge n i _ = v from hv]
    simp only [hent, hret, true_and]
  have hloans : v.loans = s.loans := by rw [hrest]; rfl
  have hqueries : v.queries = s.queries := by rw [hrest]; rfl
  have hservice : v.service = s.service := by rw [hrest]; rfl
  have htx : (v.st n).ctx.tx = (s.st n).ctx.tx := by
    rw [hctx]
    simp
  refine ⟨d.entry x sat, rfl, State.discharged_congr hdis ⟨rfl, rfl, rfl, rfl⟩ ?_, ?_, ?_, ?_, ?_, ?_⟩
  · rw [ht]
    split <;> simp
  · rw [ht]
    split
    · rw [State.requestLevel_entry]
      exact hent
    · exact hent
  · rw [ht]
    split <;> simp [hloans]
  · rw [ht]
    split <;> simp [hqueries]
  · rw [ht]
    split <;> simp [hservice]
  · rw [ht]
    split <;> simp [htx]

end Sys2Proof.Machine

namespace Sys2Proof.Proofs
open Sys2Proof Sys2Proof.Machine

section
variable {s u : State} {n : StationNo} {p : Fin 128} {g : Tag} {i : Nat} {x : Item}
  (hu : u = { s.answeredQuery g with sent := [] }) (hp : s.ready p) (hh : (s.st n).alerts.hold = false)
  (hx : s.entry n i = some x) (hq : x.query = some (g, s.queries[g].gen))
include hu hp hh hx hq

/-- R28, R30: a timely REFUSE. -/
theorem replyRefuses (code : Nat) (hk : (s.st n).ctx.kind = some .charge) (hc : (s.st n).ctx.tx ≠ .closing) :
    let t := u.handItem n (i + 1) (g, s.queries[g].gen) (.refuse code)
    ∃ r : Record, t.entry n i = some { x with
        state := .refused, waiting := none, query := none, parked := none, decidedBy := some .online } ∧
      r.kind = .refusal ∧ r.station = some n ∧ r.decidedBy = .online ∧ r.borrower = (s.st n).ctx.borrower ∧
      r.item = some x.number ∧ r.reason = some (.server code) ∧ t.journal = (s.recorded p r).journal ∧
      (t.st n).tallies = { (s.st n).tallies with refusals := min 4294967295 ((s.st n).tallies.refusals + 1) } ∧
      t.queries = (s.answeredQuery g).queries ∧ t.service = (s.answeredQuery g).service ∧
      t.borrowers = s.borrowers ∧ t.loans = s.loans ∧ ∀ y, y ≠ n → t.st y = s.st y := by
  intro t
  have hust : ∀ m, u.st m = s.st m := fun m => by rw [hu]; rfl
  have hup : u.ready p := State.ready_of hp (by rw [hu]; rfl) (by rw [hu]; rfl) (by rw [hu]; rfl)
  have hux : u.entry n i = some x := by rw [hu]; exact hx
  obtain ⟨h1, h2, h3, h4, h5⟩ := State.refuseItem_ready hup hux (.server code) .online
  have ht : t = u.refuseItem n i (.server code) .online := by
    simp only [t]
    rw [State.handItem_applies hux hq (by rw [hust]; exact hh), State.applyOutcome, hust, hk]
    refine State.closeIfDone_of_ne ?_
    rw [show u.applyCharge n i (.refuse code) = u.refuseItem n i (.server code) .online from rfl, h1, hust]
    simpa using hc
  rw [ht]
  refine ⟨{ u.itemRefusalOf n x (.server code) .online with flags := x.flags.union (u.st n).ctx.stationFlags }, ?_, rfl,
    rfl, rfl, by rw [← hust n]; rfl, rfl, rfl, h4.trans (State.recorded_journal (by rw [hu]; rfl) _ _), ?_, ?_, ?_, ?_, ?_,
    fun y hy => (h2 y hy).trans (hust y)⟩
  · rw [h3]
    rfl
  · rw [h1, hust]
  · rw [h5, hu]
  · rw [h5, hu]
  · rw [h5, hu]
    rfl
  · rw [h5, hu]
    rfl

/-- R28, R29: a timely GRANT without a class. -/
theorem replyGrants (hk : (s.st n).ctx.kind = some .charge) (ho : (s.st n).ctx.tx = .opened)
    (hnone : s.exception? x.number = none) {b index : Nat} {e : Borrower} {c : Calendar} {rule : Rule}
    (hb : (s.st n).ctx.borrower = some b) (he : s.borrower? b = some e) (hc : s.activeBank.calendar? = some c)
    (hindex : s.ruleIndex? x.cls e.category = some index) (hrule : s.rule? index = some rule) :
    let due := (computeDue c rule s.now e.expiry).due
    let t := u.handItem n (i + 1) (g, s.queries[g].gen) (.grant none)
    ∃ (y : Item) (r : Record), t.entry n i = some y ∧ y.number = x.number ∧ y.state = .granted ∧
      y.due = some due ∧ y.decidedBy = some .online ∧
      t.borrower? b = some { e with onLoan := min 255 (e.onLoan + 1), changed := true, inFlight := false } ∧
      t.loans = s.loans.filter (fun l => l.item != x.number) ∧
      r.kind = .charge ∧ r.station = some n ∧ r.decidedBy = .online ∧ r.borrower = some b ∧
      r.item = some x.number ∧ r.due = some due ∧ r.ruleIndex = some index ∧ r.bankGen = some s.generation ∧
      t.journal = (s.recorded p r).journal ∧
      (t.st n).tallies = { (s.st n).tallies with charges := min 4294967295 ((s.st n).tallies.charges + 1) } ∧
      t.queries = (s.answeredQuery g).queries ∧ t.service = (s.answeredQuery g).service ∧
      ∀ y, y ≠ n → t.st y = s.st y := by
  intro due t
  have hust : ∀ m, u.st m = s.st m := fun m => by rw [hu]; rfl
  have hup : u.ready p := State.ready_of hp (by rw [hu]; rfl) (by rw [hu]; rfl) (by rw [hu]; rfl)
  have hux : u.entry n i = some x := by rw [hu]; exact hx
  have hnow : u.now = s.now := by rw [hu]; rfl
  have hgrant := State.grant_unlisted (d := .online) (offline := false) (atOnce := false) (b := b) (e := e) (c := c)
    (index := index) (rule := rule) hup hux (by rw [hust]; exact hb) (by rw [hu]; exact he) (by rw [hu]; exact hc)
    (by rw [hu]; exact hindex) (by rw [hu]; exact hrule) (.inl rfl) (by rw [hu]; exact hnone)
  rw [hnow] at hgrant
  obtain ⟨h1, h2, h3, h4, h5, h6, h7⟩ := hgrant
  have ht : t = u.grant n i .online false false := by
    simp only [t]
    rw [State.handItem_applies hux hq (by rw [hust]; exact hh), State.applyOutcome, hust, hk]
    refine State.closeIfDone_of_ne ?_
    rw [show u.applyCharge n i (.grant none) = u.grant n i .online false false from rfl, h1, hust]
    simp [ho]
  rw [ht]
  have hgen : u.generation = s.generation := by rw [hu]; rfl
  let charge := u.chargeOf n ⟨x, b, computeDue c rule s.now e.expiry, index, rule, .online, false, false⟩
  refine ⟨_, { charge with flags := charge.flags.union (u.st n).ctx.stationFlags }, h3, rfl, rfl, rfl, rfl, h5, ?_, rfl,
    rfl, rfl, rfl, rfl, rfl, rfl, congrArg some hgen,
    h4.trans (State.recorded_journal (by rw [hu]; rfl) _ _), ?_, ?_, ?_, fun y hy => (h2 y hy).trans (hust y)⟩
  · rw [h6, hu, if_pos rfl, List.append_nil]
    rfl
  · rw [h1, hust]
  · rw [h7, hu]
  · rw [h7, hu]

/-- R34: a timely NOT_ON_LOAN. -/
theorem replyNotOnLoan (hk : (s.st n).ctx.kind = some .discharge) (hr : (s.st n).ctx.tx = .returns) :
    let t := u.handItem n (i + 1) (g, s.queries[g].gen) .notOnLoan
    ∃ y, t.entry n i = some y ∧ y.number = x.number ∧ s.discharged t n p y .online none none none none ∧
      t.loans = s.loans ∧ t.queries = (s.answeredQuery g).queries ∧ t.service = (s.answeredQuery g).service := by
  intro t
  have hust : ∀ m, u.st m = s.st m := fun m => by rw [hu]; rfl
  have hup : u.ready p := State.ready_of hp (by rw [hu]; rfl) (by rw [hu]; rfl) (by rw [hu]; rfl)
  have hux : u.entry n i = some x := by rw [hu]; exact hx
  obtain ⟨sat, -, h1, h2, -, -, h3, -, -, -, h4⟩ := State.discharge_ready hup hux .notOnLoan
  have ht : t = u.discharge n i .notOnLoan := by
    simp only [t]
    rw [State.handItem_applies hux hq (by rw [hust]; exact hh), State.applyOutcome, hust, hk]
    refine State.closeIfDone_of_ne ?_
    rw [show u.applyDischarge n i .notOnLoan = u.discharge n i .notOnLoan from rfl, h3, hust]
    simp [hr]
  rw [ht]
  refine ⟨_, h2, rfl, State.discharged_congr h1 ?_ ⟨rfl, rfl, rfl⟩, ?_, ?_, ?_⟩
  · rw [hu]
    exact ⟨rfl, rfl, rfl, rfl⟩
  · rw [h4, hu]
    rfl
  · rw [h4, hu]
  · rw [h4, hu]

/-- R34, R91: a timely ON_LOAN for which the active bank gives a fine. -/
theorem replyOnLoan (hk : (s.st n).ctx.kind = some .discharge) (hr : (s.st n).ctx.tx = .returns) {o : OnLoan} {index : Nat}
    {f : FineResult} (hcan : s.canFine = true)
    (hindex : s.ruleIndex? (min o.cls 63) (((s.borrower? o.borrower).map (·.category)).getD 15) = some index)
    (hf : s.fineFrom index (((s.borrower? o.borrower).map (·.category)).getD 15) ⟨o.day, min o.minute 1439⟩ s.now = some f) :
    let t := u.handItem n (i + 1) (g, s.queries[g].gen) (.onLoan o)
    ∃ y, t.entry n i = some y ∧ y.number = x.number ∧
      s.discharged t n p y .online (some o.borrower) (some ⟨o.day, min o.minute 1439⟩) (some index) (some f) ∧
      t.loans = s.loans ∧ t.queries = (s.answeredQuery g).queries ∧ t.service = (s.answeredQuery g).service := by
  intro t
  have hust : ∀ m, u.st m = s.st m := fun m => by rw [hu]; rfl
  have hup : u.ready p := State.ready_of hp (by rw [hu]; rfl) (by rw [hu]; rfl) (by rw [hu]; rfl)
  have hux : u.entry n i = some x := by rw [hu]; exact hx
  obtain ⟨hd, hdb, hdd, hdi, hdf⟩ := State.onLoanDischarge_fined (s := u) (o := o) (index := index) (f := f)
    (by rw [hu]; exact hcan) (by rw [hu]; exact hindex) (by rw [hu]; exact hf) .online
  obtain ⟨y, hy, h1, h2, h3, h4, h5, h6⟩ := State.dischargeOnLoan_ready hup hux o
  rw [hd, hdb, hdd, hdi, hdf] at h1
  have ht : t = u.dischargeOnLoan n i o := by
    simp only [t]
    rw [State.handItem_applies hux hq (by rw [hust]; exact hh), State.applyOutcome, hust, hk]
    refine State.closeIfDone_of_ne fun hc => ?_
    have := h6.mp hc
    rw [hust, hr] at this
    cases this
  rw [ht]
  refine ⟨y, h2, hy, State.discharged_congr h1 ?_ ⟨rfl, rfl, rfl⟩, ?_, ?_, ?_⟩
  · rw [hu]
    exact ⟨rfl, rfl, rfl, rfl⟩
  · rw [h3, hu]
    rfl
  · rw [h4, hu]
  · rw [h5, hu]

end

/-- Settles O21: the reply frees its query, and each clause is the hand-over of its outcome to the entry. -/
theorem itemRepliesDecide : Obligations.ItemRepliesDecide := by
  unfold Obligations.ItemRepliesDecide
  intro m g q k i x s hup hon htag hgen hw htarget hkind hpos hx ha hq n
  have hexec : ∀ {r : ReplyOutcome} {o : ItemOutcome}, replyOutcome? m = some r → r.item? = some o →
      exec (.reply m) s = .next ((s.fresh.answeredQuery g).handItem n (i + 1) (g, s.queries[g].gen) o) :=
    fun hr ho => exec_itemReply hup hon htag hgen hw htarget hkind hpos hr ho
  generalize hu : s.fresh.answeredQuery g = u at hexec
  have hrest : u = { s.answeredQuery g with sent := [] } := by rw [← hu]; rfl
  have hgrant : m.kind = 1 → m.outcome = 2 →
      replyOutcome? m = some (.grant (if m.presence.getLsbD 2 then some m.cls else none)) := fun hk ho => by
    simp [replyOutcome?, replyKind?, hk, ho, replyOpt]
  have hrefuse : m.kind = 1 → m.outcome = 3 → replyOutcome? m = some (.refuse m.reason) := fun hk ho => by
    simp [replyOutcome?, replyKind?, hk, ho]
  have hnot : m.kind = 2 → m.outcome = 5 → replyOutcome? m = some .notOnLoan := fun hk ho => by
    simp [replyOutcome?, replyKind?, hk, ho]
  have honLoan : ∀ b, m.kind = 2 → m.outcome = 4 → plainNumber 10 2 m.borrower = some b →
      replyOutcome? m = some (.onLoan ⟨b, m.day, m.minute, m.cls, decide (m.hold ≠ 0)⟩) := fun b hk ho hb => by
    simp [replyOutcome?, replyKind?, hk, ho, hb]
  refine ⟨fun hh o ho => ?_, fun p hp hh => ⟨fun hk ho hcharge hc => ?_, fun hk ho hpres hcharge hopen hnone b e c index
    rule hb he hcal hindex hrule => ?_, fun hk hdis hret => ⟨fun ho => ?_, fun b index f ho hb hcan => ?_⟩⟩⟩
  · have hpark : exec (.reply m) s = .next (u.handItem n (i + 1) (g, s.queries[g].gen) o) := by
      rcases ho with ⟨hk, ho, rfl⟩ | ⟨hk, ho, rfl⟩ | ⟨hk, ho, rfl⟩ | ⟨hk, ho, b, hb, rfl⟩
      · exact hexec (hgrant hk ho) rfl
      · exact hexec (hrefuse hk ho) rfl
      · exact hexec (hnot hk ho) rfl
      · exact hexec (honLoan b hk ho hb) rfl
    rw [hpark, State.handItem_parks (x := x) (by rw [hrest]; exact hx) hq ha (by rw [hrest]; exact hh), hrest]
    rfl
  · obtain ⟨r, hr⟩ := replyRefuses hrest hp hh hx hq m.reason hcharge hc
    exact ⟨_, r, hexec (hrefuse hk ho) rfl, hr⟩
  · obtain ⟨y, r, hr⟩ := replyGrants hrest hp hh hx hq hcharge hopen hnone hb he hcal hindex hrule
    have hg := hgrant hk ho
    rw [hpres] at hg
    exact ⟨_, y, r, hexec hg rfl, hr⟩
  · obtain ⟨y, hy⟩ := replyNotOnLoan hrest hp hh hx hq hdis hret
    exact ⟨_, y, hexec (hnot hk ho) rfl, hy⟩
  · intro cat due hindex hf
    obtain ⟨y, hy⟩ := replyOnLoan hrest hp hh hx hq hdis hret (o := ⟨b, m.day, m.minute, m.cls, decide (m.hold ≠ 0)⟩)
      hcan hindex hf
    exact ⟨_, y, hexec (honLoan b hk ho hb) rfl, hy⟩

end Sys2Proof.Proofs
end

section
/-! SUPPORT. What the decision at a lapse leaves of the service, the query table and what has been sent (R114), and the
settling of O24. -/

namespace Sys2Proof.Machine

variable {s t u : State} {n : StationNo}

/-! ### What has been sent stays in front of what a decision sends -/

theorem foldl_sent {α : Type} {f : State → α → State} (h : ∀ s a, s.sent <+: (f s a).sent) (xs : List α) (s : State) :
    s.sent <+: (xs.foldl f s).sent := by
  induction xs generalizing s with
  | nil => exact List.prefix_refl _
  | cons x xs ih => exact (h s x).trans (ih (f s x))

theorem State.sent_evalJournal (s : State) : s.sent <+: s.evalJournal.sent := by
  have hfull : ∀ s : State, s.sent <+: s.evalFull.sent := by
    intro s
    simp only [State.evalFull]
    split
    · exact List.prefix_refl _
    · exact State.sent_sendTrunk (s.setAlarms _) _
  have hlow : ∀ s : State, s.sent <+: s.evalLow.sent := by
    intro s
    simp only [State.evalLow]
    split
    · exact List.prefix_refl _
    · exact State.sent_sendTrunk (s.setAlarms _) _
  exact (hfull s).trans (hlow _)

theorem State.sent_offer (s : State) (r : Record) : s.sent <+: (s.offer r).2.sent := by
  have htaken : ∀ j, s.sent <+: State.sent (State.evalJournal { s with journal := j }) := fun j =>
    State.sent_evalJournal { s with journal := j }
  simp only [State.offer]
  split
  · exact htaken _
  · exact List.prefix_refl _

theorem State.sent_changeSource (s : State) (n : StationNo) (f : Ctx → Ctx) : s.sent <+: (s.changeSource n f).sent := by
  simp only [State.changeSource]
  split
  · exact List.prefix_refl _
  · exact ((State.sent_offer (s.updCtx n f) _).trans (State.sent_sendTrunk _ _)).trans (State.sent_tone _ n .none)

theorem State.sent_reportAlarm (s : State) (on : Bool) : s.sent <+: (s.reportAlarm on).sent :=
  foldl_sent (fun s m => s.sent_changeSource m _) _ s

theorem State.sent_settleLocks (k : Nat) (s : State) : s.sent <+: (State.settleLocks k s).sent := by
  induction k generalizing s with
  | zero => exact List.prefix_refl _
  | succ k ih =>
    simp only [State.settleLocks]
    split
    · exact List.prefix_refl _
    · generalize hu : ({ s with mgmt := { s.mgmt with alarmCond := s.mgmt.alarms.holds } } : State) = u
      have hsent : u.sent = s.sent := by rw [← hu]
      rw [← hsent]
      exact (u.sent_reportAlarm _).trans (ih _)

theorem State.sent_writeStation (s : State) (n : StationNo) (r : Record) : s.sent <+: (s.writeStation n r).2.sent := by
  have hwrite : ∀ r, s.sent <+: (s.write r).2.sent := fun r => (s.sent_offer r).trans (State.sent_settleLocks 4 _)
  simp only [State.writeStation]
  split <;> rename_i h
  · have := hwrite { r with flags := r.flags.union (s.st n).ctx.stationFlags }
    rw [h] at this
    split
    · exact this
    · exact this
  · have := hwrite { r with flags := r.flags.union (s.st n).ctx.stationFlags }
    rwa [h] at this

theorem State.sent_of_written {r : Record} {k : Option Nat} (h : s.writeStation n r = (k, u)) : s.sent <+: u.sent := by
  have := s.sent_writeStation n r
  rwa [h] at this

theorem State.sent_refuseFull (s : State) (n : StationNo) (i : Nat) : s.sent <+: (s.refuseFull n i).sent :=
  State.sent_display ((s.updItem n i fun x => x.refused none).tallyRefusal n) n .refuse _

theorem State.sent_refuseItem (s : State) (n : StationNo) (i : Nat) (r : Reason) (d : DecidedBy) :
    s.sent <+: (s.refuseItem n i r d).sent := by
  simp only [State.refuseItem]
  split
  · exact List.prefix_refl _
  · generalize hw : s.writeStation n _ = w
    exact (State.sent_of_written hw).trans (State.sent_tone
      (State.tallyRefusal (State.updItem _ n i _) n) n .refuse)

theorem State.sent_itemFound (s : State) (n : StationNo) (x : Item) : s.sent <+: (s.itemFound n x).sent :=
  s.sent_writeStation n _

theorem State.sent_grantException (s : State) (n : StationNo) (x : Item) (b : Nat) :
    s.sent <+: (s.grantException n x b).sent := by
  simp only [State.grantException]
  split
  · split
    · exact List.prefix_refl _
    · exact List.prefix_refl _
  · exact (State.sent_requestLevel (s.dropException x.number) n .l6 0 none).trans (State.sent_itemFound _ n x)
  · exact List.prefix_refl _

theorem State.noteLoan_sent (s : State) (d : DecidedBy) (u : Bool) (l : PendingLoan) : (s.noteLoan d u l).sent = s.sent := by
  simp only [State.noteLoan]
  repeat' split
  all_goals rfl

theorem State.postLoan_sent (s : State) (n : StationNo) (f : Nat → Nat) : (s.postLoan n f).sent = s.sent := by
  simp only [State.postLoan]
  repeat' split
  all_goals rfl

theorem State.sent_grantWith (s : State) (n : StationNo) (i : Nat) (x : Item) (b : Nat) (c : Calendar) (index : Nat)
    (r : Rule) (d : DecidedBy) (offline atOnce : Bool) :
    s.sent <+: (s.grantWith n i x b c index r d offline atOnce).sent := by
  simp only [State.grantWith]
  split <;> rename_i h
  · exact (State.sent_of_written h).trans (State.sent_refuseFull _ n i)
  · refine (State.sent_of_written h).trans ?_
    refine List.IsPrefix.trans ?_ (State.sent_tone (State.updTallies _ n _) n .accept)
    refine List.IsPrefix.trans ?_ (State.sent_grantException _ n _ b)
    rw [State.noteLoan_sent, State.postLoan_sent]
    exact List.prefix_refl _

theorem State.sent_grant (s : State) (n : StationNo) (i : Nat) (d : DecidedBy) (offline atOnce : Bool) :
    s.sent <+: (s.grant n i d offline atOnce).sent := by
  simp only [State.grant]
  repeat' split
  · exact s.sent_grantWith n i _ _ _ _ _ d offline atOnce
  · exact s.sent_refuseItem n i _ _
  · exact s.sent_refuseItem n i _ _
  · exact List.prefix_refl _

theorem State.sent_discharge (s : State) (n : StationNo) (i : Nat) (d : Discharge) : s.sent <+: (s.discharge n i d).sent := by
  have hpost : ∀ (s : State) b f, (s.postDischarge b f).1.sent = s.sent := by
    intro s b f
    rw [(s.postDischarge_posts b f).2.2]
  simp only [State.discharge]
  split
  · exact List.prefix_refl _
  · split <;> rename_i h
    · exact (State.sent_of_written h).trans (State.sent_refuseFull _ n i)
    · refine (State.sent_of_written h).trans (List.IsPrefix.trans ?_ (State.sent_tone (State.updTallies _ n _) n .accept))
      rw [show ∀ (u : State) f k g, ((State.stick (u.postDischarge d.borrower d.fine).1 f).updItem n i k |>.updTallies n g).sent =
        u.sent from fun u _ _ _ => hpost u _ _]

theorem State.sent_dischargeLoan (s : State) (n : StationNo) (i : Nat) (l : PendingLoan) :
    s.sent <+: (s.dischargeLoan n i l).sent := by
  simp only [State.dischargeLoan]
  generalize s.finedDischarge _ _ _ _ _ _ _ = d
  have := (s.stick d.flags.sticky).sent_discharge n i d
  repeat' split
  all_goals exact this

theorem State.sent_dischargeOnLoan (s : State) (n : StationNo) (i : Nat) (o : OnLoan) :
    s.sent <+: (s.dischargeOnLoan n i o).sent := by
  simp only [State.dischargeOnLoan]
  generalize s.onLoanDischarge _ _ = d
  have := (s.stick d.flags.sticky).sent_discharge n i d
  repeat' split
  · exact this.trans (State.sent_requestLevel _ n .l6 0 none)
  · exact this
  · exact this

theorem State.sent_takeOutcome (s : State) (n : StationNo) (i : Nat) (o : ItemOutcome) :
    s.sent <+: (s.takeOutcome n i o).sent := by
  have hreplace : ∀ cls, (s.replaceClass n i cls).sent = s.sent := by
    intro cls
    cases cls <;> rfl
  have hcharge : s.sent <+: (s.applyCharge n i o).sent := by
    simp only [State.applyCharge]
    split
    · rw [← hreplace]
      exact State.sent_grant _ n i _ _ _
    · exact s.sent_refuseItem n i _ _
    · exact s.sent_grant n i _ _ _
    · exact s.sent_grant n i _ _ _
    · exact s.sent_grant n i _ _ _
    · exact List.prefix_refl _
    · exact List.prefix_refl _
  have hdischarge : s.sent <+: (s.applyDischarge n i o).sent := by
    simp only [State.applyDischarge]
    split
    · exact s.sent_dischargeOnLoan n i _
    · exact s.sent_discharge n i _
    · exact s.sent_discharge n i _
    · exact s.sent_discharge n i _
    · exact s.sent_discharge n i _
    · exact List.prefix_refl _
    · exact List.prefix_refl _
  simp only [State.takeOutcome, State.applyOutcome]
  repeat' split
  · exact List.prefix_refl _
  · exact hcharge
  · exact hdischarge
  · exact List.prefix_refl _

/-! ### Checks -/

theorem State.sent_acceptEntry (s : State) (n : StationNo) (e : Borrower) : s.sent <+: (s.acceptEntry n e).sent := by
  have hs : (if e.origin = .learned then s.touch e.number else s).sent = s.sent := by
    split <;> rfl
  rw [State.acceptEntry, ← hs]
  exact (State.acceptBorrower_reaches _ n e).2.2.2.2

theorem State.sent_refuseBorrower (s : State) (n : StationNo) (r : Reason) (d : DecidedBy) :
    s.sent <+: (s.refuseBorrower n r d).sent :=
  (s.sent_writeStation n _).trans (State.sent_tone (State.endRefused (State.tallyRefusal _ n) n) n .refuse)

theorem State.createBorrower_sent {e : Borrower} (h : s.createBorrower e = some u) : u.sent = s.sent := by
  cases hm : s.makeRoom with
  | none =>
    simp only [State.createBorrower, hm] at h
    cases h
  | some v =>
    have hv : v.sent = s.sent := by
      simp only [State.makeRoom] at hm
      repeat' split at hm
      all_goals cases hm
      all_goals rfl
    simp only [State.createBorrower, hm] at h
    split at h
    · cases h
      exact hv
    · cases h
      exact hv

theorem State.sent_decideStranger (s : State) (n : StationNo) (b : Nat) (d : DecidedBy) :
    s.sent <+: (s.decideStranger n b d).sent := by
  simp only [State.decideStranger]
  split
  · exact s.sent_refuseBorrower n _ d
  · split <;> rename_i h
    · exact (State.sent_of_written h).trans (State.sent_display (State.endRefused (State.tallyRefusal _ n) n) n .refuse _)
    · refine (State.sent_of_written h).trans ?_
      split <;> rename_i hc
      · split at hc
        · rw [← State.createBorrower_sent hc]
          exact (State.acceptBorrower_reaches _ n _).2.2.2.2
        · cases hc
      · exact (State.acceptBorrower_reaches (State.updCtx _ n _) n _).2.2.2.2

theorem State.sent_checkWithout (s : State) (n : StationNo) (b : Nat) (d : DecidedBy) :
    s.sent <+: (s.checkWithout n b d).sent := by
  simp only [State.checkWithout]
  split
  · exact s.sent_acceptEntry n _
  · exact s.sent_decideStranger n b d

/-! ### Closes -/

theorem State.sent_sendDesk (s : State) (n : StationNo) (f : DeskOut) : s.sent <+: (s.sendDesk n f).sent := by
  simp only [State.sendDesk]
  split
  · exact List.prefix_refl _
  · exact List.prefix_append _ _

theorem State.sent_stream (n : StationNo) (k : Nat) (s : State) : s.sent <+: (State.stream n k s).sent := by
  induction k generalizing s with
  | zero => exact List.prefix_refl _
  | succ k ih =>
    simp only [State.stream]
    split
    · exact List.prefix_refl _
    · split
      · split
        · exact List.prefix_refl _
        · split
          · exact (s.sent_sendDesk n _).trans (ih (State.updLine (State.updSlips (s.sendDesk n _) n _) n _))
          · exact List.prefix_refl _
      · exact List.prefix_refl _

theorem State.sent_settleSlip (s : State) (n : StationNo) : s.sent <+: (s.settleSlip n).sent := by
  simp only [State.settleSlip]
  split
  · exact State.sent_stream n _ (State.updSlips (State.updSlips s n _) n _)
  · exact List.prefix_refl _

theorem State.sent_withdrawBlocks (s : State) (n : StationNo) : s.sent <+: (s.withdrawBlocks n).sent := by
  refine foldl_sent (fun s l => ?_) _ s
  simp only [State.withdrawLevel]
  split
  · exact State.sent_settleAlerts (s.updAlerts n _) n
  · exact List.prefix_refl _

/-! ### A patience expiry counted -/

/-- R122, R123: a move of the service to DEGRADED or OFFLINE. -/
theorem State.setServiceState_moves {st : ServiceState} (h : s.service.state ≠ st) (hst : st ≠ .online) :
    let t := s.setServiceState st
    t.service = s.service.enter st ∧ t.stations = s.stations ∧ t.borrowers = s.borrowers ∧
    (s.service.linkUp = true → .trunk (s.stamped (.serviceState st s.service.count)) ∈ t.sent) ∧
    (s.upload.run ≠ .sending → s.upload.run ≠ .awaitReceipt → t = { s with service := t.service, sent := t.sent }) := by
  intro t
  generalize hv : (s.updService fun v => v.enter st).notice (.serviceState st s.service.count) = v
  have hcount : (s.updService fun v => v.enter st).service.count = s.service.count := by
    cases st <;> rfl
  have hlink : (s.updService fun v => v.enter st).service.linkUp = s.service.linkUp := by
    cases st <;> rfl
  have hservice : v.service = s.service.enter st := by rw [← hv]; simp
  have hstate : v.service.state ≠ .online := by
    rw [hservice]
    cases st
    · exact hst
    · simp [Service.enter]
    · simp [Service.enter]
  have ht : t = v.pauseRun := by
    simp only [t, State.setServiceState, if_neg h, hcount, State.serviceToUpload, hv, if_neg hstate]
  have hsent : s.service.linkUp = true → .trunk (s.stamped (.serviceState st s.service.count)) ∈ v.sent := by
    intro hup
    rw [← hv, State.notice, State.sendTrunk, if_pos (hlink.trans hup)]
    simp [State.emit, State.stamped]
  have hpause : ∀ o, o ∈ v.sent → o ∈ v.pauseRun.sent := by
    intro o ho
    have hend : ∀ r, o ∈ (v.abandon.endRun r).sent := fun r =>
      (State.sent_sendTrunk (v.abandon.updUpload _) _).subset (by simpa using ho)
    simp only [State.pauseRun]
    repeat' split
    · exact hend _
    · exact hend _
    · simpa using ho
    · exact ho
  refine ⟨by rw [ht]; simpa using hservice, ?_, ?_, fun hup => ?_, fun h1 h2 => ?_⟩
  · rw [ht, ← hv]
    simp
  · rw [ht, ← hv]
    simp
  · rw [ht]
    exact hpause _ (hsent hup)
  · have hrun : v.pauseRun = v := by
      have hu : v.upload = s.upload := by rw [← hv]; simp
      simp [State.pauseRun, hu, h1, h2]
    rw [ht, hrun, ← hv, State.notice, State.sendTrunk_eq]
    rfl

/-- R114, R122: the service state that a patience expiry leads to. -/
def Service.movedBy (v : Service) : ServiceState :=
  if v.state = .offline ∨ v.trip ≤ min 255 (v.count + 1) then .offline else .degraded

/-- R114, steps 1 and 2: a patience expiry counted and the service state evaluated. -/
theorem State.countTimeout_leaves (s : State) :
    let count := min 255 (s.service.count + 1)
    let moved := s.service.movedBy
    let t := s.countTimeout
    t.service.count = count ∧ t.service.state = moved ∧ t.service.patience = s.service.patience ∧
    t.service.policy = s.service.policy ∧
    t.service.stats = { s.service.stats with
      timeouts := min 4294967295 (s.service.stats.timeouts + 1)
      fallbacks := min 4294967295 (s.service.stats.fallbacks + 1) } ∧
    (moved ≠ s.service.state → s.service.linkUp = true →
      .trunk (s.stamped (.serviceState moved count)) ∈ t.sent) ∧
    (moved ≠ s.service.state → moved = .offline → s.service.linkUp = true →
      t.service.probeTimer = some s.service.interval) ∧
    t.stations = s.stations ∧ t.borrowers = s.borrowers ∧
    (s.upload.run ≠ .sending → s.upload.run ≠ .awaitReceipt → t = { s with service := t.service, sent := t.sent }) := by
  intro count moved t
  generalize hv : ((s.updService fun v => { v with count := satAdd 255 v.count 1 }).countService fun c =>
    { c with timeouts := sat32 c.timeouts 1, fallbacks := sat32 c.fallbacks 1 }) = v
  have hservice : v.service = { s.service with count := count, stats := { s.service.stats with
      timeouts := min 4294967295 (s.service.stats.timeouts + 1)
      fallbacks := min 4294967295 (s.service.stats.fallbacks + 1) } } := by
    rw [← hv]
    rfl
  have hrest : v = { s with service := v.service } := by
    rw [← hv]
    rfl
  have hstamped : ∀ x, v.stamped x = s.stamped x := fun x => by rw [hrest]; rfl
  have ht : t = v.reviewTimeout := by simp only [t, State.countTimeout, hv]
  by_cases hsame : moved = s.service.state
  · have htv : t = v := by
      rw [ht, State.reviewTimeout, hservice]
      by_cases hoff : s.service.state = .offline
      · exact if_pos hoff
      · have hdeg : ¬ s.service.trip ≤ count := fun h => hoff (hsame ▸ if_pos (.inr h))
        have hst : s.service.state = .degraded := by
          rw [← hsame]
          exact if_neg fun h => h.elim hoff hdeg
        rw [if_neg hoff, if_neg hdeg, State.setServiceState, if_pos (by rw [hservice]; exact hst)]
    rw [htv]
    refine ⟨by rw [hservice], by rw [hservice]; exact hsame.symm, by rw [hservice], by rw [hservice], by rw [hservice],
      fun h => absurd hsame h, fun h => absurd hsame h, by rw [hrest], by rw [hrest], fun _ _ => ?_⟩
    rw [hrest]
  · have hoff : s.service.state ≠ .offline := fun h => hsame ((if_pos (.inl h)).trans h.symm)
    have hnotOnline : moved ≠ .online := by
      simp only [moved, Service.movedBy]
      split <;> decide
    have htm : t = v.setServiceState moved := by
      rw [ht, State.reviewTimeout, hservice, if_neg hoff]
      by_cases htrip : s.service.trip ≤ count
      · rw [if_pos htrip, show moved = .offline from if_pos (.inr htrip)]
      · rw [if_neg htrip, show moved = .degraded from if_neg fun h => h.elim hoff htrip]
    obtain ⟨h1, h2, h3, h4, h5⟩ := State.setServiceState_moves (s := v) (st := moved)
      (by rw [hservice]; exact fun h => hsame h.symm) hnotOnline
    rw [← htm] at h1 h2 h3 h4 h5
    rw [hservice] at h1 h4
    rw [hstamped] at h4
    have hkeeps : ∀ w : Service, (w.enter moved).count = w.count ∧ (w.enter moved).state = moved ∧
        (w.enter moved).patience = w.patience ∧ (w.enter moved).policy = w.policy ∧ (w.enter moved).stats = w.stats := by
      intro w
      cases moved <;> exact ⟨rfl, rfl, rfl, rfl, rfl⟩
    obtain ⟨k1, k2, k3, k4, k5⟩ := hkeeps v.service
    rw [hservice] at k1 k2 k3 k4 k5
    refine ⟨by rw [h1, k1], by rw [h1, k2], by rw [h1, k3], by rw [h1, k4], by rw [h1, k5], fun _ => h4,
      fun _ hm hup => ?_, by rw [h2, hrest], by rw [h3, hrest], fun r1 r2 => ?_⟩
    · rw [h1, hm]
      simp [Service.enter, hup]
    · rw [h5 (by rw [hrest]; exact r1) (by rw [hrest]; exact r2), hrest]

/-! ### What a decision of an item leaves -/

/-- The service, the query table, and the next action held at station n: no decision of an item reaches them. -/
def State.linked (s : State) (n : StationNo) : Service × Vector QueryEntry 16 × NextAction :=
  (s.service, s.queries, (s.st n).ctx.next)

section
variable (s : State) (n : StationNo)

@[simp] theorem State.tone_linked (t : Tone) : (s.tone n t).linked n = s.linked n := by simp [State.linked]
@[simp] theorem State.display_linked (t : Tone) (i : Nat) : (s.display n t i).linked n = s.linked n := by
  simp [State.linked]
@[simp] theorem State.stick_linked (f : StickyFlags) : (s.stick f).linked n = s.linked n := rfl
@[simp] theorem State.setBorrower_linked (e : Borrower) : (s.setBorrower e).linked n = s.linked n := rfl
@[simp] theorem State.dropLoan_linked (k : Nat) : (s.dropLoan k).linked n = s.linked n := rfl
@[simp] theorem State.dropException_linked (k : Nat) : (s.dropException k).linked n = s.linked n := rfl
@[simp] theorem State.updItem_linked (i : Nat) (f : Item → Item) : (s.updItem n i f).linked n = s.linked n := by
  simp [State.linked]
@[simp] theorem State.updTallies_linked (f : Tallies → Tallies) : (s.updTallies n f).linked n = s.linked n := by
  simp [State.linked]
@[simp] theorem State.tallyRefusal_linked : (s.tallyRefusal n).linked n = s.linked n := by
  simp [State.tallyRefusal]

@[simp] theorem State.requestLevel_linked (l : Level) (i : Nat) (o : Option Origin) :
    (s.requestLevel n l i o).linked n = s.linked n := by
  have hu : ((s.requestLevel n l i o).st n).ctx.unheld = (s.st n).ctx.unheld := by
    simp [State.requestLevel, State.settleAlerts]
  simp only [State.linked, State.requestLevel_keeps, (Ctx.unheld_slip hu).2.1]

@[simp] theorem State.writeStation_linked (r : Record) : (s.writeStation n r).2.linked n = s.linked n := by
  have hnext : ((s.writeStation n r).2.st n).ctx.next = (s.st n).ctx.next := by
    have hwrite : ∀ r, ((s.write r).2.st n).ctx.next = (s.st n).ctx.next := fun r => by
      have h : ((s.write r).2.st n).ctx.unalarmed = (s.st n).ctx.unalarmed := by simp
      exact congrArg (·.next) h
    have key := hwrite { r with flags := r.flags.union (s.st n).ctx.stationFlags }
    simp only [State.writeStation]
    split <;> rename_i heq <;> rw [heq] at key
    · split
      · rw [State.updCtx_same, ← key]
        simp only
        split <;> rfl
      · exact key
    · exact key
  simp only [State.linked, State.writeStation_keeps, hnext]

@[simp] theorem State.journalFull_linked : (s.journalFull n).linked n = s.linked n := by simp [State.journalFull]
@[simp] theorem State.refuseFull_linked (i : Nat) : (s.refuseFull n i).linked n = s.linked n := by
  simp [State.refuseFull]
@[simp] theorem State.itemFound_linked (x : Item) : (s.itemFound n x).linked n = s.linked n := by simp [State.itemFound]

@[simp] theorem State.refuseItem_linked (i : Nat) (r : Reason) (d : DecidedBy) :
    (s.refuseItem n i r d).linked n = s.linked n := by
  simp only [State.refuseItem]
  split <;> simp

@[simp] theorem State.noteLoan_linked (d : DecidedBy) (u : Bool) (l : PendingLoan) :
    (s.noteLoan d u l).linked n = s.linked n := by
  simp only [State.noteLoan]
  repeat' split
  all_goals rfl

@[simp] theorem State.postLoan_linked (f : Nat → Nat) : (s.postLoan n f).linked n = s.linked n := by
  simp only [State.postLoan]
  repeat' split
  all_goals simp [State.linked]

@[simp] theorem State.grantException_linked (x : Item) (b : Nat) : (s.grantException n x b).linked n = s.linked n := by
  simp only [State.grantException]
  repeat' split
  all_goals simp

@[simp] theorem State.grant_linked (i : Nat) (d : DecidedBy) (offline atOnce : Bool) :
    (s.grant n i d offline atOnce).linked n = s.linked n := by
  have hwith : ∀ x b c index r, (s.grantWith n i x b c index r d offline atOnce).linked n = s.linked n := by
    intro x b c index r
    simp only [State.grantWith]
    split <;> rename_i heq <;> cases snd_of_eq heq <;> simp
  simp only [State.grant]
  repeat' split
  all_goals simp [hwith]

@[simp] theorem State.postDischarge_linked (b : Option Nat) (f : Option FineResult) :
    (s.postDischarge b f).1.linked n = s.linked n := by
  rw [(s.postDischarge_posts b f).2.2]
  rfl

@[simp] theorem State.discharge_linked (i : Nat) (d : Discharge) : (s.discharge n i d).linked n = s.linked n := by
  simp only [State.discharge]
  split
  · rfl
  · split <;> rename_i heq <;> cases snd_of_eq heq <;> simp

@[simp] theorem State.dischargeLoan_linked (i : Nat) (l : PendingLoan) : (s.dischargeLoan n i l).linked n = s.linked n := by
  simp only [State.dischargeLoan]
  repeat' split
  all_goals simp

@[simp] theorem State.takeOutcome_linked (i : Nat) (o : ItemOutcome) : (s.takeOutcome n i o).linked n = s.linked n := by
  have hreplace : ∀ cls, (s.replaceClass n i cls).linked n = s.linked n := by
    intro cls
    cases cls <;> simp [State.replaceClass]
  have honLoan : ∀ o, (s.dischargeOnLoan n i o).linked n = s.linked n := by
    intro o
    simp only [State.dischargeOnLoan]
    repeat' split
    all_goals simp
  simp only [State.takeOutcome, State.applyOutcome]
  repeat' split
  · simp
  · cases o <;> simp [State.applyCharge, hreplace]
  · cases o <;> simp [State.applyDischarge, honLoan]
  · rfl

end

/-- R54, R57: a check that goes on leaves the service and the query table. -/
theorem State.checkWithout_link (s : State) (n : StationNo) (b : Nat) (d : DecidedBy) :
    (s.checkWithout n b d).service = s.service ∧ (s.checkWithout n b d).queries = s.queries := by
  have haccept : ∀ (s : State) e, (s.acceptBorrower n e).service = s.service ∧ (s.acceptBorrower n e).queries = s.queries := by
    intro s e
    rw [(s.acceptBorrower_reaches n e).2.2.2.1]
    exact ⟨rfl, rfl⟩
  have hcreate : ∀ {s v : State} {e : Borrower}, s.createBorrower e = some v → v.service = s.service ∧ v.queries = s.queries := by
    intro s v e h
    cases hm : s.makeRoom with
    | none =>
      simp only [State.createBorrower, hm] at h
      cases h
    | some w =>
      have hw : w.service = s.service ∧ w.queries = s.queries := by
        simp only [State.makeRoom] at hm
        repeat' split at hm
        all_goals cases hm
        all_goals exact ⟨rfl, rfl⟩
      simp only [State.createBorrower, hm] at h
      split at h
      all_goals cases h
      all_goals exact hw
  simp only [State.checkWithout]
  split
  · simp only [State.acceptEntry, haccept]
    split <;> exact ⟨rfl, rfl⟩
  · simp only [State.decideStranger]
    split
    · simp [State.refuseBorrower, State.endRefused, State.tallyRefusal]
    · split <;> rename_i heq <;> cases snd_of_eq heq
      · simp [State.refuseBorrowerFull, State.endRefused, State.tallyRefusal]
      · split <;> rename_i hc
        · split at hc
          · simp only [haccept, hcreate hc]
            simp
          · cases hc
        · simp [State.acceptUntracked, haccept]

/-! ### What a lapse leaves of the link -/

/-- R114: from s to u nothing that has been sent is gone, the service keeps all but its counts of queries sent and of
fallbacks, and the entry of tag g stays, where it is not FREE. -/
structure State.onward (g : Tag) (s u : State) : Prop where
  sent : s.sent <+: u.sent
  service : ∃ a b, u.service = { s.service with stats := { s.service.stats with sent := a, fallbacks := b } }
  query : s.queries[g].state ≠ .free → u.queries[g] = s.queries[g]

variable {g : Tag} {v : State}

theorem State.onward.of_link (hsent : s.sent <+: u.sent) (h : u.service = s.service ∧ u.queries = s.queries) :
    s.onward g u :=
  ⟨hsent, ⟨_, _, h.1⟩, fun _ => by rw [h.2]⟩

theorem State.onward.of_linked (hsent : s.sent <+: u.sent) (h : u.linked n = s.linked n) : s.onward g u :=
  .of_link hsent ⟨congrArg (·.1) h, congrArg (·.2.1) h⟩

theorem State.onward.trans (h : s.onward g u) (h' : u.onward g v) : s.onward g v := by
  obtain ⟨a, b, hs⟩ := h.service
  obtain ⟨a', b', hs'⟩ := h'.service
  refine ⟨h.sent.trans h'.sent, ⟨a', b', by rw [hs', hs]⟩, fun hg => ?_⟩
  have := h.query hg
  rw [h'.query (by rw [this]; exact hg), this]

/-- R110: a query is asked under a tag that is FREE. -/
theorem State.onward.ask (s : State) (q : Question) (cls : Nat) : s.onward g (s.ask q cls).2 := by
  cases hf : s.freeTag with
  | none =>
    rw [State.ask_full hf]
    exact ⟨List.prefix_refl _, ⟨_, _, rfl⟩, fun _ => rfl⟩
  | some t =>
    rw [State.ask_free hf]
    refine ⟨List.prefix_append _ _, ⟨_, _, rfl⟩, fun hg => ?_⟩
    have hfree : s.queries[t].state = .free := by
      simpa using List.find?_some (p := fun t : Tag => decide (s.queries[t].state = .free)) hf
    have hne : t ≠ g := fun e => hg (e ▸ hfree)
    exact Vector.getElem_set_ne t.isLt g.isLt fun e => hne (Fin.ext e)

theorem State.onward.startCheck (s : State) (n : StationNo) (b : Nat) : s.onward g (s.startCheck n b) := by
  have hwithout : ∀ (s : State) d, s.onward g (s.checkWithout n b d) := fun s d =>
    .of_link (s.sent_checkWithout n b d) (s.checkWithout_link n b d)
  have hask : s.onward g (s.askLookup n b) := by
    have h := State.onward.ask (g := g) s ⟨n, .borrowerLookup, b, none, none⟩ 0
    simp only [State.askLookup]
    split <;> rename_i heq <;> rw [heq] at h
    · exact h.trans (.of_link (List.prefix_refl _) ⟨rfl, rfl⟩)
    · exact h.trans (hwithout _ _)
  simp only [State.startCheck]
  repeat' split
  · exact hwithout s _
  · have hs := hwithout s .localPart
    rename_i e he _
    rwa [State.checkWithout_standing he] at hs
  · exact hask
  · exact hask

theorem State.onward.applyStaged (s : State) (n : StationNo) : s.onward g (s.applyStaged n) :=
  .of_link (s.sent_applyStaged n) (by simp)

theorem State.onward.tone (s : State) (n : StationNo) (t : Tone) : s.onward g (s.tone n t) :=
  .of_link (s.sent_tone n t) (by simp)

theorem State.onward.borrowerInIdle (s : State) (n : StationNo) (b : Nat) : s.onward g (s.borrowerInIdle n b) := by
  simp only [State.borrowerInIdle]
  repeat' split
  · exact .tone s n _
  · exact .tone s n _
  · exact .tone s n _
  · generalize hu : State.updCtx (State.updSlips s n _) n _ = u
    have h : s.onward g u := .of_link (by rw [← hu]; exact List.prefix_refl _) (by rw [← hu]; exact ⟨rfl, rfl⟩)
    exact ((h.trans (.tone u n _)).trans (.startCheck _ n b)).trans (.applyStaged _ n)

theorem State.onward.decideDischarge (s : State) (n : StationNo) (i : Nat) : s.onward g (s.decideDischarge n i) := by
  have htake : ∀ (s : State) o, s.onward g (s.takeOutcome n i o) := fun s o =>
    .of_linked (s.sent_takeOutcome n i o) (s.takeOutcome_linked n i o)
  simp only [State.decideDischarge]
  split
  · exact .of_link (List.prefix_refl _) ⟨rfl, rfl⟩
  · split
    · exact .of_linked (s.sent_dischargeLoan n i _) (s.dischargeLoan_linked n i _)
    · split
      · exact htake s _
      · have h := State.onward.ask (g := g) s (s.itemQuestion n i .dischargeRequest ‹Item›) 0
        split <;> rename_i heq <;> rw [heq] at h
        · exact h.trans (htake _ _)
        · exact h.trans (.of_link (List.prefix_refl _) ⟨rfl, rfl⟩)

theorem State.onward.requestLevel (s : State) (n : StationNo) (l : Level) (i : Nat) (o : Option Origin) :
    s.onward g (s.requestLevel n l i o) :=
  .of_linked (s.sent_requestLevel n l i o) (s.requestLevel_linked n l i o)

theorem State.onward.openRun (s : State) (n : StationNo) (t : Tone) : s.onward g (s.openRun n t) := by
  rw [State.openRun_eq]
  exact .of_link (State.sent_tone (s.upd n _) n t) (by simp)

theorem State.onward.itemInIdle (s : State) (n : StationNo) (k c : Nat) (m : Bool) : s.onward g (s.itemInIdle n k c m) := by
  have hadd : ∀ (s : State) x, s.onward g (s.addEntry n x) := fun s x =>
    .of_link (List.prefix_refl _) ⟨rfl, rfl⟩
  have hdrop : ∀ (s : State) k, s.onward g (s.dropException k) := fun s k =>
    .of_link (List.prefix_refl _) ⟨rfl, rfl⟩
  have hfound : ∀ (s : State) x, s.onward g (s.itemFound n x) := fun s x =>
    .of_linked (s.sent_itemFound n x) (s.itemFound_linked n x)
  have hnew : ∀ s : State, s.onward g (s.dischargeNew n k c m) := by
    intro s
    simp only [State.dischargeNew]
    split
    · exact ((hadd s _).trans (.decideDischarge _ n _)).trans (.requestLevel _ n _ _ _)
    · exact ((((hadd s (Item.new k c m)).trans (hdrop _ k)).trans (hfound _ _)).trans (.decideDischarge _ n _)).trans
        (.requestLevel _ n _ _ _)
    · exact (hadd s _).trans (.decideDischarge _ n _)
  simp only [State.itemInIdle]
  split
  · exact .tone s n _
  · exact (State.onward.openRun s n .none).trans (hnew _)

theorem State.settle_close (s : State) (n : StationNo) :
    ((s.withdrawBlocks n).settleSlip n).service = s.service ∧ ((s.withdrawBlocks n).settleSlip n).queries = s.queries := by
  have hw : (s.withdrawBlocks n).service = s.service ∧ (s.withdrawBlocks n).queries = s.queries := by
    simp [State.withdrawBlocks, Level.blocks]
  simp only [State.settleSlip]
  split
  · simpa using hw
  · simpa using hw

theorem State.onward.closeIfDone (s : State) (n : StationNo) : s.onward g (s.closeIfDone n) := by
  have hnext : ∀ (s : State) a, s.onward g (s.takeNext n a) := by
    intro s a
    cases a with
    | none => exact .of_link (List.prefix_refl _) ⟨rfl, rfl⟩
    | borrower b => exact .borrowerInIdle s n b
    | item k c m => exact .itemInIdle s n k c m
    | ret => exact .openRun s n .accept
  simp only [State.closeIfDone, State.completeClose]
  split
  · have h : s.onward g ((s.withdrawBlocks n).settleSlip n) :=
      .of_link ((s.sent_withdrawBlocks n).trans (State.sent_settleSlip _ n)) (s.settle_close n)
    generalize (s.withdrawBlocks n).settleSlip n = u at h ⊢
    have hcleared : u.onward g (u.updCtx n Ctx.cleared) := .of_link (List.prefix_refl _) ⟨rfl, rfl⟩
    generalize u.updCtx n Ctx.cleared = v at hcleared ⊢
    exact (((h.trans hcleared).trans (.tone v n .none)).trans (.applyStaged _ n)).trans (hnext _ _)
  · exact .of_link (List.prefix_refl _) ⟨rfl, rfl⟩

/-- R41: a close without a next action asks nothing. -/
theorem State.closeIfDone_service (h : (s.st n).ctx.tx ≠ .closing ∨ (s.st n).ctx.next = .none) :
    (s.closeIfDone n).service = s.service := by
  simp only [State.closeIfDone]
  split
  · rename_i hc
    have hnext := h.resolve_left fun hne => hne hc.1
    have hu : (((s.withdrawBlocks n).settleSlip n).st n).ctx.next = .none := by
      have hunheld : (((s.withdrawBlocks n).settleSlip n).st n).ctx.unheld = (s.st n).ctx.unheld := by simp
      exact (Ctx.unheld_slip hunheld).2.1.trans hnext
    simp only [State.completeClose, hu, State.takeNext]
    simpa using (s.settle_close n).1
  · rfl

/-- R114, step 4: what the decision of the station leaves. -/
theorem State.handLapse_onward (s : State) (k : Tag × Nat) (q : Question) : s.onward g (s.handLapse k q) ∧
    ((s.st q.station).ctx.tx ≠ .closing ∨ (s.st q.station).ctx.next = .none → (s.handLapse k q).service = s.service) := by
  have hrefl : s.onward g s := .of_link (List.prefix_refl _) ⟨rfl, rfl⟩
  have hitem : ∀ p, s.onward g (s.handItem q.station p k .lapse) ∧
      ((s.st q.station).ctx.tx ≠ .closing ∨ (s.st q.station).ctx.next = .none →
        (s.handItem q.station p k .lapse).service = s.service) := by
    intro p
    simp only [State.handItem]
    repeat' split
    · have hlinked := s.takeOutcome_linked q.station (p - 1) .lapse
      refine ⟨(State.onward.of_linked (s.sent_takeOutcome _ _ _) hlinked).trans (.closeIfDone _ _), fun h => ?_⟩
      rw [State.closeIfDone_service, show (s.takeOutcome q.station (p - 1) .lapse).service = s.service from
        congrArg (·.1) hlinked]
      refine h.imp (fun ht hc => ht ?_) fun hn => (show _ = (s.st q.station).ctx.next from congrArg (·.2.2) hlinked).trans hn
      simpa using hc
    · exact ⟨hrefl, fun _ => rfl⟩
    · exact ⟨hrefl, fun _ => rfl⟩
  simp only [State.handLapse]
  split
  · split
    · have hlink := s.checkWithout_link q.station ‹Nat› .fallback
      exact ⟨(State.onward.of_link (s.sent_checkWithout _ _ _) hlink).trans (.applyStaged _ _), fun _ => by
        simpa using hlink.1⟩
    · exact ⟨hrefl, fun _ => rfl⟩
  · exact hitem _
  · exact ⟨hrefl, fun _ => rfl⟩

end Sys2Proof.Machine
end

section
/-! SUPPORT. The settling of O24. -/

namespace Sys2Proof.Machine

variable {s : State} {t : Tag} {q : Question}

/-- R115: the decision named at a lapse reads the clock, the borrower table and the stranger policy. -/
theorem State.lapseDecision_congr {u : State} (hc : u.clock = s.clock) (hb : u.borrowers = s.borrowers)
    (hp : u.service.policy = s.service.policy) (q : Question) : u.lapseDecision q = s.lapseDecision q := by
  have hfind : u.borrower? q.target = s.borrower? q.target := by rw [State.borrower?, State.borrower?, hb]
  cases hk : q.kind with
  | borrowerLookup =>
    simp only [State.lapseDecision, hk]
    exact if_congr (by rw [hfind, hp]) rfl rfl
  | chargeRequest => simp only [State.lapseDecision, hk]
  | dischargeRequest => simp only [State.lapseDecision, State.now, hk, hc]

/-- R114: a patience expiry is counted, the query lapses, and its station decides. -/
theorem exec_expiry (hw : s.queries[t].state = .waiting q 0) :
    exec (.queryPatienceExpiry t) s = .next ((s.fresh.countTimeout.setQuery t
      ⟨s.queries[t].gen, .lapsed q s.service.patience (s.lapseDecision q)⟩).handLapse (t, s.queries[t].gen) q) := by
  refine congrArg Host.Outcome.next ?_
  obtain ⟨-, -, hpatience, hpolicy, -, -, -, -, hborrowers, -⟩ := s.fresh.countTimeout_leaves
  have hqueries : s.fresh.countTimeout.queries = s.queries := by simp
  have hdecision : s.fresh.countTimeout.lapseDecision q = s.lapseDecision q :=
    State.lapseDecision_congr (by simp) (hborrowers.trans rfl) (hpolicy.trans rfl) q
  have hstate : s.fresh.queries[t].state = .waiting q 0 := hw
  have hlapse : s.fresh.countTimeout.lapse t (s.lapseDecision q) = s.fresh.countTimeout.setQuery t
      ⟨s.queries[t].gen, .lapsed q s.service.patience (s.lapseDecision q)⟩ := by
    simp only [State.lapse, hqueries, hw, hpatience]
    rfl
  simp only [State.patienceExpired, hstate, hdecision, hlapse, hqueries]

/-- R122: with the service OFFLINE a patience expiry counts and nothing else. -/
theorem State.countTimeout_offline (h : s.service.state = .offline) : s.countTimeout = { s with service := { s.service with
    count := min 255 (s.service.count + 1)
    stats := { s.service.stats with
      timeouts := min 4294967295 (s.service.stats.timeouts + 1)
      fallbacks := min 4294967295 (s.service.stats.fallbacks + 1) } } } := by
  have hoff : ((s.updService fun v => { v with count := satAdd 255 v.count 1 }).countService fun c =>
    { c with timeouts := sat32 c.timeouts 1, fallbacks := sat32 c.fallbacks 1 }).service.state = .offline := h
  simp only [State.countTimeout, State.reviewTimeout, if_pos hoff]
  rfl

end Sys2Proof.Machine

namespace Sys2Proof.Proofs
open Sys2Proof Sys2Proof.Machine

/-- R114, R115, R122: what every patience expiry leaves. -/
theorem expiryCounts {t : Tag} {q : Question} {s : State} (hw : s.queries[t].state = .waiting q 0) :
    ∃ u, exec (.queryPatienceExpiry t) s = .next u ∧ u.service.count = min 255 (s.service.count + 1) ∧
      u.service.state = s.service.movedBy ∧
      u.service.stats.timeouts = min 4294967295 (s.service.stats.timeouts + 1) ∧
      u.service.stats.matched = s.service.stats.matched ∧
      ((s.st q.station).ctx.tx ≠ .closing ∨ (s.st q.station).ctx.next = .none →
        u.service.stats.fallbacks = min 4294967295 (s.service.stats.fallbacks + 1)) ∧
      u.queries[t] = ⟨s.queries[t].gen, .lapsed q s.service.patience (s.lapseDecision q)⟩ ∧
      (s.service.movedBy ≠ s.service.state → s.service.linkUp = true →
        .trunk (s.stamped (.serviceState s.service.movedBy (min 255 (s.service.count + 1)))) ∈ u.sent) ∧
      (s.service.movedBy ≠ s.service.state → s.service.movedBy = .offline → s.service.linkUp = true →
        u.service.probeTimer = some s.service.interval) := by
  obtain ⟨h1, h2, -, -, h3, h4, h5, h6, -, -⟩ := s.fresh.countTimeout_leaves
  generalize hv : s.fresh.countTimeout.setQuery t ⟨s.queries[t].gen, .lapsed q s.service.patience (s.lapseDecision q)⟩ = v
  have hexec := exec_expiry hw
  rw [hv] at hexec
  obtain ⟨⟨hsent, ⟨a, b, hservice⟩, hquery⟩, hsame⟩ := v.handLapse_onward (g := t) (t, s.queries[t].gen) q
  have hvs : v.service = s.fresh.countTimeout.service := by rw [← hv]; rfl
  have hvsent : v.sent = s.fresh.countTimeout.sent := by rw [← hv]; rfl
  have hvst : ∀ m, v.st m = s.st m := fun m => by
    rw [← hv]
    exact congrArg (·[m]) h6
  have hvq : v.queries[t] = ⟨s.queries[t].gen, .lapsed q s.service.patience (s.lapseDecision q)⟩ := by
    rw [← hv]
    exact Vector.getElem_set_self _
  refine ⟨_, hexec, ?_, ?_, ?_, ?_, fun hc => ?_, ?_, fun hm hup => ?_, fun hm hoff hup => ?_⟩
  · rw [hservice, hvs]
    exact h1
  · rw [hservice, hvs]
    exact h2
  · rw [hservice, hvs, h3]
    rfl
  · rw [hservice, hvs, h3]
    rfl
  · rw [hsame (by rw [hvst]; exact hc), hvs, h3]
    rfl
  · rw [hquery (by rw [hvq]; simp), hvq]
  · exact hsent.subset (hvsent ▸ h4 hm hup)
  · rw [hservice, hvs]
    exact h5 hm hoff hup

/-- R20, R114: a charge's lapse at a station whose hold condition holds, with the service OFFLINE. -/
theorem expiryParks {t : Tag} {q : Question} {p : Nat} {x : Item} {s : State} (hw : s.queries[t].state = .waiting q 0)
    (hk : q.kind = .chargeRequest) (hpos : q.position = some (p + 1)) (hx : s.entry q.station p = some x)
    (ha : x.state = .awaiting) (hq : x.query = some (t, s.queries[t].gen)) (hh : (s.st q.station).alerts.hold = true)
    (hoff : s.service.state = .offline) : exec (.queryPatienceExpiry t) s = .next
      (({ s with
          queries := s.queries.set t ⟨s.queries[t].gen, .lapsed q s.service.patience .grant⟩
          service := { s.service with
            count := min 255 (s.service.count + 1)
            stats := { s.service.stats with
              timeouts := min 4294967295 (s.service.stats.timeouts + 1)
              fallbacks := min 4294967295 (s.service.stats.fallbacks + 1) } } }.updItem q.station p fun x =>
        { x with waiting := some .reply, query := none, parked := some .lapse }).sending []) := by
  have hdecision : s.lapseDecision q = .grant := by simp only [State.lapseDecision, hk]
  rw [exec_expiry hw, hdecision, State.countTimeout_offline (s := s.fresh) hoff]
  generalize hv : State.setQuery _ t _ = v
  have hlapse : v.handLapse (t, s.queries[t].gen) q = v.handItem q.station (p + 1) (t, s.queries[t].gen) .lapse := by
    simp only [State.handLapse, hk, hpos]
  rw [hlapse, State.handItem_parks (x := x) (by rw [← hv]; exact hx) hq ha (by rw [← hv]; exact hh), ← hv]
  rfl

section
variable {t : Tag} {q : Question} {p : Fin 128} {s v : State}
  (hv : v = { s with service := v.service, queries := v.queries, sent := v.sent })
  (hh : (s.st q.station).alerts.hold = false) (hp : s.ready p)
include hv hh hp

/-- R28, R29, R114: a charge that lapses is granted by FALLBACK. -/
theorem lapseGrants {i : Nat} {x : Item} (hpos : q.position = some (i + 1)) (hx : s.entry q.station i = some x)
    (hq : x.query = some (t, s.queries[t].gen)) {b index : Nat} {e : Borrower} {cal : Calendar} {rule : Rule}
    (hk : q.kind = .chargeRequest) (hck : (s.st q.station).ctx.kind = some .charge)
    (ho : (s.st q.station).ctx.tx = .opened) (hnone : s.exception? x.number = none)
    (hb : (s.st q.station).ctx.borrower = some b) (he : s.borrower? b = some e) (hc : s.activeBank.calendar? = some cal)
    (hindex : s.ruleIndex? x.cls e.category = some index) (hrule : s.rule? index = some rule)
    (hroom : s.loans.length < 512) :
    let n := q.station
    let d := computeDue cal rule s.now e.expiry
    let u := v.handLapse (t, s.queries[t].gen) q
    ∃ (y : Item) (r : Record), u.entry n i = some y ∧ y.number = x.number ∧ y.state = .granted ∧
      y.due = some d.due ∧ y.decidedBy = some .fallback ∧ y.flags = x.flags.union d.flags ∧
      r.kind = .charge ∧ r.station = some n ∧ r.decidedBy = .fallback ∧ r.borrower = some b ∧
      r.item = some x.number ∧ r.due = some d.due ∧ r.ruleIndex = some index ∧ r.bankGen = some s.generation ∧
      u.journal = (s.recorded p r).journal ∧
      u.borrower? b = some { e with onLoan := min 255 (e.onLoan + 1), changed := true, inFlight := false } ∧
      u.loans = (s.loans.filter fun l => l.item != x.number) ++ [⟨x.number, b, d.due, index, s.journal.counter⟩] ∧
      (u.st n).tallies = { (s.st n).tallies with charges := min 4294967295 ((s.st n).tallies.charges + 1) } := by
  intro n d u
  have hvst : v.st n = s.st n := by rw [hv]; rfl
  have hvp : v.ready p := State.ready_of hp (by rw [hv]) (by rw [hv]) (by rw [hv])
  have hvx : v.entry n i = some x := by rw [hv]; exact hx
  have hnow : v.now = s.now := by rw [hv]; rfl
  have hgen : v.generation = s.generation := by rw [hv]
  have hgrant := State.grant_unlisted (d := .fallback) (offline := false) (atOnce := false) (b := b) (e := e) (c := cal)
    (index := index) (rule := rule) hvp hvx (by rw [hvst]; exact hb) (by rw [hv]; exact he) (by rw [hv]; exact hc)
    (by rw [hv]; exact hindex) (by rw [hv]; exact hrule) (.inr (by rw [hv]; exact hroom)) (by rw [hv]; exact hnone)
  rw [hnow] at hgrant
  obtain ⟨h1, -, h2, h3, h4, h5, -⟩ := hgrant
  have hu : u = v.grant n i .fallback false false := by
    simp only [u, State.handLapse, hk, hpos]
    rw [State.handItem_applies hvx hq (by rw [hvst]; exact hh), State.applyOutcome, hvst, hck]
    refine State.closeIfDone_of_ne ?_
    rw [show v.applyCharge n i .lapse = v.grant n i .fallback false false from rfl, h1, hvst]
    simp [n, ho]
  rw [hu]
  let charge := v.chargeOf n ⟨x, b, d, index, rule, .fallback, false, false⟩
  refine ⟨_, { charge with flags := charge.flags.union (v.st n).ctx.stationFlags }, h2, rfl, rfl, rfl, rfl, ?_, rfl,
    rfl, rfl, rfl, rfl, rfl, rfl, congrArg some hgen, h3.trans (State.recorded_journal (by rw [hv]) _ _), h4, ?_, ?_⟩
  · exact congrArg (ResultFlags.union · d.flags) (ResultFlags.union_empty x.flags)
  · rw [h5, hv, if_neg (by decide)]
  · rw [h1, hvst]

/-- R34, R92, R114: a discharge that lapses is decided by FALLBACK with FINE_PENDING. -/
theorem lapseDischarges {i : Nat} {x : Item} (hpos : q.position = some (i + 1)) (hx : s.entry q.station i = some x)
    (hq : x.query = some (t, s.queries[t].gen)) (hk : q.kind = .dischargeRequest)
    (hck : (s.st q.station).ctx.kind = some .discharge) (hr : (s.st q.station).ctx.tx = .returns) :
    let n := q.station
    let u := v.handLapse (t, s.queries[t].gen) q
    ∃ y, u.entry n i = some y ∧ y.number = x.number ∧ s.discharged u n p y .fallback none none none none ∧
      y.flags = x.flags.union { finePending := true } ∧ u.loans = s.loans := by
  intro n u
  have hvst : v.st n = s.st n := by rw [hv]; rfl
  have hvp : v.ready p := State.ready_of hp (by rw [hv]) (by rw [hv]) (by rw [hv])
  have hvx : v.entry n i = some x := by rw [hv]; exact hx
  obtain ⟨sat, hsat, h1, h2, -, -, h3, -, -, -, h4⟩ := State.discharge_ready hvp hvx (.pending .fallback false false)
  have hu : u = v.discharge n i (.pending .fallback false false) := by
    simp only [u, State.handLapse, hk, hpos]
    rw [State.handItem_applies hvx hq (by rw [hvst]; exact hh), State.applyOutcome, hvst, hck]
    refine State.closeIfDone_of_ne ?_
    rw [show v.applyDischarge n i .lapse = v.discharge n i (.pending .fallback false false) from rfl, h3, hvst]
    simp [n, hr]
  rw [hu]
  refine ⟨_, h2, rfl, State.discharged_congr h1 ?_ ⟨rfl, rfl, rfl⟩, ?_, ?_⟩
  · rw [hv]
    exact ⟨rfl, rfl, rfl, rfl⟩
  · rw [hsat rfl]
    exact ResultFlags.union_empty _
  · rw [h4, hv]

omit hh hp in
theorem lapseChecks {b : Nat} (hk : q.kind = .borrowerLookup)
    (hlookup : (s.st q.station).ctx.lookup = some (t, s.queries[t].gen)) (hb : (s.st q.station).ctx.borrower = some b) :
    v.handLapse (t, s.queries[t].gen) q = State.applyStaged (v.checkWithout q.station b .fallback) q.station := by
  have hvst : v.st q.station = s.st q.station := by rw [hv]; rfl
  have hchecked : v.checkedBy q.station (t, s.queries[t].gen) = some b := by
    simp only [State.checkedBy, hvst, hlookup, if_true, hb]
  simp only [State.handLapse, hk, hchecked]

variable {b : Nat} (hk : q.kind = .borrowerLookup)
  (hlookup : (s.st q.station).ctx.lookup = some (t, s.queries[t].gen)) (hb : (s.st q.station).ctx.borrower = some b)
  (htx : (s.st q.station).ctx.tx = .checking)
include hk hlookup hb htx

omit hp in
/-- R55: a check that lapses goes on from the entry that stands. -/
theorem lapseOpens {e : Borrower} (he : s.borrower? b = some e) (hnone : s.reasons e = []) :
    let n := q.station
    let u := v.handLapse (t, s.queries[t].gen) q
    ((u.st n).ctx.tx = .opened ∧ (u.st n).ctx.lookup = none ∧ (u.st n).ctx.borrower = some b ∧
      (u.st n).ctx.timer = .running (s.st n).ctx.period) ∧ u.borrowers = s.borrowers ∧ u.journal = s.journal := by
  intro n u
  have hvst : v.st n = s.st n := by rw [hv]; rfl
  have hvb : v.borrower? b = some e := by rw [hv]; exact he
  generalize hz : (if e.origin = .learned then v.touch e.number else v) = z
  have hzrest : z = { v with recency := z.recency } := by
    rw [← hz]
    split <;> rfl
  have hzst : z.st n = s.st n := by rw [hzrest]; exact hvst
  have hu : u = State.applyStaged (z.acceptBorrower n e) n := by
    simp only [u]
    rw [lapseChecks hv hk hlookup hb, State.checkWithout_standing hvb, State.acceptEntry, hz]
  have hzreasons : z.reasons e = [] := by
    rw [← hnone]
    exact State.reasons_congr (by rw [hzrest, hv]) (by rw [hzrest, hv]) (by rw [hzrest, hv]) (by rw [hzrest, hv])
      (by rw [hzrest, hv]) e
  obtain ⟨h1, h2, h3, h4, h5⟩ := acceptBorrower_ends (n := n) hzreasons (by rw [hzst]; exact htx) (by rw [hzst]; exact hh)
  rw [← hu] at h1 h2 h3 h4 h5
  refine ⟨⟨h1, h2, ?_, ?_⟩, ?_, ?_⟩
  · rw [h3, hzst]
    exact hb
  · rw [h4, hzst]
  · rw [h5, hzrest, hv]
  · rw [h5, hzrest, hv]

omit hh htx in
/-- R57: a stranger's check that lapses under the policy REFUSE. -/
theorem lapseRefuses (hnone : s.borrower? b = none) (hpol : v.service.policy = .refuse) :
    let n := q.station
    let u := v.handLapse (t, s.queries[t].gen) q
    ∃ r : Record, r.kind = .refusal ∧ r.station = some n ∧ r.decidedBy = .fallback ∧ r.borrower = some b ∧
      r.reason = some .stranger ∧ u.journal = (s.recorded p r).journal ∧
      (u.st n).tallies = ((s.refusalCounted n).st n).tallies ∧ (u.st n).ctx = (s.st n).ctx.cleared ∧
      u.borrowers = s.borrowers := by
  intro n u
  have hvst : v.st n = s.st n := by rw [hv]; rfl
  have hvp : v.ready p := State.ready_of hp (by rw [hv]) (by rw [hv]) (by rw [hv])
  have hvb : v.borrower? b = none := by rw [hv]; exact hnone
  have hu : u = State.applyStaged (v.refuseBorrower n .stranger .fallback) n := by
    simp only [u]
    rw [lapseChecks hv hk hlookup hb, State.checkWithout_stranger hvb, State.decideStranger_refuses hpol]
  obtain ⟨h1, h2, h3, h4⟩ := refuseBorrower_ends (n := n) hvp .stranger .fallback
  rw [← hu] at h1 h2 h3 h4
  refine ⟨v.refusalOf n .stranger .fallback, rfl, rfl, rfl, ?_, rfl, h1.trans (State.recorded_journal (by rw [hv]) _ _),
    ?_, by rw [h3, hvst], by rw [h4, hv]⟩
  · exact (congrArg (fun t : Station => t.ctx.borrower) hvst).trans hb
  · rw [h2, hvst]
    simp [State.refusalCounted]

/-- R57: a stranger's check that lapses under the policy ADMIT. -/
theorem lapseAdmits (hnone : s.borrower? b = none) (hpol : v.service.policy = .admits)
    (hroom : s.borrowers.length < 4096) (hreasons : s.reasons (s.stranger b) = []) :
    let n := q.station
    let u := v.handLapse (t, s.queries[t].gen) q
    ∃ r : Record, r.kind = .borrowerNew ∧ r.station = some n ∧ r.decidedBy = .fallback ∧ r.borrower = some b ∧
      u.journal = (s.recorded p r).journal ∧
      ((u.st n).ctx.tx = .opened ∧ (u.st n).ctx.lookup = none ∧ (u.st n).ctx.borrower = some b ∧
        (u.st n).ctx.timer = .running (s.st n).ctx.period) ∧ u.borrower? b = some (s.stranger b) ∧
      ∀ k, k ≠ b → u.borrower? k = s.borrower? k := by
  intro n u
  have hvst : v.st n = s.st n := by rw [hv]; rfl
  have hvp : v.ready p := State.ready_of hp (by rw [hv]) (by rw [hv]) (by rw [hv])
  have hvb : v.borrower? b = none := by rw [hv]; exact hnone
  have he : v.stranger b = s.stranger b := by rw [hv]; rfl
  generalize hr : ({ v.record .borrowerNew (some n) with decidedBy := .fallback, borrower := some b } : Record) = r
  generalize hz : (((v.journaled n p r).setBorrower (v.stranger b)).mapCtx fun c => c.track b) = z
  have hu : u = State.applyStaged (z.acceptBorrower n (v.stranger b)) n := by
    simp only [u]
    rw [lapseChecks hv hk hlookup hb, State.checkWithout_stranger hvb, State.decideStranger_admits hpol
      (by rw [hv]; exact hroom) hvp, hr, hz]
  have hztx : (z.st n).ctx.tx = .checking ∧ (z.st n).ctx.borrower = some b ∧ (z.st n).ctx.period = (s.st n).ctx.period ∧
      (z.st n).alerts = (s.st n).alerts := by
    have htrack : ∀ c : Ctx, (c.track b).tx = c.tx ∧ (c.track b).borrower = c.borrower ∧ (c.track b).period = c.period := by
      intro c
      simp only [Ctx.track]
      split <;> exact ⟨rfl, rfl, rfl⟩
    have hopens : r.opens = true := by rw [← hr]; rfl
    rw [← hz, State.mapCtx_st, State.setBorrower_st, State.journaled_st, hvst, if_pos hopens]
    simp [htrack, htx, hb, n]
  obtain ⟨ht1, ht2, ht3, ht4⟩ := hztx
  have hzreasons : z.reasons (v.stranger b) = [] := by
    rw [he, ← hreasons]
    exact State.reasons_congr (by rw [← hz, hv]; rfl) (by rw [← hz, hv]; rfl) (by rw [← hz, hv]; rfl)
      (by rw [← hz, hv]; rfl) (by rw [← hz, hv]; rfl) _
  obtain ⟨h1, h2, h3, h4, h5⟩ := acceptBorrower_ends (n := n) hzreasons ht1 (by rw [ht4]; exact hh)
  rw [← hu] at h1 h2 h3 h4 h5
  have hfind : ∀ c, u.borrower? c = (v.setBorrower (v.stranger b)).borrower? c := fun c => by rw [h5, ← hz]; rfl
  refine ⟨{ r with flags := (v.st n).ctx.stationFlags }, by rw [← hr]; rfl, by rw [← hr]; rfl, by rw [← hr],
    by rw [← hr], ?_, ⟨h1, h2, h3.trans ht2, by rw [h4, ht3]⟩, ?_, fun c hc => ?_⟩
  · rw [h5]
    refine Eq.trans (by rw [← hz]; rfl) ((State.journaled_plain (by rw [← hr]; rfl)).trans ?_)
    exact State.recorded_journal (by rw [hv]) _ _
  · rw [hfind, he]
    exact State.borrower?_setBorrower_same v (s.stranger b)
  · rw [hfind, he]
    refine (State.borrower?_setBorrower_other v (s.stranger b) hc).trans ?_
    rw [hv]
    rfl

end

/-- Settles O24: the expiry is counted and its query lapses; the decision of the station follows each path of R114. -/
theorem patienceExpiryLapses : Obligations.PatienceExpiryLapses := by
  unfold Obligations.PatienceExpiryLapses
  refine ⟨fun t q s hw => expiryCounts hw, fun t q p x s hw hk hpos hx ha hq hh hoff => expiryParks hw hk hpos hx ha hq hh hoff,
    fun t q p s hw hh hr1 hr2 hp => ?_⟩
  intro n c expiry
  obtain ⟨-, -, -, hpolicy, -, -, -, -, -, hrest⟩ := s.fresh.countTimeout_leaves
  have hexec : expiry = _ := exec_expiry hw
  generalize hv : s.fresh.countTimeout.setQuery t
    ⟨s.queries[t].gen, .lapsed q s.service.patience (s.lapseDecision q)⟩ = v at hexec
  have hvrest : v = { s with service := v.service, queries := v.queries, sent := v.sent } := by
    rw [← hv, hrest hr1 hr2]
    rfl
  have hvpol : v.service.policy = s.service.policy := by
    rw [← hv]
    exact hpolicy
  refine ⟨fun i x hpos hx ha hq => ⟨fun b e cal index rule hk hck ho hnone hb he hc hindex hrule hroom => ?_,
    fun hk hck hr => ?_⟩, fun b hk htarget hlookup hb htx hck => ?_⟩
  · intro d
    obtain ⟨y, r, h⟩ := lapseGrants hvrest hh hp hpos hx hq hk hck ho hnone hb he hc hindex hrule hroom
    exact ⟨_, y, r, hexec, h⟩
  · obtain ⟨y, h⟩ := lapseDischarges hvrest hh hp hpos hx hq hk hck hr
    exact ⟨_, y, hexec, h⟩
  · intro opened
    refine ⟨fun e he hnone => ⟨_, hexec, lapseOpens hvrest hh hk hlookup hb htx he hnone⟩, fun hnone hpol => ?_, ?_⟩
    · obtain ⟨r, h⟩ := lapseRefuses hvrest hp hk hlookup hb hnone (hvpol.trans hpol)
      exact ⟨_, r, hexec, h⟩
    · rw [← s.stranger_eq b]
      intro e hnone hpol hroom hreasons
      obtain ⟨r, h1, h2, h3, h4, h5, h6, h7, h8⟩ :=
        lapseAdmits hvrest hh hp hk hlookup hb htx hnone (hvpol.trans hpol) hroom hreasons
      exact ⟨_, r, hexec, h1, h2, h3, h4, h5, h6, h7, h8⟩

end Sys2Proof.Proofs
end

section
/-! SUPPORT. An item scanned at an ACTIVE station (R26, R33): the entry that joins, and the ways of its decision. -/

namespace Sys2Proof.Machine

variable {s a u z : State} {n : StationNo} {p : Fin 128} {i b item cls : Nat} {m : Bool} {x : Item} {e : Borrower}
  {d : DecidedBy} {offline atOnce : Bool}

/-! ### The entry that joins -/

theorem exec_scan_item {symbol : Text} (hv : validSymbol symbol = true) (hc : classify symbol = .item item cls m)
    (hlink : (s.st n).line.link = .active) : exec (.scan n symbol) s =
      .next (((s.fresh.scanned n .good).stick { classClamped := m }).itemScan n item cls m) := by
  refine (exec_scan hv n s).trans (congrArg Host.Outcome.next ?_)
  rw [State.takeScan_active (by exact hlink) (by rw [hc]; exact Line.crosses_good _), hc]
  rfl

/-- R19: from s to a the entry x has joined the list of station n, which has no hold, and the timer runs at full
period. -/
structure State.joining (s : State) (n : StationNo) (x : Item) (a : State) : Prop where
  ctx : (a.st n).ctx = { (s.st n).ctx with
    items := (s.st n).ctx.items ++ [x], timer := .running (s.st n).ctx.period }
  alerts : (a.st n).alerts = (s.st n).alerts
  tallies : (a.st n).tallies = (s.st n).tallies
  link : (a.st n).line.link = .active
  other : ∀ k, k ≠ n → a.st k = s.st k
  rest : a = { s with stations := a.stations, mgmt := { s.mgmt with sticky := a.mgmt.sticky }, sent := a.sent }

theorem State.joining.addEntry (hh : (s.st n).alerts.hold = false) (hlink : (s.st n).line.link = .active) (x : Item) :
    s.joining n x (s.addEntry n x) where
  ctx := by simp [State.addEntry, State.startTimer, Ctx.startTimer, hh]
  alerts := by simp [State.addEntry, State.startTimer]
  tallies := by simp [State.addEntry, State.startTimer]
  link := by simpa [State.addEntry, State.startTimer] using hlink
  other := fun k hk => by simp [State.addEntry, State.startTimer, hk]
  rest := rfl

/-- R14, R15: the same from the state before the scan. -/
theorem State.joining.scanned (h : ((s.fresh.scanned n .good).stick { classClamped := m }).joining n x a) :
    s.joining n x a where
  ctx := by rw [h.ctx]; simp [State.scanned]
  alerts := by rw [h.alerts]; simp [State.scanned]
  tallies := by rw [h.tallies]; simp [State.scanned]
  link := h.link
  other := fun k hk => by rw [h.other k hk]; simp [State.scanned, hk]
  rest := by rw [h.rest]; rfl

theorem State.joining.entry (h : s.joining n x a) : a.entry n (s.st n).ctx.items.length = some x :=
  State.entry_split (ys := []) (by rw [h.ctx])

theorem State.joining.ready (h : s.joining n x a) (hp : s.ready p) : a.ready p :=
  State.ready_of hp (by rw [h.rest]) (by rw [h.rest]) (by rw [h.rest])

/-- R19: the list once the entry that joined has become y. -/
theorem State.joining.modify (h : s.joining n x a) (f : Item → Item) :
    (a.st n).ctx.items.modify (s.st n).ctx.items.length f = (s.st n).ctx.items ++ [f x] := by
  rw [h.ctx]
  exact modify_split _ [] x f

/-- R26: the charge of an item scanned in OPEN. -/
theorem exec_scan_charge {symbol : Text} (hv : validSymbol symbol = true) (hc : classify symbol = .item item cls m)
    (hlink : (s.st n).line.link = .active) (ht : (s.st n).ctx.tx = .opened) (hlocked : (s.st n).ctx.locked = false)
    (hholds : (s.st n).ctx.holdsItem item = false) (hroom : (s.st n).ctx.items.length < 12)
    (hawait : (s.st n).ctx.awaiting < 4) (hh : (s.st n).alerts.hold = false) :
    ∃ a, exec (.scan n symbol) s = .next (a.checkCharge n (s.st n).ctx.items.length) ∧
      s.joining n (.new item cls m) a ∧ a.sent = [] := by
  generalize hw : (s.fresh.scanned n .good).stick { classClamped := m } = w
  have hst : (w.st n).ctx = (s.st n).ctx ∧ (w.st n).alerts = (s.st n).alerts ∧ (w.st n).line.link = .active := by
    rw [← hw]
    simpa [State.scanned] using hlink
  obtain ⟨hctx, halerts, hwlink⟩ := hst
  have hscan : w.itemScan n item cls m = (w.addEntry n (.new item cls m)).checkCharge n (s.st n).ctx.items.length := by
    simp only [State.itemScan, hctx, ht, State.itemInOpen, hholds, hlocked, Bool.false_eq_true, if_false,
      Config.maxItems, Config.maxAwaiting, if_neg (Nat.not_le.mpr hroom), if_neg (Nat.not_le.mpr hawait)]
  refine ⟨w.addEntry n (.new item cls m), ?_, ?_, ?_⟩
  · rw [exec_scan_item hv hc hlink, hw, hscan]
  · have hjoin := State.joining.addEntry (s := w) (n := n) (by rw [halerts]; exact hh) hwlink (.new item cls m)
    rw [← hw] at hjoin ⊢
    exact hjoin.scanned
  · rw [← hw]
    rfl

/-! ### Requests of a level -/

@[simp] theorem State.requestLevel_items (s : State) (n : StationNo) (l : Level) (k : Nat) (o : Option Origin) :
    ((s.requestLevel n l k o).st n).ctx.items = (s.st n).ctx.items := by
  have hu : ((s.requestLevel n l k o).st n).ctx.unheld = (s.st n).ctx.unheld := by
    simp [State.requestLevel, State.settleAlerts]
  exact (Ctx.unheld_slip hu).2.2.2.1

/-! ### Exceptions -/

/-- R69: an item without an exception entry has none to drop. -/
theorem State.dropException_absent {k : Nat} (h : s.exception? k = none) : s.dropException k = s := by
  have hnone : ∀ y ∈ s.exceptions, (y.item != k) = true := by
    intro y hy
    have := List.find?_eq_none.mp (Option.map_eq_none_iff.mp h) y hy
    simpa [bne] using this
  rw [State.dropException, List.filter_eq_self.mpr hnone]

/-- R29, step 6: the exception of an item that is granted, where it is not MISSING. -/
theorem State.grantException_drops (h : s.exception? x.number = none ∨ s.exception? x.number = some (.hold b)) :
    s.grantException n x b = s.dropException x.number := by
  rcases h with h | h
  · rw [State.grantException_absent h, State.dropException_absent h]
  · simp only [State.grantException, h, if_true]

/-- R29, R33: the record of a MISSING item found. -/
def State.foundOf (s : State) (n : StationNo) (x : Item) : Record :=
  { s.record .stationEvent (some n) with flags := x.flags, item := some x.number, detail := some .itemFound }

theorem State.itemFound_ready (hp : s.ready p) (x : Item) : s.itemFound n x = s.journaled n p (s.foundOf n x) := by
  rw [State.itemFound, State.writeStation_journaled hp]
  rfl

/-- R29, step 6: a MISSING item that is granted, in a journal that is ready. -/
theorem State.grantException_missing (h : s.exception? x.number = some .missing) (hp : s.ready p) :
    let u := (s.dropException x.number).requestLevel n .l6 0 none
    s.grantException n x b = u.journaled n p (u.foundOf n x) := by
  intro u
  simp only [State.grantException, h]
  exact State.itemFound_ready (State.ready_of hp (by simp) (by simp) (by simp)) x

/-! ### A full journal -/

/-- R31: an item refused because its record could not be written. -/
theorem State.refuseFull_leaves (hx : s.entry n i = some x) :
    let t := s.refuseFull n i
    (t.st n).ctx = { (s.st n).ctx with items := (s.st n).ctx.items.modify i fun _ => x.refused none } ∧
    (t.st n).tallies = { (s.st n).tallies with refusals := min 4294967295 ((s.st n).tallies.refusals + 1) } ∧
    (∀ k, k ≠ n → t.st k = s.st k) ∧ t = { s with stations := t.stations, sent := t.sent } ∧
    ((s.st n).line.link = .active → t.sent =
      s.sent ++ [.desk n (.display (some (s.st n).ctx.tx) (s.st n).alerts.displayed 250 .refuse)]) := by
  intro t
  generalize hu : (s.updItem n i fun _ => x.refused none).tallyRefusal n = u
  have hust : u.st n = { s.st n with
      ctx := { (s.st n).ctx with items := (s.st n).ctx.items.modify i fun _ => x.refused none }
      tallies := { (s.st n).tallies with refusals := min 4294967295 ((s.st n).tallies.refusals + 1) } } := by
    rw [← hu, State.tallyRefusal, State.updTallies_same, State.updItem_same]
    simp [sat32, satAdd, Config.maxCount32]
  have ht : t = u.sending (s.sent ++ u.toHead n [.display (u.st n).shownState (u.st n).alerts.displayed 250 .refuse]) := by
    simp only [t]
    rw [State.refuseFull, State.updItem_at hx, State.journalFull, hu, State.display_eq, ← hu]
    rfl
  refine ⟨by rw [ht, State.sending_st, hust], by rw [ht, State.sending_st, hust], fun k hk => ?_, ?_, fun hlink => ?_⟩
  · rw [ht, State.sending_st, ← hu, State.tallyRefusal, State.updTallies_other _ hk, State.updItem_other hk]
  · rw [ht, ← hu]
    rfl
  · rw [ht, State.sending_sent, State.toHead_attached (by rw [hust]; simp [hlink]), hust]
    simp [Station.shownState, hlink]

/-- R29, R31: a grant without a FILLING page. -/
theorem State.grant_full {index : Nat} {c : Calendar} {rule : Rule} (hf : s.journal.filling? = none) (ha : s.alarmsSettled)
    (hx : s.entry n i = some x) (hb : (s.st n).ctx.borrower = some b)
    (he : s.borrower? b = some e) (hc : s.activeBank.calendar? = some c)
    (hindex : s.ruleIndex? x.cls e.category = some index) (hrule : s.rule? index = some rule) :
    ∃ f, s.grant n i d offline atOnce = (s.stick f).lost.refuseFull n i := by
  have hcat : s.txCategory n = e.category := by simp only [State.txCategory, hb, Option.bind_some, he]
  refine ⟨(computeDue c rule s.now (s.txExpiry n)).flags.sticky, ?_⟩
  simp only [State.grant, hx, hb, hc, hcat, hindex, hrule, State.grantWith]
  rw [State.writeStation_lost _ n _ (by exact hf) (by exact ha)]

/-! ### Decisions taken at once -/

/-- R28: a charge decided at once, because the service is OFFLINE or the query table is full. -/
theorem State.decideCharge_atOnce (hx : s.entry n i = some x) (hh : (s.st n).alerts.hold = false)
    (hk : (s.st n).ctx.kind = some .charge) (h : s.service.state = .offline ∨ s.freeTag = none) :
    let off := decide (s.service.state = .offline)
    ∃ z : State, z = { s with service := z.service } ∧
      s.decideCharge n i = z.grant n i (if off then .localPart else .fallback) off !off := by
  intro off
  by_cases hoff : s.service.state = .offline
  · refine ⟨s, rfl, ?_⟩
    simp only [State.decideCharge, hx, hoff, if_true, State.takeOutcome, hh, Bool.false_eq_true, if_false,
      State.applyOutcome, hk, off, decide_true, Bool.not_true]
    rfl
  · have hfull := h.resolve_left hoff
    refine ⟨s.fellBack, rfl, ?_⟩
    have hh' : (s.fellBack.st n).alerts.hold = false := hh
    have hk' : (s.fellBack.st n).ctx.kind = some .charge := hk
    simp only [State.decideCharge, hx, hoff, if_false, State.ask_full hfull, State.takeOutcome, hh', Bool.false_eq_true,
      State.applyOutcome, hk', off, decide_false, Bool.not_false]
    rfl

/-- R28: a charge that asks the server. -/
theorem State.decideCharge_asks (hx : s.entry n i = some x) (hoff : s.service.state ≠ .offline) {g : Tag}
    (hg : s.freeTag = some g) : s.decideCharge n i =
      (((s.asked g (s.itemQuestion n i .chargeRequest x) x.cls).updItem n i fun x =>
        { x with waiting := some .reply, query := some (g, (s.queries[g].gen + 1) % 256) }).tone n .none) := by
  simp only [State.decideCharge, hx, hoff, if_false, State.ask_free hg, State.awaitReply]

end Sys2Proof.Machine
end

section
/-! SUPPORT. The settling of O9. -/

namespace Sys2Proof.Machine

/-- R19: from s to t the entry x, of the scanned item, has joined the list of station n in the state st; no other station
has changed. -/
def State.entered (s t : State) (n : StationNo) (item cls : Nat) (m : Bool) (x : Item) (st : ItemState) : Prop :=
  (t.st n).ctx.items = (s.st n).ctx.items ++ [x] ∧ x.number = item ∧ x.cls = cls ∧ x.state = st ∧
    x.flags.classClamped = m ∧ ∀ k, k ≠ n → t.st k = s.st k

/-- The borrower table, the pending loan list and the exception table are as they were. -/
def State.sameTables (s t : State) : Prop :=
  t.borrowers = s.borrowers ∧ t.loans = s.loans ∧ t.exceptions = s.exceptions

variable {s : State} {n : StationNo} {p : Fin 128} {b : Nat} {x : Item}

/-- R24: the report of a hold that begins at a station in OPEN. -/
theorem State.sent_reportHold_begins (hn : (s.st n).alerts.holds = true) (hh : (s.st n).alerts.hold = false)
    (ht : (s.st n).ctx.tx = .opened) (hlink : (s.st n).line.link = .active) : (s.reportHold n).sent =
      s.sent ++ [.desk n (.display (some .held) (s.st n).alerts.displayed 0 .none)] := by
  have heq : s.reportHold n =
      (s.upd n fun t => { t with alerts := { t.alerts with hold := true }, ctx := t.ctx.beginHold }).tone n .none := by
    simp only [State.reportHold, hn, hh, Bool.true_eq_false, if_false, State.updAlerts, State.updCtx, State.upd_upd,
      State.st_upd_same, ht]
    rw [if_neg (by simp [Ctx.beginHold, ht])]
    rfl
  have hbegin : (s.st n).ctx.beginHold.tx = .held := by simp [Ctx.beginHold, ht]
  rw [heq, State.tone_attached (by simp [hlink])]
  simp [State.displayNow, Station.shownState, hlink, hbegin]
  rfl

/-- R29, step 6: what a grant leaves of the exceptions, with the record and the request of L6 of a MISSING item. -/
theorem State.grantException_leaves (hp : s.ready p)
    (hexc : s.exception? x.number = none ∨ s.exception? x.number = some (.hold b) ∨ s.exception? x.number = some .missing) :
    let t := s.grantException n x b
    (t.st n).ctx.items = (s.st n).ctx.items ∧ (t.st n).tallies = (s.st n).tallies ∧
    (∀ k, k ≠ n → t.st k = s.st k) ∧ t.borrowers = s.borrowers ∧ t.loans = s.loans ∧
    t.exceptions = s.exceptions.filter (fun y => y.item != x.number) ∧
    (s.exception? x.number ≠ some .missing → t.journal = s.journal ∧ (t.st n).ctx.timer = (s.st n).ctx.timer) ∧
    (s.exception? x.number = some .missing → (∃ r : Record, t.journal = (s.recorded p r).journal ∧ r.kind = .stationEvent ∧
        r.detail = some .itemFound ∧ r.item = some x.number) ∧
      ((s.st n).alerts.autoAck.mem .l6 = false →
        ((t.st n).alerts.pending.mem .l6 || (t.st n).alerts.inService.mem .l6) = true)) := by
  intro t
  by_cases hmissing : s.exception? x.number = some .missing
  · have ht := State.grantException_missing (n := n) (b := b) hmissing hp
    generalize hu : (s.dropException x.number).requestLevel n .l6 0 none = u at ht
    have hrest : u = { s with
        stations := u.stations, exceptions := s.exceptions.filter (fun y => y.item != x.number), sent := u.sent } := by
      rw [← hu]
      exact State.eq_of_rest (s := s.dropException x.number) (by simp)
    have hparts := State.journaled_parts u n p (u.foundOf n x)
    obtain ⟨-, halerts, -, htallies, -, -, -, hitems, -, -⟩ := hparts
    simp only [t, ht]
    refine ⟨?_, ?_, fun k hk => ?_, ?_, ?_, ?_, fun h => absurd hmissing h, fun _ =>
      ⟨⟨{ u.foundOf n x with flags := x.flags.union (u.st n).ctx.stationFlags }, ?_, rfl, rfl, rfl⟩, fun ha => ?_⟩⟩
    · rw [hitems, ← hu]
      simp
    · rw [htallies, ← hu]
      simp
    · rw [State.journaled_other hk, ← hu]
      simp [hk]
    · rw [show (u.journaled n p (u.foundOf n x)).borrowers = u.borrowers from rfl, hrest]
    · rw [show (u.journaled n p (u.foundOf n x)).loans = u.loans from rfl, hrest]
    · rw [show (u.journaled n p (u.foundOf n x)).exceptions = u.exceptions from rfl, hrest]
    · exact (State.journaled_journal u n p _).trans (State.recorded_journal (by rw [hrest]) _ _)
    · rw [halerts, ← hu, Bool.or_eq_true]
      exact State.requestLevel_stands (s := s.dropException x.number) ha 0 none
  · have ht := State.grantException_drops (n := n) (b := b) (hexc.imp_right fun h => h.resolve_right hmissing)
    simp only [t, ht]
    exact ⟨rfl, rfl, fun _ _ => rfl, rfl, rfl, rfl, fun _ => ⟨rfl, rfl⟩, fun h => absurd h hmissing⟩

end Sys2Proof.Machine

namespace Sys2Proof.Proofs
open Sys2Proof Sys2Proof.Machine

section
variable {s a : State} {n : StationNo} {item cls b : Nat} {m : Bool} (hj : s.joining n (.new item cls m) a)
  (hb : (s.st n).ctx.borrower = some b) (hh : (s.st n).alerts.hold = false)
include hj hb

include hh in
/-- R27, R30, R69: an exception that stops the charge. -/
theorem chargeStops {p : Fin 128} {r : Reason} (hp : s.ready p) (hpend : (s.st n).alerts.pending = .empty)
    (hserv : (s.st n).alerts.inService = .empty) (hmask : (s.st n).alerts.mask.mem .l6 = false)
    (hauto : (s.st n).alerts.autoAck.mem .l6 = false)
    (hexc : s.exception? item = some .reference ∧ r = .reference ∨ s.exception? item = some .withdrawn ∧ r = .withdrawn ∨
      r = .holdOther ∧ ∃ h, s.exception? item = some (.hold h) ∧ h ≠ b) :
    let t := a.checkCharge n (s.st n).ctx.items.length
    ∃ (x : Item) (y : Record), s.entered t n item cls m x .refused ∧ s.sameTables t ∧ y.kind = .refusal ∧
      y.station = some n ∧ y.decidedBy = .noOne ∧ y.borrower = some b ∧ y.item = some item ∧ y.reason = some r ∧
      t.journal = (s.recorded p y).journal ∧ (t.st n).tallies = ((s.refusalCounted n).st n).tallies ∧
      (t.st n).alerts.inService = LevelSet.empty.insert .l6 := by
  intro t
  have hctx := hj.ctx
  have hab : (a.st n).ctx.borrower = some b := by rw [hctx]; exact hb
  have haexc : a.exception? item = s.exception? item := by rw [hj.rest]; rfl
  have ht : t = (a.refuseItem n (s.st n).ctx.items.length r .noOne).requestLevel n .l6 0 none := by
    simp only [t, State.checkCharge, hj.entry]
    rw [show (Item.new item cls m).number = item from rfl, haexc]
    rcases hexc with ⟨he, rfl⟩ | ⟨he, rfl⟩ | ⟨rfl, h, he, hne⟩
    · rw [he]
    · rw [he]
    · rw [he]
      simp only [hab]
      rw [if_neg]
      simpa using hne.symm
  obtain ⟨h1, h2, -, h4, h5⟩ := State.refuseItem_ready (hj.ready hp) hj.entry r .noOne
  generalize hu : a.refuseItem n (s.st n).ctx.items.length r .noOne = u at ht h1 h2 h4 h5
  have hualerts : (u.st n).alerts = (s.st n).alerts := by rw [h1]; exact hj.alerts
  have honly := State.requestLevel_only (s := u) (n := n) (l := .l6) (by rw [hualerts]; exact hpend)
    (by rw [hualerts]; exact hserv) (by rw [hualerts]; exact hmask) (by rw [hualerts]; exact hauto)
    (by rw [hualerts]; exact hh) 0 none
  have hrest := State.eq_of_rest (s := u) (t := u.requestLevel n .l6 0 none) (by simp)
  rw [ht]
  refine ⟨(Item.new item cls m).refused none, { a.itemRefusalOf n (.new item cls m) r .noOne with
    flags := (Item.new item cls m).flags.union (a.st n).ctx.stationFlags },
    ⟨?_, rfl, rfl, rfl, rfl, fun k hk => ?_⟩, ⟨?_, ?_, ?_⟩, rfl, rfl, rfl, hab, rfl, rfl, ?_, ?_, ?_⟩
  · rw [State.requestLevel_items, h1]
    exact hj.modify _
  · rw [State.requestLevel_other _ hk, h2 k hk, hj.other k hk]
  · rw [hrest, h5, hj.rest]
  · rw [hrest, h5, hj.rest]
  · rw [hrest, h5, hj.rest]
  · rw [hrest]
    exact h4.trans (State.recorded_journal (by rw [hj.rest]) _ _)
  · rw [honly, h1, hj.tallies]
    simp [State.refusalCounted]
  · rw [honly, hualerts]
    rfl

variable (hexc : s.exception? item = none ∨ s.exception? item = some (.hold b) ∨ s.exception? item = some .missing)
  {e : Borrower} (he : s.borrower? b = some e) {k : Category} (hcat : s.category? e.category = some k)
include hexc

/-- R27: the charge of an item that no exception stops goes on to the loan limit. -/
theorem checkCharge_limit :
    a.checkCharge n (s.st n).ctx.items.length = a.checkLimit n (s.st n).ctx.items.length := by
  have haexc : a.exception? item = s.exception? item := by rw [hj.rest]; rfl
  have hab : (a.st n).ctx.borrower = some b := by rw [hj.ctx]; exact hb
  simp only [State.checkCharge, hj.entry]
  rw [show (Item.new item cls m).number = item from rfl, haexc]
  rcases hexc with h | h | h
  · rw [h]
  · rw [h]
    simp only [hab, if_true]
  · rw [h]

include he hcat

omit hexc in
/-- R27: what the loan limit reads. -/
theorem chargeTotal : a.category? (a.txCategory n) = some k ∧
    a.limitTotal n (s.st n).ctx.items.length = e.onLoan + ((s.st n).ctx.items.filter Item.waitsReply).length := by
  have hab : (a.st n).ctx.borrower = some b := by rw [hj.ctx]; exact hb
  have hae : a.borrower? b = some e := by rw [hj.rest]; exact he
  have htx : a.txCategory n = e.category := by simp only [State.txCategory, hab, Option.bind_some, hae]
  have hon : a.txOnLoan n = e.onLoan := by simp only [State.txOnLoan, hab, Option.bind_some, hae]
  have hitems : (a.st n).ctx.items.eraseIdx (s.st n).ctx.items.length = (s.st n).ctx.items := by
    rw [hj.ctx]
    simp [List.eraseIdx_append_of_length_le]
  refine ⟨?_, by rw [State.limitTotal, hon, hitems]⟩
  rw [htx, ← hcat, hj.rest]
  rfl

/-- R28: below the limit the charge reaches its decision. -/
theorem checkCharge_below (hlt : e.onLoan + ((s.st n).ctx.items.filter Item.waitsReply).length < k.itemsLimit) :
    a.checkCharge n (s.st n).ctx.items.length = a.decideCharge n (s.st n).ctx.items.length := by
  obtain ⟨h1, h2⟩ := chargeTotal hj hb he hcat
  rw [checkCharge_limit hj hb hexc, State.checkLimit]
  simp only [h1, h2, if_pos hlt]

section
variable (hk : (s.st n).ctx.kind = some .charge) {index : Nat} {c : Calendar} {r : Rule}
  (hlt : e.onLoan + ((s.st n).ctx.items.filter Item.waitsReply).length < k.itemsLimit)
  (hcase : s.service.state = .offline ∨ s.freeTag = none) (hc : s.activeBank.calendar? = some c)
  (hindex : s.ruleIndex? cls e.category = some index) (hrule : s.rule? index = some r)
include hh hk hlt hcase hc hindex hrule

omit hc hindex hrule in
/-- R28: a charge decided at once. -/
theorem chargeAtOnce :
    let off := decide (s.service.state = .offline)
    ∃ z : State, z = { a with service := z.service } ∧ a.checkCharge n (s.st n).ctx.items.length =
      z.grant n (s.st n).ctx.items.length (if off then .localPart else .fallback) off !off := by
  intro off
  have hservice : a.service = s.service := by rw [hj.rest]
  have hfree : a.freeTag = s.freeTag := by rw [hj.rest]; rfl
  obtain ⟨z, hz, hdec⟩ := State.decideCharge_atOnce hj.entry (by rw [hj.alerts]; exact hh) (by rw [hj.ctx]; exact hk)
    (by rw [hservice, hfree]; exact hcase)
  rw [hservice] at hdec
  exact ⟨z, hz, (checkCharge_below hj hb hexc he hcat hlt).trans hdec⟩

/-- R28, R29: a charge granted at once, in a journal with room for two records. -/
theorem chargeGrants {p : Fin 128} (hroom : s.roomFor p 2) (hloans : s.loans.length < 512) :
    let off := decide (s.service.state = .offline)
    let d := computeDue c r s.now e.expiry
    let by_ : DecidedBy := if off then .localPart else .fallback
    let t := a.checkCharge n (s.st n).ctx.items.length
    ∃ x : Item, s.entered t n item cls m x .granted ∧ x.due = some d.due ∧ x.decidedBy = some by_ ∧
      x.flags = (ResultFlags.union { classClamped := m, offlineDecided := off } d.flags) ∧
      t.borrower? b = some { e with onLoan := min 255 (e.onLoan + 1), changed := true, inFlight := false } ∧
      t.loans = (s.loans.filter fun l => l.item != item) ++ [⟨item, b, d.due, index, s.journal.counter⟩] ∧
      t.exceptions = s.exceptions.filter (fun y => y.item != item) ∧
      (∃ y, t.journal.pages[p].records[s.journal.pages[p].records.length]? = some y ∧ y.kind = .charge ∧
        y.seq = s.journal.counter ∧ y.borrower = some b ∧ y.item = some item ∧ y.due = some d.due ∧
        y.ruleIndex = some index ∧ y.bankGen = some s.generation ∧ y.decidedBy = by_ ∧ y.flags.classClamped = m ∧
        y.detail = if off then none else some .localFallback) ∧
      (t.st n).tallies = { (s.st n).tallies with charges := min 4294967295 ((s.st n).tallies.charges + 1) } ∧
      (s.exception? item ≠ some .missing → (t.st n).ctx.timer = .running (s.st n).ctx.period ∧
        t.journal.pages[p].records.length = s.journal.pages[p].records.length + 1) ∧
      (s.exception? item = some .missing →
        ((s.st n).alerts.autoAck.mem .l6 = false →
          ((t.st n).alerts.pending.mem .l6 || (t.st n).alerts.inService.mem .l6) = true) ∧
        ∃ y, t.journal.pages[p].records.getLast? = some y ∧ y.kind = .stationEvent ∧ y.detail = some .itemFound ∧
          y.item = some item ∧ y.seq = (s.journal.counter + 1) % 4294967296) := by
  intro off d by_ t
  obtain ⟨z, hz, ht⟩ := chargeAtOnce hj hb hh hexc he hcat hk hlt hcase
  have hzrest : z = { s with
      stations := a.stations, service := z.service, mgmt := { s.mgmt with sticky := a.mgmt.sticky }, sent := a.sent } := by
    rw [hz, hj.rest]
  have hzst : ∀ m, z.st m = a.st m := fun m => by rw [hz]; rfl
  have hzp : z.ready p := State.ready_of hroom.ready (by rw [hzrest]) (by rw [hzrest]) (by rw [hzrest])
  have hzx : z.entry n (s.st n).ctx.items.length = some (.new item cls m) := by rw [hz]; exact hj.entry
  have hgrant := State.grant_ready (d := by_) (offline := off) (atOnce := !off) (b := b) (e := e) (c := c) (index := index)
    (rule := r) hzp hzx (by rw [hzst, hj.ctx]; exact hb) (by rw [hzrest]; exact he) (by rw [hzrest]; exact hc)
    (by rw [hzrest]; exact hindex) (by rw [hzrest]; exact hrule) (.inr (by rw [hzrest]; exact hloans))
  have hnow : z.now = s.now := by rw [hzrest]; rfl
  have hjournal : z.journal = s.journal := by rw [hzrest]
  rw [hnow, hjournal] at hgrant
  generalize hg : (⟨.new item cls m, b, d, index, r, by_, off, !off⟩ : Granting) = g
  generalize hy : g.entry s.journal.counter = y
  generalize hG : z.granted n (s.st n).ctx.items.length p e g = G
  have ht' : t = ((G.grantException n y b).updTallies n fun t =>
      { t with charges := sat32 t.charges 1 }).tone n .accept := by
    rw [← hG, ← hy, ← hg]
    exact ht.trans hgrant
  obtain ⟨hGn, hGo⟩ := z.granted_st n (s.st n).ctx.items.length p e g
  have hGj := z.granted_journal n (s.st n).ctx.items.length p e g
  have hGl := z.granted_loans n (s.st n).ctx.items.length p e g
  have hGb := z.granted_borrower n (s.st n).ctx.items.length p e g (b := b) (by rw [hzrest]; exact he)
  have hGr := z.granted_rest n (s.st n).ctx.items.length p e g
  rw [hG] at hGn hGo hGj hGl hGb hGr
  rw [hjournal, hy, hzst, hj.ctx] at hGn
  generalize hrr : ({ z.chargeOf n g with flags := g.flags.union (z.st n).ctx.stationFlags } : Record) = rr at hGj
  have hGj' : G.journal = (s.recorded p rr).journal := hGj.trans (State.recorded_journal hjournal _ _)
  have hGalerts : (G.st n).alerts = (s.st n).alerts := by rw [hGn]; exact hj.alerts
  have hGp : G.ready p := State.ready_of (State.roomFor.recorded hroom rr).ready hGj' (by rw [hGr, hzrest]; rfl)
    (by rw [hGr, hzrest]; rfl)
  have hnum : y.number = item := by rw [← hy, ← hg]; rfl
  have hGexc : G.exception? y.number = s.exception? item := by rw [hnum, hGr, hzrest]; rfl
  obtain ⟨e1, e2, e3, e4, e5, e6, e7, e8⟩ := State.grantException_leaves (n := n) (b := b) (x := y) hGp
    (by rw [hGexc]; exact hexc)
  rw [hGexc] at e7 e8
  rw [hnum] at e6
  generalize G.grantException n y b = E at ht' e1 e2 e3 e4 e5 e6 e7 e8
  have htst : t.st n = { E.st n with tallies := { (E.st n).tallies with
      charges := min 4294967295 ((E.st n).tallies.charges + 1) } } := by
    rw [ht', State.tone_st, State.updTallies_same]
    rfl
  have htjournal : t.journal = E.journal := by rw [ht', State.tone_eq]; rfl
  have htborrowers : t.borrowers = G.borrowers := by rw [← e4, ht', State.tone_eq]; rfl
  have htfind : t.borrower? b = G.borrower? b := by rw [State.borrower?, State.borrower?, htborrowers]
  have hpages : G.journal.pages[p].records = s.journal.pages[p].records ++ [{ rr with seq := s.journal.counter }] := by
    rw [hGj']
    simp [State.recorded]
  have hcounter : G.journal.counter = (s.journal.counter + 1) % 4294967296 := by rw [hGj']; rfl
  have hfound : ∀ r : Record, (G.recorded p r).journal.pages[p].records =
      G.journal.pages[p].records ++ [{ r with seq := G.journal.counter }] := fun r => by simp [State.recorded]
  have hstationFlags : (z.st n).ctx.stationFlags.classClamped = false := rfl
  have hclamped : g.flags.classClamped = m := by
    rw [← hg, Granting.flags, ResultFlags.union_classClamped, computeDue_unclamped]
    simp [Item.new]
  have hfirst : t.journal.pages[p].records[s.journal.pages[p].records.length]? =
      some { rr with seq := s.journal.counter } := by
    rw [htjournal]
    by_cases hmissing : s.exception? item = some .missing
    · obtain ⟨⟨r', hr', -⟩, -⟩ := e8 hmissing
      rw [hr', hfound, hpages]
      simp
    · rw [(e7 hmissing).1, hpages]
      simp
  refine ⟨y, ⟨?_, hnum, by rw [← hy, ← hg]; rfl, by rw [← hy]; rfl, ?_, fun k hk => ?_⟩, by rw [← hy, ← hg]; rfl,
    by rw [← hy, ← hg]; rfl, ?_, by rw [htfind]; exact hGb, ?_, ?_, ⟨_, hfirst, ?_, rfl, ?_, ?_, ?_, ?_, ?_, ?_, ?_, ?_⟩,
    ?_, fun hne => ⟨?_, ?_⟩, fun hmissing => ⟨fun ha => ?_, ?_⟩⟩
  · rw [htst, e1, hGn, ← hj.ctx]
    exact hj.modify _
  · rw [← hy]
    exact hclamped
  · rw [ht', State.tone_st, State.updTallies_other _ hk, e3 k hk, hGo k hk, hzst, hj.other k hk]
  · rw [← hy, ← hg]
    simp [Granting.entry, Granting.flags, Item.new, ResultFlags.union]
  · rw [show t.loans = E.loans by rw [ht', State.tone_eq]; rfl, e5, hGl, ← hg, hjournal, hzrest, if_neg]
    · rfl
    · simp only [by_]
      split <;> decide
  · rw [show t.exceptions = E.exceptions by rw [ht', State.tone_eq]; rfl, e6, hGr, hzrest]
  · rw [← hrr]; rfl
  · rw [← hrr, ← hg]; rfl
  · rw [← hrr, ← hg]; rfl
  · rw [← hrr, ← hg]; rfl
  · rw [← hrr, ← hg]; rfl
  · rw [← hrr, hzrest]; rfl
  · rw [← hrr, ← hg]; rfl
  · rw [← hrr, ResultFlags.union_classClamped, hclamped, hstationFlags, Bool.or_false]
  · rw [← hrr, ← hg]
    cases off <;> rfl
  · rw [htst, e2, hGn, hj.tallies]
  · rw [htst, (e7 hne).2, hGn]
    simp
  · rw [htjournal, (e7 hne).1, hpages]
    simp
  · have := (e8 hmissing).2 (by rw [hGalerts]; exact ha)
    rwa [htst]
  · obtain ⟨⟨r', hr', hk', hd', hi'⟩, -⟩ := e8 hmissing
    refine ⟨{ r' with seq := G.journal.counter }, ?_, hk', hd', hi'.trans (congrArg some hnum), hcounter⟩
    rw [htjournal, hr', hfound]
    simp

/-- R31, R171: a charge decided at once without a FILLING page. -/
theorem chargeFull (ho : (s.st n).ctx.tx = .opened) (hf : s.journal.filling? = none) (ha : s.alarmsSettled) :
    let t := a.checkCharge n (s.st n).ctx.items.length
    ∃ x : Item, s.entered t n item cls m x .refused ∧ s.sameTables t ∧ x.due = none ∧ x.decidedBy = none ∧
      (t.st n).ctx.tx = .opened ∧ t.journal = s.lost.journal ∧ t.mgmt.sticky.journalOverflowed = true ∧
      (t.st n).tallies = ((s.refusalCounted n).st n).tallies ∧
      t.sent.getLast? = some (.desk n (.display (some .opened) (s.st n).alerts.displayed 250 .refuse)) ∧
      (t.st n).ctx.timer = .running (s.st n).ctx.period := by
  intro t
  obtain ⟨z, hz, hgranted⟩ := chargeAtOnce hj hb hh hexc he hcat hk hlt hcase
  have hzrest : z = { s with
      stations := a.stations, service := z.service, mgmt := { s.mgmt with sticky := a.mgmt.sticky }, sent := a.sent } := by
    rw [hz, hj.rest]
  have hzst : ∀ m, z.st m = a.st m := fun m => by rw [hz]; rfl
  have hzx : z.entry n (s.st n).ctx.items.length = some (.new item cls m) := by rw [hz]; exact hj.entry
  obtain ⟨f, hgrant⟩ := State.grant_full (d := if decide (s.service.state = .offline) then .localPart else .fallback)
    (offline := decide (s.service.state = .offline)) (atOnce := !decide (s.service.state = .offline)) (b := b) (e := e)
    (c := c) (index := index) (rule := r) (by rw [hzrest]; exact hf) (by rw [hzrest]; exact ha) hzx
    (by rw [hzst, hj.ctx]; exact hb) (by rw [hzrest]; exact he) (by rw [hzrest]; exact hc)
    (by rw [hzrest]; exact hindex) (by rw [hzrest]; exact hrule)
  generalize hu : (z.stick f).lost = u at hgrant
  have hust : ∀ m, u.st m = a.st m := fun m => by
    rw [← hu]
    exact hzst m
  have hurest : u = { s with
      stations := u.stations, service := u.service, journal := s.lost.journal
      mgmt := u.mgmt, sent := u.sent } := by
    rw [← hu, hzrest]
    rfl
  have hover : u.mgmt.sticky.journalOverflowed = true := by rw [← hu]; rfl
  have hux : u.entry n (s.st n).ctx.items.length = some (.new item cls m) := by rw [← hu]; exact hzx
  obtain ⟨h1, h2, h3, h4, h5⟩ := State.refuseFull_leaves hux
  have ht : t = u.refuseFull n (s.st n).ctx.items.length := hgranted.trans hgrant
  rw [← ht] at h1 h2 h3 h4 h5
  rw [hust] at h1 h2 h5
  refine ⟨(Item.new item cls m).refused none, ⟨?_, rfl, rfl, rfl, rfl, fun k hk => ?_⟩, ⟨?_, ?_, ?_⟩, rfl, rfl, ?_, ?_, ?_,
    ?_, ?_, ?_⟩
  · rw [h1]
    exact hj.modify _
  · rw [h3 k hk, hust, hj.other k hk]
  · rw [h4, hurest]
  · rw [h4, hurest]
  · rw [h4, hurest]
  · rw [h1, hj.ctx]
    exact ho
  · rw [h4, hurest]
  · rw [h4]
    exact hover
  · rw [h2, hj.tallies]
    simp [State.refusalCounted]
  · rw [h5 hj.link, hj.ctx, hj.alerts, ho]
    simp
  · rw [h1, hj.ctx]

end

/-- R27: at or above the limit, where L5 does not count, the charge reaches its decision with the masked reason mark. -/
theorem checkCharge_reaches
    (h : e.onLoan + ((s.st n).ctx.items.filter Item.waitsReply).length < k.itemsLimit ∨
      ¬ ((s.st n).alerts.mask.mem .l5 = false ∧ (s.st n).alerts.holdSet.mem .l5 = true)) :
    a.checkCharge n (s.st n).ctx.items.length = (a.updCtx n fun c => { c with
      maskedReason := c.maskedReason ||
        (decide (k.itemsLimit ≤ e.onLoan + ((s.st n).ctx.items.filter Item.waitsReply).length) &&
          (s.st n).alerts.mask.mem .l5) }).decideCharge n (s.st n).ctx.items.length := by
  obtain ⟨h1, h2⟩ := chargeTotal hj hb he hcat
  by_cases hlt : e.onLoan + ((s.st n).ctx.items.filter Item.waitsReply).length < k.itemsLimit
  · rw [checkCharge_below hj hb hexc he hcat hlt, State.updCtx_self]
    simp [Nat.not_le.mpr hlt]
  · have hcounts : (s.st n).alerts.counts .l5 = false := by
      have := h.resolve_left hlt
      cases hm : (s.st n).alerts.mask.mem .l5 <;> simp_all [Resolver.counts]
    rw [checkCharge_limit hj hb hexc, State.checkLimit]
    simp only [h1, h2, if_neg hlt, hcounts, Bool.false_eq_true, if_false, hj.alerts, Nat.not_lt.mp hlt, decide_true,
      Bool.true_and]
    cases hm : (s.st n).alerts.mask.mem .l5
    · simp only [Bool.false_eq_true, if_false, Bool.or_false]
      rw [State.updCtx_self rfl]
    · simp

/-- R28, R110: a charge that asks the server. -/
theorem chargeAsks (hsent : a.sent = []) (ho : (s.st n).ctx.tx = .opened)
    (h : e.onLoan + ((s.st n).ctx.items.filter Item.waitsReply).length < k.itemsLimit ∨
      ¬ ((s.st n).alerts.mask.mem .l5 = false ∧ (s.st n).alerts.holdSet.mem .l5 = true))
    (hoff : s.service.state ≠ .offline) {g : Tag} (hg : s.freeTag = some g) :
    let gen := (s.queries[g].gen + 1) % 256
    let q : Question := ⟨n, .chargeRequest, item, some b, some (s.st n).ctx.items.length.succ⟩
    let t := a.checkCharge n (s.st n).ctx.items.length
    ∃ x : Item, s.entered t n item cls m x .awaiting ∧ s.sameTables t ∧ x.waiting = some .reply ∧
      x.query = some (g, gen) ∧ t.queries = s.queries.set g ⟨gen, .waiting q s.service.patience⟩ ∧
      t.journal = s.journal ∧ (t.st n).tallies = (s.st n).tallies ∧
      (t.st n).ctx.timer = .running (s.st n).ctx.period ∧
      (t.st n).ctx.maskedReason = ((s.st n).ctx.maskedReason ||
        (decide (k.itemsLimit ≤ e.onLoan + ((s.st n).ctx.items.filter Item.waitsReply).length) &&
          (s.st n).alerts.mask.mem .l5)) ∧
      t.sent = [.trunk (.query g.val gen q cls), .desk n (.display (some .opened) (s.st n).alerts.displayed 0 .none)] := by
  intro gen q t
  have ht := checkCharge_reaches hj hb hexc he hcat h
  generalize hmark : ((s.st n).ctx.maskedReason ||
    (decide (k.itemsLimit ≤ e.onLoan + ((s.st n).ctx.items.filter Item.waitsReply).length) &&
      (s.st n).alerts.mask.mem .l5)) = mark
  generalize hw : a.updCtx n _ = w at ht
  have hwst : w.st n = { a.st n with ctx := { (s.st n).ctx with
      items := (s.st n).ctx.items ++ [.new item cls m], timer := .running (s.st n).ctx.period, maskedReason := mark } } := by
    rw [← hw, State.updCtx_same, hj.ctx, ← hmark]
  have hwrest : w = { s with
      stations := w.stations, mgmt := { s.mgmt with sticky := a.mgmt.sticky }, sent := [] } := by
    rw [← hw, hj.rest, hsent]
    rfl
  have hwx : w.entry n (s.st n).ctx.items.length = some (.new item cls m) :=
    State.entry_split (ys := []) (by rw [hwst])
  have hwq : w.queries = s.queries := by rw [hwrest]
  have hquestion : w.itemQuestion n (s.st n).ctx.items.length .chargeRequest (.new item cls m) = q := by
    simp only [State.itemQuestion, hwst, hb, if_true]
    rfl
  have hdec := State.decideCharge_asks hwx (by rw [hwrest]; exact hoff) (g := g) (by rw [hwrest]; exact hg)
  rw [hquestion, hwq] at hdec
  generalize hv : (w.asked g q (Item.new item cls m).cls).updItem n (s.st n).ctx.items.length _ = v at hdec
  have hvst : v.st n = { w.st n with ctx := { (w.st n).ctx with
      items := (s.st n).ctx.items ++ [{ Item.new item cls m with waiting := some .reply, query := some (g, gen) }] } } := by
    have hst : (w.asked g q (Item.new item cls m).cls).st n = w.st n := rfl
    have hmod := modify_split (s.st n).ctx.items [] (Item.new item cls m) fun x =>
      { x with waiting := some .reply, query := some (g, gen) }
    rw [← hv, State.updItem_same, hst, hwst, hmod]
  have ht' : t = v.sending (v.sent ++ [.desk n (v.displayNow n .none)]) :=
    (ht.trans hdec).trans (State.tone_attached (by rw [hvst, hwst]; simp [hj.link]) _)
  refine ⟨{ Item.new item cls m with waiting := some .reply, query := some (g, gen) },
    ⟨?_, rfl, rfl, rfl, rfl, fun k hk => ?_⟩, ⟨?_, ?_, ?_⟩, rfl, rfl, ?_, ?_, ?_, ?_, ?_, ?_⟩
  · rw [ht', State.sending_st, hvst]
  · rw [ht', State.sending_st, ← hv, State.updItem_other hk, show (w.asked g q _).st k = w.st k from rfl, ← hw,
      State.updCtx_other _ hk, hj.other k hk]
  · rw [ht', ← hv, hwrest]
    rfl
  · rw [ht', ← hv, hwrest]
    rfl
  · rw [ht', ← hv, hwrest]
    rfl
  · rw [ht', ← hv, hwrest]
    rfl
  · rw [ht', ← hv, hwrest]
    rfl
  · rw [ht', State.sending_st, hvst, hwst, hj.tallies]
  · rw [ht', State.sending_st, hvst, hwst]
  · rw [ht', State.sending_st, hvst, hwst]
  · have hvsent : v.sent = [.trunk (.query g.val gen q cls)] := by
      rw [← hv, hwrest]
      rfl
    rw [ht', State.sending_sent, hvsent, State.displayNow, hvst, hwst]
    simp [Station.shownState, hj.link, hj.alerts, ho]

include hh in
/-- R24, R27: a charge at the limit, where L5 counts, waits for OVERRIDE. -/
theorem chargeWaits (ho : (s.st n).ctx.tx = .opened)
    (hge : k.itemsLimit ≤ e.onLoan + ((s.st n).ctx.items.filter Item.waitsReply).length)
    (hmask : (s.st n).alerts.mask.mem .l5 = false) (hset : (s.st n).alerts.holdSet.mem .l5 = true)
    (hpend : (s.st n).alerts.pending = .empty) (hserv : (s.st n).alerts.inService = .empty)
    (hauto : (s.st n).alerts.autoAck.mem .l5 = false) :
    let t := a.checkCharge n (s.st n).ctx.items.length
    ∃ x : Item, s.entered t n item cls m x .awaiting ∧ s.sameTables t ∧ x.waiting = some .override ∧ x.query = none ∧
      (t.st n).alerts.inService = LevelSet.empty.insert .l5 ∧ (t.st n).alerts.pending = .empty ∧
      (t.st n).alerts.origin = some .item ∧ (t.st n).alerts.hold = true ∧ (t.st n).ctx.tx = .held ∧
      (t.st n).ctx.interrupted = some .opened ∧ (t.st n).ctx.timer = .gated (s.st n).ctx.period ∧
      t.journal = s.journal ∧ t.queries = s.queries ∧ (t.st n).tallies = (s.st n).tallies ∧
      t.sent.getLast? = some (.desk n (.display (some .held) (some .l5) 0 .none)) := by
  intro t
  obtain ⟨h1, h2⟩ := chargeTotal hj hb he hcat
  have hcounts : (a.st n).alerts.counts .l5 = true := by
    rw [hj.alerts]
    simp [Resolver.counts, hmask, hset]
  generalize hu : a.updItem n (s.st n).ctx.items.length (fun x => { x with waiting := some .override }) = u
  have ht : t = u.requestLevel n .l5 0 (some .item) := by
    simp only [t]
    rw [checkCharge_limit hj hb hexc, State.checkLimit]
    simp only [h1, h2, if_neg (Nat.not_lt.mpr hge), hcounts, if_true]
    rw [hu]
  have hust : u.st n = { a.st n with ctx := { (a.st n).ctx with
      items := (s.st n).ctx.items ++ [{ Item.new item cls m with waiting := some .override }] } } := by
    rw [← hu, State.updItem_same, hj.modify]
  have hualerts : (u.st n).alerts = (s.st n).alerts := by rw [hust]; exact hj.alerts
  have hctx : (u.st n).ctx = { (s.st n).ctx with
      items := (s.st n).ctx.items ++ [{ Item.new item cls m with waiting := some .override }]
      timer := .running (s.st n).ctx.period } := by
    rw [hust, hj.ctx]
  obtain ⟨v, hv, hvst, -⟩ := State.requestLevel_served (s := u) (n := n) (l := .l5) (by rw [hualerts]; exact hpend)
    (by rw [hualerts]; exact hserv) (by rw [hualerts]; exact hmask) (by rw [hualerts]; exact hauto)
    (by rw [hualerts]; exact hh) 0 (some .item)
  have honly := State.requestLevel_only (s := u) (n := n) (l := .l5) (by rw [hualerts]; exact hpend)
    (by rw [hualerts]; exact hserv) (by rw [hualerts]; exact hmask) (by rw [hualerts]; exact hauto)
    (by rw [hualerts]; exact hh) 0 (some .item)
  rw [hualerts, hset, if_pos rfl] at honly
  have hbegin : (u.st n).ctx.beginHold = { (u.st n).ctx with
      tx := .held, interrupted := some .opened, timer := .gated (s.st n).ctx.period } := by
    rw [hctx]
    simp [Ctx.beginHold, ho]
  rw [hbegin] at honly
  have hrest := State.eq_of_rest (s := u) (t := u.requestLevel n .l5 0 (some .item)) (by simp)
  have hlast : (u.requestLevel n .l5 0 (some .item)).sent.getLast? =
      some (.desk n (.display (some .held) (some .l5) 0 .none)) := by
    have hvctx : (v.st n).ctx = (u.st n).ctx := by rw [hvst]
    have hvlink : (v.st n).line.link = .active := by
      rw [hvst, hust]
      exact hj.link
    have hvserv : (v.st n).alerts.inService = LevelSet.empty.insert .l5 := by
      rw [hvst]
      rfl
    have hvset : (v.st n).alerts.holdSet.mem .l5 = true := by
      rw [hvst]
      exact hualerts ▸ hset
    rw [hv, State.sent_reportHold_begins (by rw [Resolver.holds_only hvserv, hvset]) (by rw [hvst])
      (by rw [hvctx, hctx]; exact ho) hvlink, ← Resolver.showing_fst, Resolver.showing_only hvserv]
    simp
  rw [ht]
  refine ⟨{ Item.new item cls m with waiting := some .override }, ⟨?_, rfl, rfl, rfl, rfl, fun k hk => ?_⟩, ⟨?_, ?_, ?_⟩,
    rfl, rfl, ?_, ?_, ?_, ?_, ?_, ?_, ?_, ?_, ?_, ?_, hlast⟩
  · rw [honly, hctx]
  · rw [State.requestLevel_other _ hk, ← hu, State.updItem_other hk, hj.other k hk]
  · rw [hrest, ← hu, hj.rest]
    rfl
  · rw [hrest, ← hu, hj.rest]
    rfl
  · rw [hrest, ← hu, hj.rest]
    rfl
  · rw [honly]
    rfl
  · rw [honly]
    rfl
  · rw [honly]
    rfl
  · rw [honly]
    exact hset
  · rw [honly]
  · rw [honly]
  · rw [honly]
  · rw [hrest, ← hu, hj.rest]
    rfl
  · rw [hrest, ← hu, hj.rest]
    rfl
  · rw [honly, hust]
    exact hj.tallies

end

/-- Settles O9: the entry joins the list, and the exceptions, the loan limit, the service and the journal decide it. -/
theorem chargesByCase : Obligations.ChargesByCase := by
  unfold Obligations.ChargesByCase
  intro n symbol item cls b m s hv hc hlink ht hkind hb hlocked hholds hroom hawait hh scan joined tables quiet
  obtain ⟨a, hexec, hj, hsent⟩ := exec_scan_charge hv hc hlink ht hlocked hholds hroom hawait hh
  refine ⟨fun p r hp hquiet hexc => ?_, fun hexc e k he hcat => ?_⟩
  · obtain ⟨hpend, hserv, hmask, hauto⟩ := hquiet
    obtain ⟨x, y, h⟩ := chargeStops hj hb hh hp hpend hserv hmask hauto hexc
    exact ⟨_, x, y, hexec, h⟩
  · intro total counted off
    refine ⟨fun index c r hlt hcase hcal hindex hrule hsettled hloans => ?_, fun g hlim hoff hg => ?_,
      fun hge hcounted hquiet => ?_⟩
    · have hcase' : s.service.state = .offline ∨ s.freeTag = none := hcase.imp_left of_decide_eq_true
      refine ⟨fun p hf hlen heval => ?_, fun hf => ?_⟩
      · obtain ⟨x, h⟩ := chargeGrants hj hb hh hexc he hcat hkind hlt hcase' hcal hindex hrule (p := p)
          ⟨hf, by omega, heval, hsettled⟩ hloans
        exact ⟨_, x, hexec, h⟩
      · obtain ⟨x, h⟩ := chargeFull hj hb hh hexc he hcat hkind hlt hcase' hcal hindex hrule ht hf hsettled
        exact ⟨_, x, hexec, h⟩
    · obtain ⟨x, h⟩ := chargeAsks hj hb hexc he hcat hsent ht hlim (of_decide_eq_false hoff) hg
      exact ⟨_, x, hexec, h⟩
    · obtain ⟨hmask, hset⟩ := hcounted
      obtain ⟨hpend, hserv, -, hauto⟩ := hquiet
      obtain ⟨x, h⟩ := chargeWaits hj hb hh hexc he hcat ht hge hmask hset hpend hserv hauto
      exact ⟨_, x, hexec, h⟩

end Sys2Proof.Proofs
end

section
/-! SUPPORT. An item scanned in RETURNS or IDLE (R32 to R34), and the settling of O10. -/

namespace Sys2Proof.Machine

variable {s a w z : State} {n : StationNo} {p : Fin 128} {i item cls : Nat} {m : Bool} {x : Item} {xs : List Item}

/-! ### The run that the entry joins -/

/-- R32, R33: from s to a the entry x has joined the list of the run at station n, which the scan found open or has
opened. -/
structure State.running (s : State) (n : StationNo) (x : Item) (a : State) : Prop where
  items : (a.st n).ctx.items = (s.st n).ctx.items ++ [x]
  tx : (a.st n).ctx.tx = .returns
  kind : (a.st n).ctx.kind = some .discharge
  timer : (a.st n).ctx.timer = .running (s.st n).ctx.period
  alerts : (a.st n).alerts = (s.st n).alerts
  tallies : (a.st n).tallies = (s.st n).tallies
  link : (a.st n).line.link = .active
  other : ∀ k, k ≠ n → a.st k = s.st k
  rest : a = { s with stations := a.stations, mgmt := { s.mgmt with sticky := a.mgmt.sticky }, sent := a.sent }

theorem State.running.entry (h : s.running n x a) : a.entry n (s.st n).ctx.items.length = some x :=
  State.entry_split (ys := []) h.items

theorem State.running.ready (h : s.running n x a) (hp : s.ready p) : a.ready p :=
  State.ready_of hp (by rw [h.rest]) (by rw [h.rest]) (by rw [h.rest])

/-- R32, R33: a discharge of an item scanned in RETURNS or IDLE. -/
theorem exec_scan_discharge {symbol : Text} (hv : validSymbol symbol = true) (hc : classify symbol = .item item cls m)
    (hlink : (s.st n).line.link = .active) (hh : (s.st n).alerts.hold = false)
    (hrun : (s.st n).ctx.tx = .returns ∧ (s.st n).ctx.kind = some .discharge ∧ (s.st n).ctx.holdsItem item = false ∧
        (s.st n).ctx.items.length < 12 ∧ (s.st n).ctx.awaiting < 4 ∨
      (s.st n).ctx.tx = .idle ∧ (s.st n).ctx = (s.st n).ctx.cleared ∧ (s.st n).alerts.inService.mem .l0 = false) :
    ∃ w : State, exec (.scan n symbol) s = .next (w.dischargeNew n item cls m) ∧
      (w.st n).ctx.items.length = (s.st n).ctx.items.length ∧ w.exceptions = s.exceptions ∧
      ∀ x, s.running n x (w.addEntry n x) := by
  generalize hw : (s.fresh.scanned n .good).stick { classClamped := m } = w
  have hst : (w.st n).ctx = (s.st n).ctx ∧ (w.st n).alerts = (s.st n).alerts ∧ (w.st n).line.link = .active ∧
      (w.st n).tallies = (s.st n).tallies := by
    rw [← hw]
    simpa [State.scanned] using hlink
  obtain ⟨hctx, halerts, hwlink, htallies⟩ := hst
  have hother : ∀ k, k ≠ n → w.st k = s.st k := fun k hk => by
    rw [← hw]
    simp [State.scanned, hk]
  have hrest : w = { s with stations := w.stations, mgmt := { s.mgmt with sticky := w.mgmt.sticky }, sent := w.sent } := by
    rw [← hw]
    rfl
  have hexec := exec_scan_item (n := n) hv hc hlink
  rw [hw] at hexec
  rcases hrun with ⟨htx, hkind, hholds, hroom, hawait⟩ | ⟨htx, hcleared, hl0⟩
  · refine ⟨w, ?_, by rw [hctx], by rw [hrest], fun x => ?_⟩
    · rw [hexec]
      simp only [State.itemScan, hctx, htx, State.itemInReturns, hholds, halerts, hh, Bool.false_eq_true, if_false,
        Config.maxItems, Config.maxAwaiting, if_neg (Nat.not_le.mpr hroom), if_neg (Nat.not_le.mpr hawait)]
    · have hj := State.joining.addEntry (s := w) (n := n) (by rw [halerts]; exact hh) hwlink x
      have hjctx := hj.ctx
      rw [hctx] at hjctx
      exact ⟨by rw [hjctx], by rw [hjctx]; exact htx, by rw [hjctx]; exact hkind, by rw [hjctx], hj.alerts.trans halerts,
        hj.tallies.trans htallies, hj.link, fun k hk => (hj.other k hk).trans (hother k hk), by rw [hj.rest, hrest]⟩
  · have hopen : w.openRun n .none = (w.upd n Station.withRun).tone n .none := State.openRun_eq w n .none
    have hnil : (s.st n).ctx.items = [] := by rw [hcleared]; rfl
    have hust : (w.openRun n .none).st n = (w.st n).withRun := by
      rw [hopen, State.tone_st, State.st_upd_same]
    have huctx : ((w.openRun n .none).st n).ctx.items = (s.st n).ctx.items ∧
        ((w.openRun n .none).st n).ctx.period = (s.st n).ctx.period := by
      rw [hust, ← hctx]
      exact ⟨rfl, rfl⟩
    refine ⟨w.openRun n .none, ?_, by rw [huctx.1], ?_, fun x => ?_⟩
    · have hstops : (w.st n).alerts.stops = false := by simp [Resolver.stops, halerts, hl0, hh]
      rw [hexec]
      simp only [State.itemScan, hctx, htx, State.itemInIdle, hstops, Bool.false_eq_true, if_false]
    · rw [hopen, State.tone_eq, hrest]
      rfl
    · have hj := State.joining.addEntry (s := w.openRun n .none) (n := n)
        (by rw [hust]; exact halerts ▸ hh) (by rw [hust]; exact hwlink) x
      have hjctx := hj.ctx
      rw [huctx.1, huctx.2] at hjctx
      refine ⟨by rw [hjctx], by rw [hjctx, hust]; rfl, by rw [hjctx, hust]; rfl, by rw [hjctx], ?_, ?_, hj.link,
        fun k hk => ?_, ?_⟩
      · rw [hj.alerts, hust]
        exact halerts
      · rw [hj.tallies, hust]
        exact htallies
      · rw [hj.other k hk, hopen, State.tone_st, State.st_upd_other _ hk]
        exact hother k hk
      · rw [hj.rest, hopen, State.tone_eq, hrest]
        rfl

/-! ### Discharges -/

/-- R34: a discharge of the last entry of a list, in a journal that is ready. -/
theorem State.discharge_last (hp : z.ready p) (hitems : (z.st n).ctx.items = xs ++ [x]) (d : Discharge) :
    ∃ sat, (d.borrower = none → sat = false) ∧
    let y := d.entry x sat
    let t := z.discharge n xs.length d
    z.discharged t n p y d.decidedBy d.borrower d.due d.ruleIndex d.fine ∧
    (t.st n).ctx.items = xs ++ [y] ∧ t.entry n xs.length = some y ∧ (t.st n).ctx.tx = (z.st n).ctx.tx ∧
    (t.st n).ctx.kind = (z.st n).ctx.kind ∧ (t.st n).ctx.timer = (z.st n).ctx.timer ∧
    (t.st n).alerts = (z.st n).alerts ∧ (∀ k, k ≠ n → t.st k = z.st k) ∧
    t.borrowers = (z.postDischarge d.borrower d.fine).1.borrowers ∧
    t = { z with
      stations := t.stations, borrowers := t.borrowers, journal := t.journal
      mgmt := { z.mgmt with sticky := t.mgmt.sticky }, sent := t.sent } := by
  obtain ⟨sat, hsat, h1, h2, -, h3, h4, h5, h6, -, h7⟩ :=
    State.discharge_ready hp (State.entry_split (ys := []) hitems) d
  refine ⟨sat, hsat, h1, ?_, h2, ?_, ?_, ?_, h3, h5, h6, h7⟩
  · rw [h4]
    simp only [Ctx.settledEntry_keeps, hitems]
    exact modify_split xs [] x _
  · rw [h4]
    simp
  · rw [h4]
    simp
  · rw [h4]
    simp

/-- R31, R34: a discharge without a FILLING page. -/
theorem State.discharge_full (hf : s.journal.filling? = none) (ha : s.alarmsSettled) (hx : s.entry n i = some x)
    (d : Discharge) : s.discharge n i d = s.lost.refuseFull n i := by
  simp only [State.discharge, hx, State.writeStation_lost s n _ hf ha]

/-- R34: a discharge that needs no server: from the pending loan list, or with FINE_PENDING. -/
theorem State.decideDischarge_offline (hx : s.entry n i = some x) (hloan : s.loan? x.number = none)
    (hoff : s.service.state = .offline) (hh : (s.st n).alerts.hold = false)
    (hk : (s.st n).ctx.kind = some .discharge) :
    s.decideDischarge n i = s.discharge n i (.pending .localPart true false) := by
  simp only [State.decideDischarge, hx, hloan, hoff, if_true, State.takeOutcome, hh, Bool.false_eq_true, if_false,
    State.applyOutcome, hk, State.applyDischarge]

theorem State.decideDischarge_full (hx : s.entry n i = some x) (hloan : s.loan? x.number = none)
    (hoff : s.service.state ≠ .offline) (hfull : s.freeTag = none) (hh : (s.st n).alerts.hold = false)
    (hk : (s.st n).ctx.kind = some .discharge) :
    s.decideDischarge n i = s.fellBack.discharge n i (.pending .fallback false true) := by
  have hh' : (s.fellBack.st n).alerts.hold = false := hh
  have hk' : (s.fellBack.st n).ctx.kind = some .discharge := hk
  simp only [State.decideDischarge, hx, hloan, if_neg hoff, State.ask_full hfull, State.takeOutcome, hh',
    Bool.false_eq_true, if_false, State.applyOutcome, hk', State.applyDischarge]

theorem State.decideDischarge_asks (hx : s.entry n i = some x) (hloan : s.loan? x.number = none)
    (hoff : s.service.state ≠ .offline) {g : Tag} (hg : s.freeTag = some g) : s.decideDischarge n i =
      (s.asked g (s.itemQuestion n i .dischargeRequest x) 0).updItem n i fun x =>
        { x with waiting := some .reply, query := some (g, (s.queries[g].gen + 1) % 256) } := by
  simp only [State.decideDischarge, hx, hloan, if_neg hoff, State.ask_free hg, State.awaitReply]

/-- R90, R91: no decision with a due time from the pending loan list clamps a class. -/
theorem State.finedDischarge_unclamped (s : State) (d : DecidedBy) (b : Nat) (due : Time) (index : Option Nat) (cat : Nat)
    (routing : Option Routing) : (s.finedDischarge d b due index cat false routing).flags.classClamped = false := by
  have hfrom : ∀ i f, s.fineFrom i cat due s.now = some f → f.flags.classClamped = false := by
    intro i f h
    simp only [State.fineFrom] at h
    split at h
    · cases h
      exact computeFine_unclamped _ _ _ _ _ _
    · cases h
  simp only [State.finedDischarge]
  split <;> rename_i h
  · split at h
    · obtain ⟨i, rfl, hf⟩ := Option.bind_eq_some_iff.mp h
      simp [hfrom i _ hf]
    · cases h
  · rfl

/-- R34: a discharge decided without the server, while the service is OFFLINE. -/
theorem State.decideDischarge_pends (hp : z.ready p) (hitems : (z.st n).ctx.items = xs ++ [x])
    (hloan : z.loan? x.number = none) (hoff : z.service.state = .offline) (hh : (z.st n).alerts.hold = false)
    (hk : (z.st n).ctx.kind = some .discharge) :
    let y := (Discharge.pending .localPart true false).entry x false
    let t := z.decideDischarge n xs.length
    z.discharged t n p y .localPart none none none none ∧ (t.st n).ctx.items = xs ++ [y] ∧
    (t.st n).ctx.tx = (z.st n).ctx.tx ∧ (t.st n).ctx.kind = (z.st n).ctx.kind ∧
    (t.st n).ctx.timer = (z.st n).ctx.timer ∧ (t.st n).alerts = (z.st n).alerts ∧ (∀ k, k ≠ n → t.st k = z.st k) ∧
    t = { z with
      stations := t.stations, journal := t.journal, mgmt := { z.mgmt with sticky := t.mgmt.sticky }, sent := t.sent } := by
  intro y t
  have hx : z.entry n xs.length = some x := State.entry_split (ys := []) hitems
  obtain ⟨sat, hsat, h1, h2, -, h3, h4, h5, h6, h7, hb, hrest⟩ :=
    State.discharge_last hp hitems (.pending .localPart true false)
  rw [← State.decideDischarge_offline hx hloan hoff hh hk, hsat rfl] at *
  refine ⟨h1, h2, h3, h4, h5, h6, h7, ?_⟩
  rw [show t.borrowers = z.borrowers from hb] at hrest
  exact hrest

end Sys2Proof.Machine

namespace Sys2Proof.Proofs
open Sys2Proof Sys2Proof.Machine

/-- R33: at t the entry x, of the scanned item, has joined the list of the run at station n; no other station has changed
since s. -/
def returnsWith (s t : State) (n : StationNo) (item cls : Nat) (m : Bool) (x : Item) : Prop :=
  (t.st n).ctx.items = (s.st n).ctx.items ++ [x] ∧ x.number = item ∧ x.cls = cls ∧ x.flags.classClamped = m ∧
    (t.st n).ctx.tx = .returns ∧ (t.st n).ctx.kind = some .discharge ∧ ∀ k, k ≠ n → t.st k = s.st k

section
variable {s a : State} {n : StationNo} {item cls : Nat} {m : Bool} {p : Fin 128}

/-! ### Without an exception, in a journal that is ready -/

/-- R34: the discharge of the entry that has joined the run, whatever the service counts meanwhile. -/
theorem runDischarges (hr : s.running n (.new item cls m) a) (hp : s.ready p) {z : State}
    (hz : z = { a with service := z.service, mgmt := { a.mgmt with sticky := z.mgmt.sticky } }) {d : Discharge}
    (hclass : d.flags.classClamped = false) :
    ∃ sat, (d.borrower = none → sat = false) ∧
    let x := d.entry (.new item cls m) sat
    let t := z.discharge n (s.st n).ctx.items.length d
    returnsWith s t n item cls m x ∧ (t.st n).ctx.timer = .running (s.st n).ctx.period ∧
    s.discharged t n p x d.decidedBy d.borrower d.due d.ruleIndex d.fine ∧
    t.entry n (s.st n).ctx.items.length = some x ∧ t.loans = s.loans ∧ t.service = z.service := by
  have hzst : ∀ k, z.st k = a.st k := fun k => by rw [hz]; rfl
  have hzrest : z = { s with
      stations := a.stations, service := z.service, mgmt := { s.mgmt with sticky := z.mgmt.sticky }, sent := a.sent } := by
    rw [hz, hr.rest]
  obtain ⟨sat, hsat, h1, h2, h3, h4, h5, h6, -, h8, -, hrest⟩ := State.discharge_last (z := z)
    (State.ready_of hp (by rw [hzrest]) (by rw [hzrest]) (by rw [hzrest])) (by rw [hzst]; exact hr.items) d
  refine ⟨sat, hsat, ⟨h2, rfl, rfl, ?_, ?_, ?_, fun k hk => ?_⟩, ?_, ?_, h3, ?_, ?_⟩
  · simp [Discharge.entry, Item.new, hclass]
  · rw [h4, hzst, hr.tx]
  · rw [h5, hzst, hr.kind]
  · rw [h8 k hk, hzst, hr.other k hk]
  · rw [h6, hzst, hr.timer]
  · exact State.discharged_congr h1 ⟨by rw [hzrest], by rw [hzrest], by rw [hzrest], by rw [hzst, hr.tallies]⟩
      ⟨rfl, rfl, rfl⟩
  · rw [hrest, hzrest]
  · rw [hrest]

/-- R34, R91, R128: an item on the pending loan list. -/
theorem returnsFromLoan (hr : s.running n (.new item cls m) a) (hp : s.ready p) {l : PendingLoan}
    (hloan : s.loan? item = some l) :
    let t := a.decideDischarge n (s.st n).ctx.items.length
    ∃ x : Item, returnsWith s t n item cls m x ∧ (t.st n).ctx.timer = .running (s.st n).ctx.period ∧
      ∀ f, s.canFine = true →
        s.fineFrom l.ruleIndex (((s.borrower? l.borrower).map (·.category)).getD 15) l.due s.now = some f →
        s.discharged t n p x .localPart (some l.borrower) (some l.due) (some l.ruleIndex) (some f) ∧
          t.loans = s.loans.filter (fun y => y.item != item) := by
  intro t
  have hitem : l.item = item := by simpa using List.find?_some hloan
  generalize hd : a.finedDischarge .localPart l.borrower l.due (some l.ruleIndex) (a.fineCategory (some l.borrower)) false
    none = d
  have hclass : d.flags.classClamped = false := by rw [← hd]; exact a.finedDischarge_unclamped _ _ _ _ _ _
  obtain ⟨sat, -, h1, h2, h3, h4, h5, -⟩ := runDischarges hr hp (z := a.stick d.flags.sticky) rfl hclass
  have ht : t = ((a.stick d.flags.sticky).discharge n (s.st n).ctx.items.length d).dropLoan item := by
    have haloan : a.loan? (Item.new item cls m).number = some l := by rw [hr.rest]; exact hloan
    have hret : (d.entry (.new item cls m) sat).state = .returned := rfl
    simp only [t, State.decideDischarge, hr.entry, haloan, State.dischargeLoan, hd, h4, hret, if_true, hitem]
  rw [ht]
  refine ⟨d.entry (.new item cls m) sat, h1, h2, fun f hcan hf => ⟨?_, ?_⟩⟩
  · have hcat : a.fineCategory (some l.borrower) = ((s.borrower? l.borrower).map (·.category)).getD 15 := by
      rw [show a.fineCategory (some l.borrower) = s.fineCategory (some l.borrower) by rw [hr.rest]; rfl]
      simp only [State.fineCategory, Option.bind_some]
      cases s.borrower? l.borrower <;> rfl
    have hacan : a.canFine = true := by rw [hr.rest]; exact hcan
    have haf : a.fineFrom l.ruleIndex (a.fineCategory (some l.borrower)) l.due a.now = some f := by
      rw [hcat, ← hf, hr.rest]
      rfl
    have hfine : d.fine = some f := by
      rw [← hd]
      simp only [State.finedDischarge, hacan, if_true, Option.bind_some, haf]
    rw [hfine] at h3
    rw [← hd] at h3 ⊢
    exact State.discharged_congr h3 ⟨rfl, rfl, rfl, rfl⟩ ⟨rfl, rfl, rfl⟩
  · rw [State.dropLoan, h5]

/-- R34, R92: an item off the pending loan list, decided by FINE_PENDING at once. -/
theorem returnsPending (hr : s.running n (.new item cls m) a) (hp : s.ready p) (hh : (s.st n).alerts.hold = false)
    (hloan : s.loan? item = none) (hcase : s.service.state = .offline ∨ s.freeTag = none) :
    let off := decide (s.service.state = .offline)
    let t := a.decideDischarge n (s.st n).ctx.items.length
    ∃ x : Item, returnsWith s t n item cls m x ∧ (t.st n).ctx.timer = .running (s.st n).ctx.period ∧
      s.discharged t n p x (if off then .localPart else .fallback) none none none none ∧ x.flags.finePending = true ∧
      x.flags.offlineDecided = off ∧ t.loans = s.loans ∧
      (off = false → t.service.stats.fallbacks = min 4294967295 (s.service.stats.fallbacks + 1)) := by
  intro off t
  have haloan : a.loan? (Item.new item cls m).number = none := by rw [hr.rest]; exact hloan
  have hservice : a.service = s.service := by rw [hr.rest]
  have hahold : (a.st n).alerts.hold = false := by rw [hr.alerts]; exact hh
  by_cases hoff : s.service.state = .offline
  · have ho : off = true := decide_eq_true hoff
    have ht : t = a.discharge n (s.st n).ctx.items.length (.pending .localPart true false) :=
      State.decideDischarge_offline hr.entry haloan (by rw [hservice]; exact hoff) hahold hr.kind
    obtain ⟨sat, -, h1, h2, h3, -, h5, -⟩ := runDischarges hr hp (z := a) rfl (d := .pending .localPart true false) rfl
    rw [ht, ho]
    exact ⟨_, h1, h2, h3, rfl, rfl, h5, nofun⟩
  · have ho : off = false := decide_eq_false hoff
    have hfree : a.freeTag = none := by
      rw [hr.rest]
      exact hcase.resolve_left hoff
    have ht : t = a.fellBack.discharge n (s.st n).ctx.items.length (.pending .fallback false true) :=
      State.decideDischarge_full hr.entry haloan (by rw [hservice]; exact hoff) hfree hahold hr.kind
    obtain ⟨sat, -, h1, h2, h3, -, h5, h6⟩ :=
      runDischarges hr hp (z := a.fellBack) rfl (d := .pending .fallback false true) rfl
    rw [ht, ho]
    refine ⟨_, h1, h2, h3, rfl, rfl, h5, fun _ => ?_⟩
    rw [h6, ← hservice]
    rfl

/-- R34, R110, R111: an item off the pending loan list, asked of the server. -/
theorem returnsAsked (hr : s.running n (.new item cls m) a) (hloan : s.loan? item = none)
    (hoff : s.service.state ≠ .offline) {g : Tag} (hg : s.freeTag = some g) :
    let gen := (s.queries[g].gen + 1) % 256
    let q : Question := ⟨n, .dischargeRequest, item, none, some (s.st n).ctx.items.length.succ⟩
    let t := a.decideDischarge n (s.st n).ctx.items.length
    ∃ x : Item, returnsWith s t n item cls m x ∧ (t.st n).ctx.timer = .running (s.st n).ctx.period ∧
      x.state = .awaiting ∧ x.waiting = some .reply ∧ x.query = some (g, gen) ∧
      t.queries = s.queries.set g ⟨gen, .waiting q s.service.patience⟩ ∧ .trunk (.query g.val gen q 0) ∈ t.sent ∧
      t.journal = s.journal ∧ t.borrowers = s.borrowers ∧ t.loans = s.loans ∧ (t.st n).tallies = (s.st n).tallies := by
  intro gen q t
  have haloan : a.loan? (Item.new item cls m).number = none := by rw [hr.rest]; exact hloan
  have hservice : a.service = s.service := by rw [hr.rest]
  have hqueries : a.queries = s.queries := by rw [hr.rest]
  have ht := State.decideDischarge_asks hr.entry haloan (by rw [hservice]; exact hoff) (g := g) (by rw [hr.rest]; exact hg)
  rw [hqueries, show a.itemQuestion n (s.st n).ctx.items.length .dischargeRequest (.new item cls m) = q from rfl] at ht
  generalize hw : a.asked g q 0 = w at ht
  have hwst : ∀ k, w.st k = a.st k := fun k => by rw [← hw]; rfl
  have htst : t.st n = { a.st n with ctx := { (a.st n).ctx with
      items := (s.st n).ctx.items ++ [{ Item.new item cls m with waiting := some .reply, query := some (g, gen) }] } } := by
    simp only [t]
    rw [ht, State.updItem_same, hwst, hr.items, modify_split (s.st n).ctx.items [] (Item.new item cls m)]
  have htrest : t = { w with stations := t.stations } := by
    simp only [t]
    rw [ht]
    rfl
  have hwrest : w = { s with
      stations := w.stations, queries := s.queries.set g ⟨gen, .waiting q s.service.patience⟩, service := w.service
      mgmt := { s.mgmt with sticky := w.mgmt.sticky }, sent := a.sent ++ [.trunk (.query g.val gen q 0)] } := by
    rw [← hw, hr.rest]
    rfl
  refine ⟨{ Item.new item cls m with waiting := some .reply, query := some (g, gen) },
    ⟨?_, rfl, rfl, rfl, ?_, ?_, fun k hk => ?_⟩, ?_, rfl, rfl, rfl, ?_, ?_, ?_, ?_, ?_, ?_⟩
  · rw [htst]
  · rw [htst]
    exact hr.tx
  · rw [htst]
    exact hr.kind
  · simp only [t]
    rw [ht, State.updItem_other hk, hwst, hr.other k hk]
  · rw [htst]
    exact hr.timer
  · rw [htrest, hwrest]
  · rw [htrest, hwrest]
    simp
  · rw [htrest, hwrest]
  · rw [htrest, hwrest]
  · rw [htrest, hwrest]
  · rw [htst]
    exact hr.tallies

/-! ### A full journal -/

/-- R31, R34: a discharge without a FILLING page. -/
theorem returnsFull {z : State} (hr : s.running n (.new item cls m) a) (hf : s.journal.filling? = none)
    (ha : s.alarmsSettled) (hz : z = { a with mgmt := { a.mgmt with sticky := z.mgmt.sticky } }) (d : Discharge) :
    let t := z.discharge n (s.st n).ctx.items.length d
    let x := (Item.new item cls m).refused none
    returnsWith s t n item cls m x ∧ t.entry n (s.st n).ctx.items.length = some x ∧
      t.borrowers = s.borrowers ∧ t.loans = s.loans ∧ t.journal = s.lost.journal ∧
      t.mgmt.sticky.journalOverflowed = true ∧ (t.st n).tallies = ((s.refusalCounted n).st n).tallies ∧
      t.sent.getLast? = some (.desk n (.display (some .returns) (s.st n).alerts.displayed 250 .refuse)) := by
  intro t x
  have hzst : ∀ k, z.lost.st k = a.st k := fun k => by rw [hz]; rfl
  have hzrest : z = { s with
      stations := a.stations, mgmt := { s.mgmt with sticky := z.mgmt.sticky }, sent := a.sent } := by
    rw [hz, hr.rest]
  have hzx : z.entry n (s.st n).ctx.items.length = some (.new item cls m) := by rw [hz]; exact hr.entry
  have ht : t = z.lost.refuseFull n (s.st n).ctx.items.length :=
    State.discharge_full (by rw [hzrest]; exact hf) (by rw [hzrest]; exact ha) hzx d
  obtain ⟨h1, h2, h3, h4, h5⟩ := State.refuseFull_leaves (s := z.lost) (n := n) (i := (s.st n).ctx.items.length)
    (x := .new item cls m) (by rw [State.entry, hzst]; exact hr.entry)
  rw [← ht] at h1 h2 h3 h4 h5
  rw [hzst] at h1 h2 h5
  rw [hr.items, modify_split (s.st n).ctx.items [] (Item.new item cls m)] at h1
  refine ⟨⟨?_, rfl, rfl, rfl, ?_, ?_, fun k hk => ?_⟩, ?_, ?_, ?_, ?_, ?_, ?_, ?_⟩
  · rw [h1]
  · rw [h1]
    exact hr.tx
  · rw [h1]
    exact hr.kind
  · rw [h3 k hk, hzst, hr.other k hk]
  · exact State.entry_split (ys := []) (by rw [h1])
  · rw [h4, show z.lost.borrowers = z.borrowers from rfl, hzrest]
  · rw [h4, show z.lost.loans = z.loans from rfl, hzrest]
  · rw [h4]
    exact State.lost_journal (by rw [hzrest])
  · rw [h4]
    rfl
  · rw [h2, hr.tallies]
    simp [State.refusalCounted]
  · rw [h5 hr.link, hr.tx, hr.alerts]
    simp

/-- R31, R34: an item that the pending loan list or the service OFFLINE decides, without a FILLING page. -/
theorem returnsRefused (hr : s.running n (.new item cls m) a) (hh : (s.st n).alerts.hold = false)
    (hf : s.journal.filling? = none) (ha : s.alarmsSettled)
    (hcase : (s.loan? item).isSome = true ∨ s.service.state = .offline) :
    let t := a.decideDischarge n (s.st n).ctx.items.length
    ∃ x : Item, returnsWith s t n item cls m x ∧ x.state = .refused ∧ x.fine = none ∧ x.decidedBy = none ∧
      t.borrowers = s.borrowers ∧ t.loans = s.loans ∧ t.journal = s.lost.journal ∧
      t.mgmt.sticky.journalOverflowed = true ∧ (t.st n).tallies = ((s.refusalCounted n).st n).tallies ∧
      t.sent.getLast? = some (.desk n (.display (some .returns) (s.st n).alerts.displayed 250 .refuse)) := by
  intro t
  have haloan : a.loan? (Item.new item cls m).number = s.loan? item := by rw [hr.rest]; rfl
  cases hloan : s.loan? item with
  | some l =>
    generalize hd : a.finedDischarge .localPart l.borrower l.due (some l.ruleIndex) (a.fineCategory (some l.borrower)) false
      none = d
    obtain ⟨h1, hent, h⟩ := returnsFull hr hf ha (z := a.stick d.flags.sticky) rfl d
    have ht : t = (a.stick d.flags.sticky).discharge n (s.st n).ctx.items.length d := by
      have hne : ¬ ((Item.new item cls m).refused none).state = .returned := nofun
      simp only [t, State.decideDischarge, hr.entry, haloan, hloan, State.dischargeLoan, hd, hent, if_neg hne]
    rw [ht]
    exact ⟨(Item.new item cls m).refused none, h1, rfl, rfl, rfl, h⟩
  | none =>
    have hoff : s.service.state = .offline := hcase.resolve_left (by simp [hloan])
    obtain ⟨h1, -, h⟩ := returnsFull hr hf ha (z := a) rfl (.pending .localPart true false)
    have ht : t = a.discharge n (s.st n).ctx.items.length (.pending .localPart true false) :=
      State.decideDischarge_offline hr.entry (haloan.trans hloan) (by rw [hr.rest]; exact hoff)
        (by rw [hr.alerts]; exact hh) hr.kind
    rw [ht]
    exact ⟨(Item.new item cls m).refused none, h1, rfl, rfl, rfl, h⟩

/-! ### With an exception -/

/-- R33, R69: the hold routing that an exception gives. -/
def exceptionRouting : ExceptionKind → Option Routing
  | .hold h => some (.digits (h % 10000))
  | _ => none

/-- R33, R69: whether an exception requests L6 at a discharge. -/
def exceptionAlerts : ExceptionKind → Bool
  | .hold _ | .missing => true
  | _ => false

/-- R33: at z the entry x, of the scanned item, stands in the run, ready for its decision. -/
structure undecided (s z : State) (n : StationNo) (item cls : Nat) (m : Bool) (p : Fin 128) (x : Item) : Prop where
  joined : returnsWith s z n item cls m x
  ready : z.ready p
  alerts : (z.st n).alerts = (s.st n).alerts
  borrowers : z.borrowers = s.borrowers
  loans : z.loans = s.loans
  service : z.service = s.service

/-- R33: the entry of an item that no exception has met yet. -/
theorem running_undecided {x : Item} (hr : s.running n x a) (hp : s.ready p) (hnum : x.number = item) (hcls : x.cls = cls)
    (hm : x.flags.classClamped = m) : undecided s a n item cls m p x where
  joined := ⟨hr.items, hnum, hcls, hm, hr.tx, hr.kind, hr.other⟩
  ready := hr.ready hp
  alerts := hr.alerts
  borrowers := by rw [hr.rest]
  loans := by rw [hr.rest]
  service := by rw [hr.rest]

/-- R33: a MISSING item is found: its exception goes, and its record precedes the decision. -/
theorem undecided_found {x : Item} (hr : s.running n x a) (hroom : s.roomFor p 2) (hnum : x.number = item)
    (hcls : x.cls = cls) (hm : x.flags.classClamped = m) :
    let z := (a.dropException item).itemFound n x
    undecided s z n item cls m p x ∧ z.exceptions = a.exceptions.filter (fun y => y.item != item) ∧
    ∃ y : Record, z.journal.pages[p].records = s.journal.pages[p].records ++ [y] ∧ y.kind = .stationEvent ∧
      y.detail = some .itemFound ∧ y.item = some item := by
  intro z
  generalize hv : a.dropException item = v
  have hvst : ∀ k, v.st k = a.st k := fun k => by rw [← hv]; rfl
  have hvp : v.ready p := by rw [← hv]; exact State.ready_of (hr.ready hroom.ready) rfl rfl rfl
  have hz : z = v.journaled n p (v.foundOf n x) := by
    rw [← State.itemFound_ready hvp, ← hv]
  generalize hf : v.foundOf n x = f at hz
  have hparts := State.journaled_parts v n p f
  have hother := fun k (hk : k ≠ n) => State.journaled_other (s := v) hk p f
  rw [← hz] at hparts hother
  obtain ⟨-, halerts, -, -, htx, hkind, -, hitems, -, -⟩ := hparts
  rw [hvst] at halerts htx hkind hitems
  have hzrest : z = { a with
      stations := z.stations, exceptions := a.exceptions.filter (fun y => y.item != item), journal := z.journal } := by
    rw [hz, ← hv]
    rfl
  generalize hg : { f with flags := f.flags.union (v.st n).ctx.stationFlags } = g
  have hjournal : z.journal = (s.recorded p g).journal := by
    rw [hz, State.journaled_journal, hg]
    refine State.recorded_journal ?_ p g
    rw [← hv, show (a.dropException item).journal = a.journal from rfl, hr.rest]
  have hstands : z.mgmt.alarms = s.mgmt.alarms ∧ z.mgmt.alarmCond = s.mgmt.alarmCond := by
    rw [hzrest, hr.rest]
    exact ⟨rfl, rfl⟩
  refine ⟨⟨⟨?_, hnum, hcls, hm, ?_, ?_, fun k hk => ?_⟩, ?_, ?_, ?_, ?_, ?_⟩, ?_, { g with seq := s.journal.counter }, ?_, ?_, ?_, ?_⟩
  · exact hitems.trans hr.items
  · exact htx.trans hr.tx
  · exact hkind.trans hr.kind
  · rw [hother k hk, hvst, hr.other k hk]
  · exact State.ready_of (hroom.recorded g).ready hjournal hstands.1 hstands.2
  · exact halerts.trans hr.alerts
  · rw [hzrest, hr.rest]
  · rw [hzrest, hr.rest]
  · rw [hzrest, hr.rest]
  · rw [hzrest]
  · rw [hjournal]
    simp [State.recorded]
  · rw [← hg, ← hf]
    rfl
  · rw [← hg, ← hf]
    rfl
  · rw [← hg, ← hf, ← hnum]
    rfl

/-- R33: a discharge that meets an exception, up to its decision. -/
theorem dischargeNew_excepted {w : State} (hlen : (w.st n).ctx.items.length = (s.st n).ctx.items.length)
    (hexcs : w.exceptions = s.exceptions) (hr : ∀ x, s.running n x (w.addEntry n x)) (hroom : s.roomFor p 2)
    {kind : ExceptionKind} (hkind : s.exception? item = some kind) :
    ∃ (z : State) (x : Item) (found : List Record), w.dischargeNew n item cls m =
        (if exceptionAlerts kind then (z.decideDischarge n (s.st n).ctx.items.length).requestLevel n .l6 0 none
         else z.decideDischarge n (s.st n).ctx.items.length) ∧
      undecided s z n item cls m p x ∧ x.routing = exceptionRouting kind ∧
      z.exceptions = (if kind = .missing then s.exceptions.filter (fun y => y.item != item) else s.exceptions) ∧
      z.journal.pages[p].records = s.journal.pages[p].records ++ found ∧
      found.map (fun y => (y.kind, y.detail, y.item)) =
        if kind = .missing then [(.stationEvent, some .itemFound, some item)] else [] := by
  have hwexc : w.exception? item = some kind := by
    rw [← hkind]
    simp only [State.exception?, hexcs]
  have hkept : ∀ x, (w.addEntry n x).exceptions = s.exceptions := fun _ => hexcs
  have hjournal : ∀ x, (w.addEntry n x).journal.pages[p].records = s.journal.pages[p].records ++ [] := fun x => by
    rw [(hr x).rest, List.append_nil]
  have hnew : ∀ x : Item, x.number = item → x.cls = cls → x.flags.classClamped = m →
      undecided s (w.addEntry n x) n item cls m p x := fun x => running_undecided (hr x) hroom.ready
  cases kind with
  | hold h =>
    refine ⟨w.addEntry n { Item.new item cls m with routing := some (.digits (h % 10000)) }, _, [], ?_,
      hnew _ rfl rfl rfl, rfl, hkept _, hjournal _, rfl⟩
    simp only [State.dischargeNew, hwexc, hlen, exceptionAlerts, if_true]
  | missing =>
    obtain ⟨h1, h2, y, h3, hk, hd, hi⟩ := undecided_found (item := item) (cls := cls) (m := m) (hr (.new item cls m)) hroom
      rfl rfl rfl
    refine ⟨_, _, [y], ?_, h1, rfl, h2.trans (by rw [hkept, if_pos rfl]), h3, by simp [hk, hd, hi]⟩
    simp only [State.dischargeNew, hwexc, hlen, exceptionAlerts, if_true]
  | reference =>
    refine ⟨w.addEntry n (.new item cls m), _, [], ?_, hnew _ rfl rfl rfl, rfl, hkept _, hjournal _, rfl⟩
    simp only [State.dischargeNew, hwexc, hlen, exceptionAlerts, Bool.false_eq_true, if_false]
  | withdrawn =>
    refine ⟨w.addEntry n (.new item cls m), _, [], ?_, hnew _ rfl rfl rfl, rfl, hkept _, hjournal _, rfl⟩
    simp only [State.dischargeNew, hwexc, hlen, exceptionAlerts, Bool.false_eq_true, if_false]

/-- R34: the entry decided with the service OFFLINE. -/
theorem undecided_pends {z : State} {x : Item} (hz : undecided s z n item cls m p x) (hloan : s.loan? item = none)
    (hoff : s.service.state = .offline) (hh : (s.st n).alerts.hold = false) :
    let t := z.decideDischarge n (s.st n).ctx.items.length
    ∃ (y : Item) (r : Record), returnsWith s t n item cls m y ∧ y.state = .returned ∧ y.flags.finePending = true ∧
      y.decidedBy = some .localPart ∧ t.borrowers = s.borrowers ∧ t.loans = s.loans ∧ y.routing = x.routing ∧
      t.exceptions = z.exceptions ∧ (t.st n).alerts = (s.st n).alerts ∧
      t.journal.pages[p].records = z.journal.pages[p].records ++ [r] ∧ r.kind = .discharge ∧ r.item = some item := by
  intro t
  obtain ⟨⟨hitems, hnum, hcls, hm, htx, hkind, hother⟩, hp, halerts, hborrowers, hloans, hservice⟩ := hz
  have hzloan : z.loan? x.number = none := by
    rw [hnum, ← hloan]
    simp only [State.loan?, hloans]
  obtain ⟨hdis, h2, h3, h4, -, h6, h7, hrest⟩ :=
    State.decideDischarge_pends hp hitems hzloan (by rw [hservice]; exact hoff) (by rw [halerts]; exact hh) hkind
  obtain ⟨-, -, -, ⟨r, hr, hrk, -, -, -, -, hri, -⟩, -⟩ := hdis
  generalize hy : (Discharge.pending .localPart true false).entry x false = y at *
  have hyr : y.routing = x.routing := by
    rw [← hy]
    simp only [Discharge.entry, Discharge.pending]
    cases x.routing <;> rfl
  have hyn : y.number = x.number ∧ y.cls = x.cls ∧ y.state = .returned ∧ y.decidedBy = some .localPart := by
    rw [← hy]
    exact ⟨rfl, rfl, rfl, rfl⟩
  have hyf : y.flags.classClamped = m ∧ y.flags.finePending = true := by
    rw [← hy]
    simp [Discharge.entry, Discharge.pending, ResultFlags.union, hm]
  obtain ⟨hyn, hyc, hys, hyd⟩ := hyn
  refine ⟨y, r, ⟨h2, hyn.trans hnum, hyc.trans hcls, hyf.1, h3.trans htx, h4.trans hkind,
    fun k hk => (h7 k hk).trans (hother k hk)⟩, hys, hyf.2, hyd, ?_, ?_, hyr, ?_, h6.trans halerts, hr, hrk, ?_⟩
  · rw [← hborrowers]
    exact congrArg (·.borrowers) hrest
  · rw [← hloans]
    exact congrArg (·.loans) hrest
  · exact congrArg (·.exceptions) hrest
  · rw [hri, hyn, hnum]

/-- R33: L6 requested once the entry is decided. -/
theorem returnsWith_alerted {t : State} {y : Item} (h : returnsWith s t n item cls m y)
    (halerts : (t.st n).alerts = (s.st n).alerts) (hh : (s.st n).alerts.hold = false)
    (hpend : (s.st n).alerts.pending = .empty) (hserv : (s.st n).alerts.inService = .empty)
    (hmask : (s.st n).alerts.mask.mem .l6 = false) (hauto : (s.st n).alerts.autoAck.mem .l6 = false) :
    returnsWith s (t.requestLevel n .l6 0 none) n item cls m y ∧
      ((t.requestLevel n .l6 0 none).st n).alerts.inService = LevelSet.empty.insert .l6 := by
  obtain ⟨hitems, hnum, hcls, hm, htx, hkind, hother⟩ := h
  have honly := State.requestLevel_only (s := t) (n := n) (l := .l6) (by rw [halerts]; exact hpend)
    (by rw [halerts]; exact hserv) (by rw [halerts]; exact hmask) (by rw [halerts]; exact hauto)
    (by rw [halerts]; exact hh) 0 none
  have hbegin : (t.st n).ctx.beginHold.tx = .returns := by simp [Ctx.beginHold, htx]
  refine ⟨⟨?_, hnum, hcls, hm, ?_, ?_, fun k hk => ?_⟩, ?_⟩
  · rw [State.requestLevel_items, hitems]
  · rw [honly]
    split
    · exact hbegin
    · exact htx
  · rw [honly]
    split <;> simp [hkind]
  · rw [State.requestLevel_other _ hk, hother k hk]
  · rw [honly]
    rfl

/-- R33, R34, R69: a discharge that meets an exception, with the service OFFLINE. -/
theorem returnsExcepted {w : State} (hlen : (w.st n).ctx.items.length = (s.st n).ctx.items.length)
    (hexcs : w.exceptions = s.exceptions) (hr : ∀ x, s.running n x (w.addEntry n x)) (hroom : s.roomFor p 2)
    {kind : ExceptionKind} (hkind : s.exception? item = some kind) (hloan : s.loan? item = none)
    (hoff : s.service.state = .offline) (hh : (s.st n).alerts.hold = false)
    (hpend : (s.st n).alerts.pending = .empty) (hserv : (s.st n).alerts.inService = .empty)
    (hmask : (s.st n).alerts.mask.mem .l6 = false) (hauto : (s.st n).alerts.autoAck.mem .l6 = false) :
    let t := w.dischargeNew n item cls m
    ∃ (x : Item) (r : Record) (found : List Record), returnsWith s t n item cls m x ∧ x.state = .returned ∧
      x.flags.finePending = true ∧ x.decidedBy = some .localPart ∧ t.borrowers = s.borrowers ∧ t.loans = s.loans ∧
      x.routing = exceptionRouting kind ∧
      t.exceptions = (if kind = .missing then s.exceptions.filter (fun y => y.item != item) else s.exceptions) ∧
      (t.st n).alerts.inService = (if exceptionAlerts kind then LevelSet.empty.insert .l6 else .empty) ∧
      t.journal.pages[p].records = s.journal.pages[p].records ++ (found ++ [r]) ∧ r.kind = .discharge ∧
      r.item = some item ∧ found.map (fun y => (y.kind, y.detail, y.item)) =
        if kind = .missing then [(.stationEvent, some .itemFound, some item)] else [] := by
  intro t
  obtain ⟨z, x, found, ht, hz, hx, hze, hzr, hfound⟩ :=
    dischargeNew_excepted (cls := cls) (m := m) hlen hexcs hr hroom hkind
  obtain ⟨y, r, h1, h2, h3, h4, h5, h6, h7, h8, h9, h10, h11, h12⟩ := undecided_pends hz hloan hoff hh
  generalize z.decideDischarge n (s.st n).ctx.items.length = u at *
  rw [hzr, List.append_assoc] at h10
  have ht' : t = if exceptionAlerts kind then u.requestLevel n .l6 0 none else u := ht
  rw [ht']
  cases exceptionAlerts kind with
  | false =>
    simp only [Bool.false_eq_true, if_false]
    exact ⟨y, r, found, h1, h2, h3, h4, h5, h6, h7.trans hx, h8.trans hze, (congrArg (·.inService) h9).trans hserv, h10, h11,
      h12, hfound⟩
  | true =>
    obtain ⟨h1', hserv'⟩ := returnsWith_alerted h1 h9 hh hpend hserv hmask hauto
    simp only [if_true]
    refine ⟨y, r, found, h1', h2, h3, h4, ?_, ?_, h7.trans hx, ?_, hserv', ?_, h11, h12, hfound⟩
    · simpa using h5
    · simpa using h6
    · simpa using h8.trans hze
    · simpa using h10

/-! ### The settling of O10 -/

/-- R32 to R34: a discharge that meets no exception, in a journal that is ready. -/
theorem returnsReady (hr : s.running n (.new item cls m) a) (hp : s.ready p) (hh : (s.st n).alerts.hold = false) :
    let t := a.decideDischarge n (s.st n).ctx.items.length
    ∃ x : Item, returnsWith s t n item cls m x ∧ (t.st n).ctx.timer = .running (s.st n).ctx.period ∧
      (∀ l f, s.loan? item = some l → s.canFine = true →
        s.fineFrom l.ruleIndex (((s.borrower? l.borrower).map (·.category)).getD 15) l.due s.now = some f →
        s.discharged t n p x .localPart (some l.borrower) (some l.due) (some l.ruleIndex) (some f) ∧
          t.loans = s.loans.filter (fun y => y.item != item)) ∧
      (s.loan? item = none → s.service.state = .offline →
        s.discharged t n p x .localPart none none none none ∧ x.flags.finePending = true ∧
          x.flags.offlineDecided = true ∧ t.loans = s.loans) ∧
      (s.loan? item = none → s.service.state ≠ .offline → s.freeTag = none →
        s.discharged t n p x .fallback none none none none ∧ x.flags.finePending = true ∧
          x.flags.offlineDecided = false ∧ t.loans = s.loans ∧
          t.service.stats.fallbacks = min 4294967295 (s.service.stats.fallbacks + 1)) ∧
      (s.loan? item = none → s.service.state ≠ .offline → ∀ g : Tag, s.freeTag = some g →
        let gen := (s.queries[g].gen + 1) % 256
        let q : Question := ⟨n, .dischargeRequest, item, none, some (s.st n).ctx.items.length.succ⟩
        x.state = .awaiting ∧ x.waiting = some .reply ∧ x.query = some (g, gen) ∧
          t.queries = s.queries.set g ⟨gen, .waiting q s.service.patience⟩ ∧
          .trunk (.query g.val gen q 0) ∈ t.sent ∧ t.journal = s.journal ∧ t.borrowers = s.borrowers ∧
          t.loans = s.loans ∧ (t.st n).tallies = (s.st n).tallies) := by
  intro t
  cases hloan : s.loan? item with
  | some l =>
    obtain ⟨x, h1, h2, h3⟩ := returnsFromLoan hr hp hloan
    refine ⟨x, h1, h2, fun l' f hl => ?_, fun h => ?_, fun h => ?_, fun h => ?_⟩
    · cases hl
      exact h3 f
    · cases h
    · cases h
    · cases h
  | none =>
    by_cases hcase : s.service.state = .offline ∨ s.freeTag = none
    · obtain ⟨x, h1, h2, h3, h4, h5, h6, h7⟩ := returnsPending hr hp hh hloan hcase
      refine ⟨x, h1, h2, fun l f hl => ?_, fun _ hoff => ?_, fun _ hoff _ => ?_, fun _ hoff g hg => ?_⟩
      · cases hl
      · rw [decide_eq_true hoff] at h3 h5
        exact ⟨h3, h4, h5, h6⟩
      · rw [decide_eq_false hoff] at h3 h5
        exact ⟨h3, h4, h5, h6, h7 (decide_eq_false hoff)⟩
      · rw [hcase.resolve_left hoff] at hg
        cases hg
    · obtain ⟨hoff, hfree⟩ := not_or.mp hcase
      obtain ⟨g, hg⟩ := Option.ne_none_iff_exists'.mp hfree
      obtain ⟨x, h1, h2, h3⟩ := returnsAsked hr hloan hoff hg
      refine ⟨x, h1, h2, fun l f hl => ?_, fun _ h => absurd h hoff, fun _ _ h => absurd h hfree, fun _ _ g' hg' => ?_⟩
      · cases hl
      · rw [hg] at hg'
        cases hg'
        exact h3

end

/-- Settles O10: the entry joins the run, and the exceptions, the pending loan list, the service and the journal decide
it. -/
theorem dischargesByCase : Obligations.DischargesByCase := by
  unfold Obligations.DischargesByCase
  intro n symbol item cls m s hv hc hlink hh hrun joined
  obtain ⟨w, hexec, hlen, hexcs, hr⟩ := exec_scan_discharge hv hc hlink hh hrun
  have hplain : s.exception? item = none → exec (.scan n symbol) s =
      .next ((w.addEntry n (.new item cls m)).decideDischarge n (s.st n).ctx.items.length) := by
    intro hnone
    have hwexc : w.exception? item = none := by
      rw [← hnone]
      simp only [State.exception?, hexcs]
    rw [hexec]
    simp only [State.dischargeNew, hwexc, hlen]
  refine ⟨fun hnone p hp => ?_, fun p kind hp hlen2 hkind hloan hoff hpend hserv hmask hauto => ?_,
    fun hnone hf ha hcase => ?_⟩
  · obtain ⟨x, h⟩ := returnsReady (hr (.new item cls m)) hp hh
    exact ⟨_, x, hplain hnone, h⟩
  · obtain ⟨hpf, -, hpe, hpa⟩ := hp
    obtain ⟨x, r, found, h1, h2, h3, h4, h5, h6, h7, h8, h9, h10, h11, h12, hfound⟩ := returnsExcepted hlen hexcs hr
      ⟨hpf, by omega, hpe, hpa⟩ hkind hloan hoff hh hpend hserv hmask hauto
    refine ⟨_, x, r, hexec, h1, h2, h3, h4, h5, h6, ?_, h8, ?_, ?_, h11, h12, ?_, fun hm => ?_⟩
    · rw [h7]
      cases kind <;> rfl
    · refine h9.trans ?_
      cases kind <;> rfl
    · rw [h10, ← List.append_assoc, List.getLast?_concat]
    · have hcount : found.length = if kind = .missing then 1 else 0 := by
        have := congrArg List.length hfound
        rw [List.length_map] at this
        rw [this]
        split <;> rfl
      rw [h10, List.length_append, List.length_append, hcount]
      split <;> rfl
    · rw [if_pos hm] at hfound
      obtain ⟨y, rfl, hy⟩ := List.map_eq_singleton_iff.mp hfound
      rw [h10]
      simpa using hy
  · obtain ⟨x, h⟩ := returnsRefused (hr (.new item cls m)) hh hf ha hcase
    exact ⟨_, x, hplain hnone, h⟩

end Sys2Proof.Proofs
end

section
/-! SUPPORT. The borrower table within its bounds (R49) under the updates of its entries, and `State.Confined`: what the
operations behind a desk frame or a message of the circulation service can do to the table and to the rules (R70, R72,
R81, R86, R207). -/

namespace Sys2Proof.Machine

/-! ### The table within its bounds -/

theorem Borrower.inRange_iff (e : Borrower) :
    e.inRange = true ↔ e.balance ≤ 16777215 ∧ e.onLoan ≤ 255 ∧ e.overdue ≤ 255 := by
  simp only [Borrower.inRange, Bool.and_eq_true, decide_eq_true_eq, and_assoc]
  rfl

/-- The invariant reads the borrower table only. -/
theorem State.borrowersOk_congr {s t : State} (h : t.borrowers = s.borrowers) : t.borrowersOk ↔ s.borrowersOk := by
  simp only [State.borrowersOk, h]

/-- The entry that stands for a number is one of the table, of that number. -/
theorem State.borrower?_mem {s : State} {b : Nat} {e : Borrower} (h : s.borrower? b = some e) :
    e ∈ s.borrowers ∧ e.number = b :=
  ⟨List.mem_of_find?_eq_some h, by simpa using List.find?_some h⟩

theorem State.borrowersOk.inRange {s : State} (h : s.borrowersOk) {b : Nat} {e : Borrower}
    (he : s.borrower? b = some e) : e.inRange = true :=
  h.2.2 e (State.borrower?_mem he).1

/-- R49: an entry put in its place, where one of its number stands or the table has room. -/
theorem State.borrowersOk.put {s : State} (h : s.borrowersOk) {e : Borrower} (he : e.inRange = true)
    (hr : (s.borrower? e.number).isSome ∨ s.borrowers.length < Config.maxBorrowers) : (s.setBorrower e).borrowersOk := by
  obtain ⟨hlen, hsorted, hrange⟩ := h
  refine ⟨?_, sorted_putBorrower hsorted, fun x hx => ?_⟩
  · rcases hr with hr | hr
    · obtain ⟨x, hx⟩ := Option.isSome_iff_exists.mp hr
      rwa [State.setBorrower_borrowers, length_putBorrower_standing hsorted ⟨x, State.borrower?_mem hx⟩]
    · exact Nat.le_trans (length_putBorrower_le e s.borrowers) hr
  · rcases mem_putBorrower hx with rfl | hx
    · exact he
    · exact hrange x hx

/-- R61, R62: a posting to the entry that stands. -/
theorem State.borrowersOk.post {s : State} (h : s.borrowersOk) {b : Nat} {e : Borrower} (hb : s.borrower? b = some e)
    {f : Borrower → Borrower} (hn : (f e).number = e.number) (hf : e.inRange = true → (f e).inRange = true) :
    (s.setBorrower (e.post f)).borrowersOk := by
  refine h.put (hf (h.inRange hb)) (.inl ?_)
  rw [show (e.post f).number = b from hn.trans (State.borrower?_mem hb).2, hb]
  rfl

/-- R65: an entry removed. -/
theorem State.borrowersOk.drop {s : State} (h : s.borrowersOk) (b : Nat) : (s.dropBorrower b).borrowersOk := by
  obtain ⟨hlen, hsorted, hrange⟩ := h
  refine ⟨Nat.le_trans (List.length_filter_le _ _) hlen, ?_, fun x hx => hrange x (List.mem_of_mem_filter hx)⟩
  exact hsorted.sublist (List.filter_sublist.map _)

/-- An entry that stands and is removed leaves room. -/
theorem State.length_dropBorrower_lt {s : State} {b : Nat} (h : (s.borrower? b).isSome) :
    (s.dropBorrower b).borrowers.length < s.borrowers.length := by
  obtain ⟨e, he⟩ := Option.isSome_iff_exists.mp h
  obtain ⟨hm, hn⟩ := State.borrower?_mem he
  exact List.length_filter_lt_length_iff_exists.mpr ⟨e, hm, by simp [hn]⟩

/-- Marks set or cleared: no number, no balance and no count changes. -/
theorem State.borrowersOk.map {s : State} (h : s.borrowersOk) {f : Borrower → Borrower}
    (hf : ∀ e, (f e).number = e.number ∧ (f e).inRange = e.inRange) {t : State} (ht : t.borrowers = s.borrowers.map f) :
    t.borrowersOk := by
  obtain ⟨hlen, hsorted, hrange⟩ := h
  rw [State.borrowersOk, ht]
  refine ⟨by simpa using hlen, ?_, fun x hx => ?_⟩
  · rw [List.map_map, show (fun e : Borrower => e.number) ∘ f = fun e => e.number from funext fun e => (hf e).1]
    exact hsorted
  · obtain ⟨e, he, rfl⟩ := List.mem_map.mp hx
    rw [(hf e).2]
    exact hrange e he

/-- R51: what may be evicted stands. -/
theorem State.evictee_stands {s : State} {b : Nat} (h : s.evictee = some b) : (s.borrower? b).isSome := by
  have he := List.find?_some h
  simp only [State.evictable] at he
  split at he
  · simp [*]
  · cases he

/-- R51, R52: room made for one entry. -/
theorem State.makeRoom_ok {s t : State} (h : s.borrowersOk) (ht : s.makeRoom = some t) :
    t.borrowersOk ∧ t.borrowers.length < Config.maxBorrowers := by
  obtain ⟨hr, hlt⟩ | ⟨b, hb, hr, -⟩ | ⟨-, hr, -⟩ := s.makeRoom_cases <;> rw [hr] at ht <;> cases ht
  · exact ⟨h, hlt⟩
  · exact ⟨h.drop b, Nat.lt_of_lt_of_le (State.length_dropBorrower_lt (State.evictee_stands hb)) h.1⟩

/-- R49, R51: an entry created, where one can be. -/
theorem State.createBorrower_borrowersOk {s t : State} {e : Borrower} (h : s.borrowersOk) (he : e.inRange = true)
    (ht : s.createBorrower e = some t) : t.borrowersOk := by
  simp only [State.createBorrower] at ht
  split at ht
  · cases ht
  · rename_i u hu
    obtain ⟨hok, hroom⟩ := State.makeRoom_ok h hu
    cases ht
    refine (State.borrowersOk_congr ?_).mpr (hok.put he (.inr hroom))
    split <;> simp

/-- R54: what a FOUND reply carries is held at its maxima. -/
theorem State.learned_inRange (s : State) (b : Nat) (f : Found) (changed inFlight : Bool) :
    ({ s.learned b f with changed := changed, inFlight := inFlight } : Borrower).inRange = true := by
  simp [Borrower.inRange, State.learned, satAdd]

theorem State.stranger_inRange (s : State) (b : Nat) : (s.stranger b).inRange = true := by
  simp [Borrower.inRange, State.stranger]

/-! ### What desk and service events are confined to -/

/-- From `o` to `s` the rules stay, and a borrower table within its bounds stays so. -/
structure State.Confined (o s : State) : Prop where
  rules : o.sameRules s
  table : o.borrowersOk → s.borrowersOk

theorem State.Confined.refl (s : State) : s.Confined s :=
  ⟨⟨rfl, rfl, rfl, rfl, rfl, rfl, rfl, rfl, rfl⟩, id⟩

/-- The rules, which `State.sameRules` compares. -/
def State.rules (s : State) :=
  (s.pending, s.badges, s.bankA, s.bankB, s.active, s.generation, s.clock, s.mgmt.restarting, s.mgmt.held)

theorem State.sameRules_iff (s t : State) : s.sameRules t ↔ t.rules = s.rules := by
  simp [State.sameRules, State.rules]

/-- A change of the borrower table beside the rules. -/
theorem State.Confined.step {o s t : State} (h : o.Confined s) (hr : t.rules = s.rules)
    (ht : s.borrowersOk → t.borrowersOk) : o.Confined t :=
  ⟨(o.sameRules_iff t).mpr (hr.trans ((o.sameRules_iff s).mp h.rules)), fun ho => ht (h.table ho)⟩

/-- What reaches neither the rules nor the borrower table. -/
theorem State.confined_congr {o s t : State} (hr : t.rules = s.rules) (hb : t.borrowers = s.borrowers) :
    o.Confined t ↔ o.Confined s :=
  ⟨fun h => h.step hr.symm (State.borrowersOk_congr hb).mp, fun h => h.step hr (State.borrowersOk_congr hb).mpr⟩

theorem foldl_confined {α : Type} {o : State} {f : State → α → State} (hf : ∀ s a, o.Confined s → o.Confined (f s a))
    (xs : List α) {s : State} (h : o.Confined s) : o.Confined (xs.foldl f s) :=
  foldl_preserves (P := fun t => o.Confined t) hf xs h

section
variable {o s : State} {n : StationNo}

/-! ### Updates that reach neither -/

@[simp] theorem State.updLine_confined (f : Line → Line) : o.Confined (s.updLine n f) ↔ o.Confined s :=
  State.confined_congr rfl rfl
@[simp] theorem State.updCtx_confined (f : Ctx → Ctx) : o.Confined (s.updCtx n f) ↔ o.Confined s :=
  State.confined_congr rfl rfl
@[simp] theorem State.updAlerts_confined (f : Resolver → Resolver) : o.Confined (s.updAlerts n f) ↔ o.Confined s :=
  State.confined_congr rfl rfl
@[simp] theorem State.updSlips_confined (f : SlipQueue → SlipQueue) : o.Confined (s.updSlips n f) ↔ o.Confined s :=
  State.confined_congr rfl rfl
@[simp] theorem State.updTallies_confined (f : Tallies → Tallies) : o.Confined (s.updTallies n f) ↔ o.Confined s :=
  State.confined_congr rfl rfl
@[simp] theorem State.updItem_confined (i : Nat) (f : Item → Item) : o.Confined (s.updItem n i f) ↔ o.Confined s :=
  State.confined_congr rfl rfl
@[simp] theorem State.mapCtx_confined (f : Ctx → Ctx) : o.Confined (s.mapCtx f) ↔ o.Confined s :=
  State.confined_congr rfl rfl
@[simp] theorem State.tallyRefusal_confined : o.Confined (s.tallyRefusal n) ↔ o.Confined s :=
  State.confined_congr rfl rfl
@[simp] theorem State.fresh_confined : o.Confined s.fresh ↔ o.Confined s := State.confined_congr rfl rfl
@[simp] theorem State.stick_confined (f : StickyFlags) : o.Confined (s.stick f) ↔ o.Confined s :=
  State.confined_congr rfl rfl
@[simp] theorem State.touch_confined (b : Nat) : o.Confined (s.touch b) ↔ o.Confined s := State.confined_congr rfl rfl
@[simp] theorem State.dropException_confined (k : Nat) : o.Confined (s.dropException k) ↔ o.Confined s :=
  State.confined_congr rfl rfl
@[simp] theorem State.dropLoan_confined (k : Nat) : o.Confined (s.dropLoan k) ↔ o.Confined s :=
  State.confined_congr rfl rfl
@[simp] theorem State.dropLoanOf_confined (k : Nat) : o.Confined (s.dropLoanOf k) ↔ o.Confined s :=
  State.confined_congr rfl rfl
@[simp] theorem State.updUpload_confined (f : Upload → Upload) : o.Confined (s.updUpload f) ↔ o.Confined s :=
  State.confined_congr rfl rfl
@[simp] theorem State.updService_confined (f : Service → Service) : o.Confined (s.updService f) ↔ o.Confined s :=
  State.confined_congr rfl rfl
@[simp] theorem State.countService_confined (f : ServiceStats → ServiceStats) :
    o.Confined (s.countService f) ↔ o.Confined s := State.confined_congr rfl rfl
@[simp] theorem State.freeQuery_confined (t : Tag) : o.Confined (s.freeQuery t) ↔ o.Confined s :=
  State.confined_congr rfl rfl
@[simp] theorem State.display_confined (t : Tone) (i : Nat) : o.Confined (s.display n t i) ↔ o.Confined s :=
  State.confined_congr (by simp [State.rules]) (by simp)
@[simp] theorem State.tone_confined (t : Tone) : o.Confined (s.tone n t) ↔ o.Confined s :=
  State.confined_congr (by simp [State.rules]) (by simp)
@[simp] theorem State.notice_confined (x : Notice) : o.Confined (s.notice x) ↔ o.Confined s :=
  State.confined_congr (by simp [State.rules]) (by simp)
@[simp] theorem State.ask_confined (q : Question) (c : Nat) : o.Confined (s.ask q c).2 ↔ o.Confined s :=
  State.confined_congr (by simp [State.rules]) (by simp)
@[simp] theorem State.lapse_confined (t : Tag) (d : LapseDecision) : o.Confined (s.lapse t d) ↔ o.Confined s :=
  State.confined_congr (by simp [State.rules]) (by simp)
@[simp] theorem State.voidQuery_confined (k : Option (Tag × Nat)) : o.Confined (s.voidQuery k) ↔ o.Confined s :=
  State.confined_congr (by simp [State.rules]) (by simp)
@[simp] theorem State.sendProbe_confined : o.Confined s.sendProbe ↔ o.Confined s :=
  State.confined_congr (by simp [State.rules]) (by simp)

/-! ### Records, the resolver and the slip queue reach neither -/

@[simp] theorem State.settle_confined : o.Confined s.settle ↔ o.Confined s :=
  State.confined_congr (by simp [State.rules]) (by simp)
@[simp] theorem State.write_confined (r : Record) : o.Confined (s.write r).2 ↔ o.Confined s :=
  State.confined_congr (by simp [State.rules]) (by simp)
@[simp] theorem State.writeStation_confined (r : Record) : o.Confined (s.writeStation n r).2 ↔ o.Confined s :=
  State.confined_congr (by simp [State.rules]) (by simp)
@[simp] theorem State.lockChange_confined (f : Ctx → Ctx) : o.Confined (s.lockChange n f) ↔ o.Confined s :=
  State.confined_congr (by simp [State.rules]) (by simp)
@[simp] theorem State.resolve_confined (k : Nat) : o.Confined (State.resolve n k s) ↔ o.Confined s :=
  State.confined_congr (by simp [State.rules]) (by simp)
@[simp] theorem State.reportHold_confined : o.Confined (s.reportHold n) ↔ o.Confined s :=
  State.confined_congr (by simp [State.rules]) (by simp)
@[simp] theorem State.finishShow_confined (t : Tone) : o.Confined (s.finishShow n t) ↔ o.Confined s :=
  State.confined_congr (by simp [State.rules]) (by simp)
@[simp] theorem State.requestLevel_confined (l : Level) (i : Nat) (g : Option Origin) :
    o.Confined (s.requestLevel n l i g) ↔ o.Confined s := State.confined_congr (by simp [State.rules]) (by simp)
@[simp] theorem State.withdrawLevel_confined (l : Level) : o.Confined (s.withdrawLevel n l) ↔ o.Confined s :=
  State.confined_congr (by simp [State.rules]) (by simp)
@[simp] theorem State.withdrawResolved_confined (l : Level) : o.Confined (s.withdrawResolved n l) ↔ o.Confined s :=
  State.confined_congr (by simp [State.rules]) (by simp)
@[simp] theorem State.badgeJournalFull_confined : o.Confined (s.badgeJournalFull n) ↔ o.Confined s :=
  State.confined_congr (by simp [State.rules]) (by simp)
@[simp] theorem State.applyStaged_confined : o.Confined (s.applyStaged n) ↔ o.Confined s :=
  State.confined_congr (by simp [State.rules]) (by simp)
@[simp] theorem State.feed_confined : o.Confined (s.feed n) ↔ o.Confined s :=
  State.confined_congr (by simp [State.rules]) (by simp)
@[simp] theorem State.setPrinter_confined (p : Printer) : o.Confined (s.setPrinter n p) ↔ o.Confined s :=
  State.confined_congr (by simp [State.rules]) (by simp)
@[simp] theorem State.takeToken_confined (k : Option Nat) : o.Confined (s.takeToken n k) ↔ o.Confined s :=
  State.confined_congr (by simp [State.rules]) (by simp)

/-! ### Postings -/

/-- R60: a posting of items on loan that stays within the count's range. -/
theorem State.postLoan_confined (h : o.Confined s) {f : Nat → Nat} (hf : ∀ k, k ≤ 255 → f k ≤ 255) :
    o.Confined (s.postLoan n f) := by
  simp only [State.postLoan]
  split
  · exact h
  · split
    · rename_i e he
      refine h.step rfl fun hs => hs.post he rfl fun hr => ?_
      simp only [Borrower.inRange_iff] at hr ⊢
      exact ⟨hr.1, hf _ hr.2.1, hr.2.2⟩
    · simpa using h

/-- R61: the posting of a discharge. -/
@[simp] theorem State.postDischarge_confined (h : o.Confined s) (b : Option Nat) (f : Option FineResult) :
    o.Confined (s.postDischarge b f).1 := by
  simp only [State.postDischarge]
  split
  · exact h
  · rename_i e he
    obtain ⟨b, -, hb⟩ := Option.bind_eq_some_iff.mp he
    refine h.step rfl fun hs => hs.post hb rfl fun hr => ?_
    simp only [Borrower.inRange_iff] at hr ⊢
    refine ⟨by simp [satAdd, Config.maxMoney], by omega, ?_⟩
    split <;> omega

/-- R49, R51, R59: the creation of an entry. -/
theorem State.createBorrower_confined (h : o.Confined s) {e : Borrower} (he : e.inRange = true) {t : State}
    (ht : s.createBorrower e = some t) : o.Confined t := by
  refine h.step ?_ fun hs => State.createBorrower_borrowersOk hs he ht
  simp only [State.createBorrower] at ht
  obtain ⟨hr, -⟩ | ⟨b, -, hr, -⟩ | ⟨-, hr, -⟩ := s.makeRoom_cases <;> rw [hr] at ht <;> cases ht <;> split <;> rfl

/-- R54, R56: a FOUND reply acting on the table. -/
theorem State.takeFound_confined (h : o.Confined s) (b : Nat) (f : Found) : o.Confined (s.takeFound b f) := by
  simp only [State.takeFound]
  split
  · rename_i e he
    split
    · exact h
    · refine (State.touch_confined b).mpr (h.step rfl fun hs => hs.put (s.learned_inRange b f _ _) (.inl ?_))
      simp [State.learned, he]
  · cases hc : s.createBorrower (s.learned b f) with
    | none => exact h
    | some t => exact State.createBorrower_confined h (s.learned_inRange b f false false) hc

end
end Sys2Proof.Machine
end

section
/-! SUPPORT. That the decisions, the borrower check, the desk and the circulation service are confined
(`State.Confined`): operation by operation, and the settling of O3. -/

namespace Sys2Proof.Machine

section
variable {o s : State} {n : StationNo}

/-! ### Decisions -/

@[simp] theorem State.startTimer_confined : o.Confined (s.startTimer n) ↔ o.Confined s := State.updCtx_confined _

@[simp] theorem State.addEntry_confined (x : Item) : o.Confined (s.addEntry n x) ↔ o.Confined s := by
  simp [State.addEntry]

@[simp] theorem State.journalFull_confined : o.Confined (s.journalFull n) ↔ o.Confined s := by
  simp [State.journalFull]

@[simp] theorem State.refuseFull_confined (i : Nat) : o.Confined (s.refuseFull n i) ↔ o.Confined s := by
  simp [State.refuseFull]

@[simp] theorem State.refuseItem_confined (i : Nat) (r : Reason) (d : DecidedBy) :
    o.Confined (s.refuseItem n i r d) ↔ o.Confined s := by
  simp only [State.refuseItem]
  split <;> simp

@[simp] theorem State.refuseSilently_confined (i : Nat) : o.Confined (s.refuseSilently n i) ↔ o.Confined s := by
  simp [State.refuseSilently]

@[simp] theorem State.noteLoan_confined (d : DecidedBy) (u : Bool) (l : PendingLoan) :
    o.Confined (s.noteLoan d u l) ↔ o.Confined s := by
  simp only [State.noteLoan]
  repeat' split
  · simp
  · simp
  · exact State.confined_congr rfl rfl

@[simp] theorem State.itemFound_confined (x : Item) : o.Confined (s.itemFound n x) ↔ o.Confined s := by
  simp [State.itemFound]

@[simp] theorem State.grantException_confined (x : Item) (b : Nat) :
    o.Confined (s.grantException n x b) ↔ o.Confined s := by
  simp only [State.grantException]
  repeat' split
  all_goals simp

/-- R60: one item on loan more, held at 255. -/
theorem State.postCharge_confined (h : o.Confined s) :
    o.Confined (s.postLoan n fun k => satAdd Config.maxCount8 k 1) :=
  State.postLoan_confined h fun _ _ => Nat.min_le_left _ _

/-- R37, R60: one item on loan fewer. -/
theorem State.postVoid_confined (h : o.Confined s) : o.Confined (s.postLoan n (· - 1)) :=
  State.postLoan_confined h fun k hk => Nat.le_trans (Nat.sub_le k 1) hk

@[simp] theorem State.grantWith_confined (h : o.Confined s) (i : Nat) (x : Item) (b : Nat) (c : Calendar) (index : Nat)
    (r : Rule) (d : DecidedBy) (offline atOnce : Bool) :
    o.Confined (s.grantWith n i x b c index r d offline atOnce) := by
  simp only [State.grantWith]
  split <;> rename_i heq <;> cases snd_of_eq heq
  · simpa using h
  · simp only [State.tone_confined, State.updTallies_confined, State.grantException_confined, State.noteLoan_confined]
    exact State.postCharge_confined (by simpa using h)

@[simp] theorem State.grant_confined (h : o.Confined s) (i : Nat) (d : DecidedBy) (offline atOnce : Bool) :
    o.Confined (s.grant n i d offline atOnce) := by
  simp only [State.grant]
  repeat' split
  all_goals simp [h]

@[simp] theorem State.replaceClass_confined (i : Nat) (k : Option Nat) :
    o.Confined (s.replaceClass n i k) ↔ o.Confined s := by
  simp only [State.replaceClass]
  split <;> simp

@[simp] theorem State.discharge_confined (h : o.Confined s) (i : Nat) (d : Discharge) :
    o.Confined (s.discharge n i d) := by
  simp only [State.discharge]
  split
  · exact h
  · split <;> rename_i heq <;> cases snd_of_eq heq <;> simp [h]

@[simp] theorem State.dischargeLoan_confined (h : o.Confined s) (i : Nat) (l : PendingLoan) :
    o.Confined (s.dischargeLoan n i l) := by
  simp only [State.dischargeLoan]
  repeat' split
  all_goals simp [h]

@[simp] theorem State.dischargeOnLoan_confined (h : o.Confined s) (i : Nat) (x : OnLoan) :
    o.Confined (s.dischargeOnLoan n i x) := by
  simp only [State.dischargeOnLoan]
  repeat' split
  all_goals simp [h]

@[simp] theorem State.applyOutcome_confined (h : o.Confined s) (i : Nat) (x : ItemOutcome) :
    o.Confined (s.applyOutcome n i x) := by
  simp only [State.applyOutcome]
  split
  · cases x <;> simp [State.applyCharge, h]
  · cases x <;> simp [State.applyDischarge, h]
  · exact h

@[simp] theorem State.takeOutcome_confined (h : o.Confined s) (i : Nat) (x : ItemOutcome) :
    o.Confined (s.takeOutcome n i x) := by
  simp only [State.takeOutcome]
  split <;> simp [h]

@[simp] theorem State.applyParked_confined (h : o.Confined s) : o.Confined (s.applyParked n) := by
  refine foldl_confined (fun t i ht => ?_) _ h
  repeat' split
  all_goals simp [ht]

@[simp] theorem State.awaitReply_confined (i : Nat) (k : Tag × Nat) :
    o.Confined (s.awaitReply n i k) ↔ o.Confined s := State.updItem_confined _ _

@[simp] theorem State.decideCharge_confined (h : o.Confined s) (i : Nat) : o.Confined (s.decideCharge n i) := by
  simp only [State.decideCharge]
  split
  · exact h
  · split
    · simp [h]
    · split <;> rename_i heq <;> cases snd_of_eq heq <;> simp [h]

@[simp] theorem State.decideDischarge_confined (h : o.Confined s) (i : Nat) : o.Confined (s.decideDischarge n i) := by
  simp only [State.decideDischarge]
  split
  · exact h
  · split
    · simp [h]
    · split
      · simp [h]
      · split <;> rename_i heq <;> cases snd_of_eq heq <;> simp [h]

@[simp] theorem State.checkLimit_confined (h : o.Confined s) (i : Nat) : o.Confined (s.checkLimit n i) := by
  simp only [State.checkLimit]
  repeat' split
  all_goals simp [h]

@[simp] theorem State.checkCharge_confined (h : o.Confined s) (i : Nat) : o.Confined (s.checkCharge n i) := by
  simp only [State.checkCharge]
  repeat' split
  all_goals simp [h]

@[simp] theorem State.dischargeNew_confined (h : o.Confined s) (k cls : Nat) (c : Bool) :
    o.Confined (s.dischargeNew n k cls c) := by
  simp only [State.dischargeNew]
  repeat' split
  all_goals simp [h]

/-! ### The borrower check -/

@[simp] theorem State.endRefused_confined : o.Confined (s.endRefused n) ↔ o.Confined s := by
  simp [State.endRefused]

@[simp] theorem State.refuseBorrower_confined (r : Reason) (d : DecidedBy) :
    o.Confined (s.refuseBorrower n r d) ↔ o.Confined s := by
  simp [State.refuseBorrower]

@[simp] theorem State.refuseBorrowerSilently_confined : o.Confined (s.refuseBorrowerSilently n) ↔ o.Confined s := by
  simp [State.refuseBorrowerSilently]

@[simp] theorem State.refuseBorrowerFull_confined : o.Confined (s.refuseBorrowerFull n) ↔ o.Confined s := by
  simp [State.refuseBorrowerFull]

@[simp] theorem State.enterOpen_confined : o.Confined (s.enterOpen n) ↔ o.Confined s := by
  simp only [State.enterOpen]
  split <;> simp

@[simp] theorem State.acceptBorrower_confined (h : o.Confined s) (e : Borrower) : o.Confined (s.acceptBorrower n e) := by
  simp only [State.acceptBorrower]
  split
  · simp [h]
  · exact foldl_confined (fun t r ht => by simpa [State.requestReason] using ht) _ (by simpa using h)

@[simp] theorem State.acceptEntry_confined (h : o.Confined s) (e : Borrower) : o.Confined (s.acceptEntry n e) := by
  simp only [State.acceptEntry]
  split <;> simp [h]

@[simp] theorem State.acceptUntracked_confined (h : o.Confined s) (e : Borrower) :
    o.Confined (s.acceptUntracked n e) := by
  simp [State.acceptUntracked, h]

@[simp] theorem State.decideStranger_confined (h : o.Confined s) (b : Nat) (d : DecidedBy) :
    o.Confined (s.decideStranger n b d) := by
  simp only [State.decideStranger]
  split
  · simp [h]
  · split <;> rename_i heq <;> cases snd_of_eq heq
    · simp [h]
    · split
      · rename_i t ht
        split at ht
        · exact State.acceptBorrower_confined
            (State.createBorrower_confined (by simpa using h) (s.stranger_inRange b) ht) _
        · cases ht
      · simp [h]

@[simp] theorem State.checkWithout_confined (h : o.Confined s) (b : Nat) (d : DecidedBy) :
    o.Confined (s.checkWithout n b d) := by
  simp only [State.checkWithout]
  split <;> simp [h]

@[simp] theorem State.askLookup_confined (h : o.Confined s) (b : Nat) : o.Confined (s.askLookup n b) := by
  simp only [State.askLookup]
  split <;> rename_i heq <;> cases snd_of_eq heq <;> simp [h]

@[simp] theorem State.startCheck_confined (h : o.Confined s) (b : Nat) : o.Confined (s.startCheck n b) := by
  simp only [State.startCheck]
  repeat' split
  all_goals simp [h]

@[simp] theorem State.checkFound_confined (h : o.Confined s) (b : Nat) (f : Found) : o.Confined (s.checkFound n b f) := by
  have hf := State.takeFound_confined h b f
  simp only [State.checkFound]
  split <;> simp [hf]

@[simp] theorem State.checkUnknown_confined (h : o.Confined s) (b : Nat) : o.Confined (s.checkUnknown n b) := by
  simp only [State.checkUnknown]
  repeat' split
  all_goals simp [h]

/-! ### Opening in IDLE, and closing -/

@[simp] theorem State.borrowerInIdle_confined (h : o.Confined s) (b : Nat) : o.Confined (s.borrowerInIdle n b) := by
  simp only [State.borrowerInIdle]
  repeat' split
  all_goals simp [h]

@[simp] theorem State.openRun_confined (t : Tone) : o.Confined (s.openRun n t) ↔ o.Confined s := by
  simp [State.openRun]

@[simp] theorem State.itemInIdle_confined (h : o.Confined s) (k cls : Nat) (c : Bool) :
    o.Confined (s.itemInIdle n k cls c) := by
  simp only [State.itemInIdle]
  split <;> simp [h]

@[simp] theorem State.takeNext_confined (h : o.Confined s) (a : NextAction) : o.Confined (s.takeNext n a) := by
  cases a <;> simp [State.takeNext, h]

@[simp] theorem State.withdrawBlocks_confined (h : o.Confined s) : o.Confined (s.withdrawBlocks n) :=
  foldl_confined (fun _ _ h => by simpa using h) _ h

@[simp] theorem State.settleSlip_confined : o.Confined (s.settleSlip n) ↔ o.Confined s := by
  simp only [State.settleSlip]
  split <;> simp

@[simp] theorem State.completeClose_confined (h : o.Confined s) : o.Confined (s.completeClose n) := by
  simp [State.completeClose, h]

@[simp] theorem State.close_confined (h : o.Confined s) : o.Confined (s.close n) := by
  simp only [State.close]
  split <;> simp [h]

@[simp] theorem State.closeIfDone_confined (h : o.Confined s) : o.Confined (s.closeIfDone n) := by
  simp only [State.closeIfDone]
  split <;> simp [h]

/-! ### Events of the resolver -/

@[simp] theorem State.endEvent_confined (h : o.Confined s) (tone : Tone) {endings : State → State}
    (he : ∀ t, o.Confined t → o.Confined (endings t)) : o.Confined (s.endEvent n tone endings) := by
  simp only [State.endEvent]
  refine State.closeIfDone_confined ((State.finishShow_confined _).mpr (he _ ?_))
  split <;> simp [h]

@[simp] theorem State.faultEvent_confined (h : o.Confined s) (before : Bool) (tone : Tone) :
    o.Confined (s.faultEvent n before tone) := by
  simp only [State.faultEvent]
  repeat' split
  all_goals simp [h]

@[simp] theorem State.borrowerEnding_confined (l : Level) : o.Confined (s.borrowerEnding n l) ↔ o.Confined s := by
  simp only [State.borrowerEnding]
  split <;> simp

@[simp] theorem State.acknowledge_confined (h : o.Confined s) : o.Confined (s.acknowledge n) := by
  have refused (is : List Nat) :
      o.Confined (is.foldl (fun s i => s.refuseItem n i (.block .limit) .noOne) s) :=
    foldl_confined (fun t i ht => by simpa using ht) is h
  simp only [State.acknowledge]
  repeat' split
  all_goals simp [h, refused]

theorem State.overrideEnding_confined (h : o.Confined s) (l : Level) (b : Bool) :
    o.Confined (State.overrideEnding n l b s) := by
  simp only [State.overrideEnding]
  repeat' split
  · exact h
  · simp [h]
  · simp [h]
  · exact foldl_confined (fun t i ht => State.decideCharge_confined ht i) _ h

@[simp] theorem State.takeBadge_confined (h : o.Confined s) (k : Nat) : o.Confined (s.takeBadge n k) := by
  simp only [State.takeBadge]
  split
  · simp [h]
  · split
    · simp [h]
    · split <;> rename_i heq <;> cases snd_of_eq heq
      · simp [h]
      · exact State.endEvent_confined (by simp [h]) _ fun t ht => State.overrideEnding_confined ht _ _

@[simp] theorem State.clearLevel_confined (h : o.Confined s) (l : Level) : o.Confined (s.clearLevel n l) := by
  have silently (is : List Nat) : o.Confined (is.foldl (fun s i => s.refuseSilently n i) s) :=
    foldl_confined (fun t i ht => by simpa using ht) is h
  simp only [State.clearLevel]
  repeat' split
  all_goals simp [h, silently]

@[simp] theorem State.withdrawItemLimit_confined (h : o.Confined s) : o.Confined (s.withdrawItemLimit n) := by
  simp only [State.withdrawItemLimit]
  split <;> simp [h]

/-! ### Force-close -/

@[simp] theorem State.voidQueries_confined (h : o.Confined s) : o.Confined (s.voidQueries n) :=
  foldl_confined (fun _ _ ht => by simpa using ht) _ (by simpa using h)

@[simp] theorem State.forceClose_confined (h : o.Confined s) (counted : Bool) : o.Confined (s.forceClose n counted) := by
  simp only [State.forceClose]
  split
  · exact h
  · simp only [State.tone_confined, State.updCtx_confined]
    refine foldl_confined (fun t l ht => by simpa using ht) _ ?_
    split <;> simp [h]

@[simp] theorem State.emptyAlerts_confined (h : o.Confined s) (fault : Bool) : o.Confined (s.emptyAlerts n fault) := by
  simp [State.emptyAlerts, h]

@[simp] theorem State.loseHead_confined (h : o.Confined s) : o.Confined (s.loseHead n) := by
  simp [State.loseHead, h]

/-! ### Desk lines -/

@[simp] theorem State.enterCheck_confined (h : o.Confined s) : o.Confined (s.enterCheck n) := by
  simp only [State.enterCheck]
  split <;> simp [h]

@[simp] theorem State.wake_confined (h : o.Confined s) : o.Confined (s.wake n) := by
  simp only [State.wake]
  split <;> simp [h]

@[simp] theorem State.fallSilent_confined (h : o.Confined s) : o.Confined (s.fallSilent n) := by
  simp only [State.fallSilent]
  split <;> simp [h]

@[simp] theorem State.noteQuality_confined (q : Quality) : o.Confined (s.noteQuality n q) ↔ o.Confined s := by
  simp only [State.noteQuality]
  split <;> simp

@[simp] theorem State.tallyBadScan_confined : o.Confined (s.tallyBadScan n) ↔ o.Confined s := State.updTallies_confined _

@[simp] theorem State.scanInCheck_confined (h : o.Confined s) (x : ScanOutcome) : o.Confined (s.scanInCheck n x) := by
  cases x with
  | badge k => simp only [State.scanInCheck]; split <;> simp [h]
  | _ => simp [State.scanInCheck, h]

@[simp] theorem State.closeFor_confined (h : o.Confined s) (a : NextAction) : o.Confined (s.closeFor n a) := by
  simp [State.closeFor, h]

@[simp] theorem State.borrowerScan_confined (h : o.Confined s) (b : Nat) : o.Confined (s.borrowerScan n b) := by
  simp only [State.borrowerScan]
  repeat' split
  all_goals simp [h]

@[simp] theorem State.itemScan_confined (h : o.Confined s) (k cls : Nat) (c : Bool) :
    o.Confined (s.itemScan n k cls c) := by
  simp only [State.itemScan, State.itemInOpen, State.itemInReturns, State.refuseListFull]
  repeat' split
  all_goals simp [h]

@[simp] theorem State.scanInActive_confined (h : o.Confined s) (x : ScanOutcome) : o.Confined (s.scanInActive n x) := by
  cases x <;> simp [State.scanInActive, h]

@[simp] theorem State.takeScan_confined (h : o.Confined s) (symbol : Text) : o.Confined (s.takeScan n symbol) := by
  simp only [State.takeScan]
  split <;> simp [h]

@[simp] theorem State.voidGrant_confined (h : o.Confined s) (i : Nat) (x : Item) : o.Confined (s.voidGrant n i x) := by
  simp only [State.voidGrant]
  split <;> rename_i heq <;> cases snd_of_eq heq
  · simp [h]
  · have hp := State.postVoid_confined (n := n) ((State.writeStation_confined (n := n) { s.record .void (some n) with
      flags := x.flags, borrower := (s.st n).ctx.borrower, item := some x.number }).mpr h)
    split <;> simp [hp]

@[simp] theorem State.cancelLast_confined (h : o.Confined s) : o.Confined (s.cancelLast n) := by
  simp only [State.cancelLast]
  repeat' split
  all_goals simp [h]

@[simp] theorem State.keyInActive_confined (h : o.Confined s) (k : Key) : o.Confined (s.keyInActive n k) := by
  cases k <;> simp only [State.keyInActive, State.chargeKey, State.returnKey, State.cancelKey,
    State.acknowledge_confined h] <;> split <;> simp [h]

@[simp] theorem State.takeKey_confined (h : o.Confined s) (k : Key) : o.Confined (s.takeKey n k) := by
  simp only [State.takeKey]
  split <;> simp [h]

@[simp] theorem State.takePrinter_confined (h : o.Confined s) (p : Printer) : o.Confined (s.takePrinter n p) := by
  simp only [State.takePrinter]
  split <;> simp [h]

@[simp] theorem State.takeLockKey_confined (on : Bool) : o.Confined (s.takeLockKey n on) ↔ o.Confined s := by
  simp only [State.takeLockKey]
  split <;> simp

@[simp] theorem State.takeStatus_confined (h : o.Confined s) (r : HeadReport) : o.Confined (s.takeStatus n r) := by
  simp [State.takeStatus, State.checkSlip, State.takeCredit, State.noteToken, h]

@[simp] theorem State.discardSlips_confined (h : o.Confined s) : o.Confined (s.discardSlips n) := by
  simp only [State.discardSlips, State.feed_confined, State.updSlips_confined]
  exact foldl_confined (fun t i ht => by simpa [State.discardSlip] using ht) _ h

@[simp] theorem State.holdExpired_confined (h : o.Confined s) : o.Confined (s.holdExpired n) := by
  simp only [State.holdExpired]
  repeat' split
  all_goals simp [h]

/-! ### The upload controller as the service link reaches it -/

/-- R185: the in-flight marks change no number, balance or count. -/
theorem State.markInFlight_confined (h : o.Confined s) (es : List Borrower) : o.Confined (s.markInFlight es) := by
  refine h.step rfl fun hs => hs.map (f := fun e =>
    if es.any (fun x => x.number == e.number) then { e with inFlight := true } else e) (fun e => ?_) rfl
  split <;> exact ⟨rfl, rfl⟩

@[simp] theorem State.sendBlock_confined (b : Block) (k : Nat) : o.Confined (s.sendBlock b k) ↔ o.Confined s :=
  State.confined_congr (by simp [State.rules]) (by simp)
@[simp] theorem State.endRun_confined (x : RunOutcome) : o.Confined (s.endRun x) ↔ o.Confined s :=
  State.confined_congr (by simp [State.rules]) (by simp)
@[simp] theorem State.pauseRun_confined : o.Confined s.pauseRun ↔ o.Confined s :=
  State.confined_congr (by simp [State.rules]) (by simp)
@[simp] theorem State.newPass_confined : o.Confined s.newPass ↔ o.Confined s := State.confined_congr rfl rfl
@[simp] theorem State.beginSection_confined : o.Confined s.beginSection ↔ o.Confined s :=
  State.confined_congr (by simp [State.rules]) (by simp)

theorem State.compose_confined (h : o.Confined s) : o.Confined s.compose.2 := by
  simp only [State.compose]
  repeat' split
  · exact h
  · exact h
  · simpa using State.markInFlight_confined h _
  · simpa using h
  · exact h
  · exact h
  · exact h

@[simp] theorem State.nextBlock_confined (h : o.Confined s) : o.Confined s.nextBlock := by
  simp [State.nextBlock, State.compose_confined h]

@[simp] theorem State.runSection_confined (h : o.Confined s) : o.Confined s.runSection := by
  simp [State.runSection, h]

@[simp] theorem State.startRun_confined (h : o.Confined s) : o.Confined s.startRun := by
  simp only [State.startRun]
  split <;> simp [h]

@[simp] theorem State.resumeRun_confined (h : o.Confined s) : o.Confined s.resumeRun := by
  simp only [State.resumeRun]
  repeat' split
  all_goals simp [h]

@[simp] theorem State.minuteToUpload_confined (h : o.Confined s) : o.Confined s.minuteToUpload := by
  simp only [State.minuteToUpload]
  repeat' split
  all_goals simp [h]

/-! ### Circulation service -/

@[simp] theorem State.setServiceState_confined (h : o.Confined s) (v : ServiceState) :
    o.Confined (s.setServiceState v) := by
  simp only [State.setServiceState, State.serviceToUpload]
  repeat' split
  all_goals simp [h]

@[simp] theorem State.matchedReply_confined (h : o.Confined s) : o.Confined s.matchedReply := by
  simp [State.matchedReply, h]

@[simp] theorem State.staleReply_confined : o.Confined s.staleReply ↔ o.Confined s := State.countService_confined _

@[simp] theorem State.whileLinkUp_confined (h : o.Confined s) {t : State} (ht : o.Confined t) :
    o.Confined (s.whileLinkUp t) :=
  State.whileLinkUp_keeps (fun t => o.Confined t) h ht

@[simp] theorem State.handItem_confined (h : o.Confined s) (p : Nat) (k : Tag × Nat) (x : ItemOutcome) :
    o.Confined (s.handItem n p k x) := by
  simp only [State.handItem]
  repeat' split
  all_goals simp [h]

@[simp] theorem State.handOutcome_confined (h : o.Confined s) (k : Tag × Nat) (q : Question) (x : ReplyOutcome) :
    o.Confined (s.handOutcome k q x) := by
  simp only [State.handOutcome]
  repeat' split
  all_goals simp [h]

@[simp] theorem State.conflict_confined (q : Question) (r : Record) : o.Confined (s.conflict q r) ↔ o.Confined s := by
  simp [State.conflict]

@[simp] theorem State.compareLate_confined (q : Question) (d : LapseDecision) (x : ReplyOutcome) :
    o.Confined (s.compareLate q d x) ↔ o.Confined s := by
  simp only [State.compareLate, State.compareFine]
  repeat' split
  all_goals simp

@[simp] theorem State.takeLate_confined (h : o.Confined s) (t : Tag) (q : Question) (d : LapseDecision)
    (x : ReplyOutcome) : o.Confined (s.takeLate t q d x) := by
  have hc := (State.compareLate_confined q d x).mpr h
  refine State.matchedReply_confined ((State.countService_confined _).mpr ((State.freeQuery_confined t).mpr ?_))
  cases x with
  | found f => exact State.takeFound_confined hc _ f
  | _ => exact hc

@[simp] theorem State.takeReply_confined (h : o.Confined s) (m : ReplyMsg) : o.Confined (s.takeReply m) := by
  simp only [State.takeReply]
  repeat' split
  · exact State.whileLinkUp_confined h (by simp [h])
  all_goals simp [h]

@[simp] theorem State.countTimeout_confined (h : o.Confined s) : o.Confined s.countTimeout := by
  simp only [State.countTimeout, State.reviewTimeout]
  repeat' split
  all_goals simp [h]

@[simp] theorem State.handLapse_confined (h : o.Confined s) (k : Tag × Nat) (q : Question) :
    o.Confined (s.handLapse k q) := by
  simp only [State.handLapse]
  repeat' split
  all_goals simp [h]

@[simp] theorem State.patienceExpired_confined (h : o.Confined s) (t : Tag) : o.Confined (s.patienceExpired t) := by
  simp only [State.patienceExpired]
  split <;> simp [h]

@[simp] theorem State.lingerEnded_confined (h : o.Confined s) (t : Tag) : o.Confined (s.lingerEnded t) := by
  simp only [State.lingerEnded]
  split <;> simp [h]

@[simp] theorem State.probeExpired_confined (h : o.Confined s) : o.Confined s.probeExpired := by
  simp only [State.probeExpired]
  split <;> simp [h]

@[simp] theorem State.probeAnswered_confined (h : o.Confined s) (g : Nat) : o.Confined (s.probeAnswered g) := by
  simp only [State.probeAnswered]
  split <;> simp [h]

@[simp] theorem State.linkWentDown_confined (h : o.Confined s) : o.Confined s.linkWentDown := by
  simp only [State.linkWentDown]
  split <;> simp [h]

@[simp] theorem State.sendStartUp_confined : o.Confined s.sendStartUp ↔ o.Confined s := by
  refine State.confined_congr ?_ ?_ <;> simp only [State.sendStartUp] <;> split <;> simp [State.rules]

@[simp] theorem State.linkCameUp_confined (h : o.Confined s) : o.Confined s.linkCameUp := by
  simp only [State.linkCameUp]
  repeat' split
  all_goals simp [h]

/-! ### Commands -/

theorem ite_confined {t u : State} (b : Prop) [Decidable b] (ht : o.Confined t) (hu : o.Confined u) :
    o.Confined (if b then t else u) := by
  split <;> assumption

/-- Every command that arrives at a desk line, from its timers, or from the circulation service, is confined. -/
theorem exec_confined (c : Instr) (s : State) (hc : deskOrService c = true) :
    ∃ t, exec c s = .next t ∧ s.Confined t := by
  have hs := State.Confined.refl s
  cases c with
  | scan n symbol => exact ⟨_, rfl, ite_confined _ (by simp [hs]) (by simp [hs])⟩
  | headStatus n r => exact ⟨_, rfl, ite_confined _ (by simp [hs]) (by simp [hs])⟩
  | silenceTimeout n => exact ⟨_, rfl, ite_confined _ (by simp [hs]) (by simp [hs])⟩
  | transactionTimerExpiry n => exact ⟨_, rfl, ite_confined _ (by simp [hs]) (by simp [hs])⟩
  | key | attach | deskFrameDiscarded | reply | queryPatienceExpiry | lingerEnd | probeTimerExpiry | probeAnswer
  | trunkLinkDown | trunkLinkUp | trunkMessageDiscarded | slipHoldExpiry => exact ⟨_, rfl, by simp [hs]⟩
  | _ => cases hc

end
end Sys2Proof.Machine

namespace Sys2Proof.Proofs
open Sys2Proof Sys2Proof.Machine

/-- Settles O3: the operations behind these commands are confined, one by one. -/
theorem deskAndServiceKeepRules : Obligations.DeskAndServiceKeepRules := by
  intro c s hc
  obtain ⟨t, ht, h⟩ := exec_confined c s hc
  exact ⟨t, ht, h.rules⟩

end Sys2Proof.Proofs
end

section
/-! SUPPORT. The fields of BORROWER_PUT (R64, R209). -/

namespace Sys2Proof.Machine

/-! ### Parsers -/

/-- R199: a body without a refused field is one that its fields take from the first byte on. -/
theorem parseBody_ok {α : Type} {p : Body α} {body : List Byte} {a : α} (h : parseBody p body = .ok a) :
    ∃ y, p (0, body) = .ok (a, y) := by
  simp only [parseBody] at h
  split at h
  · cases h
  · rename_i heq
    split at h <;> cases h
    exact ⟨_, heq⟩

/-- Fields in a row: the second is taken from where the first ends. -/
theorem Body.bind_ok {α β : Type} {p : Body α} {f : α → Body β} {x y : Nat × List Byte} {b : β} :
    (p >>= f) x = .ok (b, y) ↔ ∃ a z, p x = .ok (a, z) ∧ f a z = .ok (b, y) := by
  simp only [bind, StateT.bind, Except.bind]
  rcases p x with _ | ⟨a, off, rest⟩ <;> simp

theorem Body.pure_ok {α : Type} {x y : Nat × List Byte} {a b : α} :
    (pure a : Body α) x = .ok (b, y) ↔ a = b ∧ x = y := by
  simp [pure, StateT.pure, Except.pure]

/-- R209: the number that `w` bytes carry. -/
theorem beNat_lt (bs : List Byte) : beNat bs < 256 ^ bs.length := by
  induction bs with
  | nil => simp [beNat]
  | cons b bs ih =>
    have hb : b.toNat * 256 ^ bs.length ≤ 255 * 256 ^ bs.length := Nat.mul_le_mul_right _ (by have := b.isLt; omega)
    rw [beNat_cons, List.length_cons, pow_succ]
    omega

theorem Body.quantity_lt {w k : Nat} {x y : Nat × List Byte} (h : Body.quantity w x = .ok (k, y)) : k < 256 ^ w := by
  obtain ⟨off, bs⟩ := x
  simp only [Body.quantity, Body.field_run] at h
  split at h
  · cases h
  · cases h
    refine Nat.lt_of_lt_of_le (beNat_lt _) (Nat.pow_le_pow_right (by decide) ?_)
    simp

/-- R49, R64: the entry that a BORROWER_PUT carries is LOADED with both marks clear, and within the ranges. -/
theorem parse_borrowerPut {body : List Byte} {e : Borrower} (h : parseBody borrowerPutBody body = .ok e) :
    e.origin = .loaded ∧ e.changed = false ∧ e.inFlight = false ∧ e.inRange = true := by
  obtain ⟨y, h⟩ := parseBody_ok h
  simp only [borrowerPutBody, Body.bind_ok, Body.pure_ok] at h
  obtain ⟨number, _, -, category, _, -, manual, _, -, expiry, _, -, balance, _, hb, onLoan, _, hl, overdue, _, ho,
    rfl, -⟩ := h
  have hb := Body.quantity_lt hb
  have hl := Body.quantity_lt hl
  have ho := Body.quantity_lt ho
  refine ⟨rfl, rfl, rfl, (Borrower.inRange_iff _).mpr ⟨?_, ?_, ?_⟩⟩ <;> dsimp only <;> omega

end Sys2Proof.Machine
end

section
/-! SUPPORT. What the clock, the upload, the management unit and the resets keep of the borrower table (R49), and the
settling of O54. -/

namespace Sys2Proof.Machine

section
variable {s : State}

/-- A confined operation keeps the table within its bounds. -/
theorem State.borrowersOk.after {t : State} (h : s.borrowersOk) (ht : s.Confined s → s.Confined t) : t.borrowersOk :=
  (ht (State.Confined.refl s)).table h

/-! ### Clock and upload -/

theorem State.tick_borrowersOk (h : s.borrowersOk) : s.tick.borrowersOk := by
  simp only [State.tick, State.rollMinute]
  repeat' split
  · exact h
  · exact State.borrowersOk.after (by exact h) State.minuteToUpload_confined
  · exact State.borrowersOk.after (by exact h) State.minuteToUpload_confined
  · exact h

/-- R62, R185: the marks cleared at an ACCEPT change no number, balance or count. -/
theorem State.clearMarks_confined {o : State} (h : o.Confined s) (es : List Borrower) : o.Confined (s.clearMarks es) := by
  refine h.step rfl fun hs => hs.map (f := fun e =>
    if e.inFlight && es.any (fun x => x.number == e.number) then { e with changed := false, inFlight := false } else e)
    (fun e => ?_) rfl
  split <;> exact ⟨rfl, rfl⟩

theorem State.acceptEffects_confined {o : State} (h : o.Confined s) (c : Contents) : o.Confined (s.acceptEffects c) := by
  simp only [State.acceptEffects]
  split
  · exact (State.confined_congr (by simp [State.rules]) (by simp)).mpr h
  · exact h
  · exact State.clearMarks_confined h _
  · exact h
  · exact h.step rfl id
  · exact h

@[simp] theorem State.endPass_confined {o : State} (h : o.Confined s) : o.Confined s.endPass := by
  simp only [State.endPass]
  repeat' split
  all_goals simp [h]

theorem State.acceptBlock_confined {o : State} (h : o.Confined s) (b : Block) : o.Confined (s.acceptBlock b) := by
  simp only [State.acceptBlock]
  generalize ht : State.acceptEffects _ b.contents = t
  have hc : o.Confined t := ht ▸ State.acceptEffects_confined ((State.updUpload_confined _).mpr h) _
  repeat' split
  all_goals simp [hc]

@[simp] theorem State.markPage_confined {o : State} (b : Block) (p : PageState) :
    o.Confined (s.markPage b p) ↔ o.Confined s := State.confined_congr (by simp [State.rules]) (by simp)

theorem State.retryBlock_confined {o : State} (h : o.Confined s) (b : Block) : o.Confined (s.retryBlock b) := by
  simp only [State.retryBlock]
  split <;> simp [h]

theorem State.takeReceipt_confined {o : State} (h : o.Confined s) (m : ReceiptMsg) : o.Confined (s.takeReceipt m) := by
  simp only [State.takeReceipt]
  split
  · exact State.acceptBlock_confined h _
  · exact State.retryBlock_confined ((State.updUpload_confined _).mpr h) _
  · simpa [State.mismatch, State.countUpload] using h

theorem State.receiptExpired_confined {o : State} (h : o.Confined s) : o.Confined s.receiptExpired := by
  simp only [State.receiptExpired]
  split
  · exact State.retryBlock_confined ((State.updUpload_confined _).mpr h) _
  · exact h

theorem State.sendCompleted_confined {o : State} (h : o.Confined s) : o.Confined s.sendCompleted := by
  simp only [State.sendCompleted]
  split <;> simp [h]

theorem State.windowEnded_confined {o : State} (h : o.Confined s) : o.Confined s.windowEnded := by
  simp only [State.windowEnded]
  split <;> simp [h]

/-! ### Management -/

theorem State.manage_borrowersOk (h : s.borrowersOk) (i : Instr) (tok : Token) (code : Byte)
    {run : State → State × Answer} (hr : (run s).1.borrowersOk) : (s.manage i tok code run).borrowersOk := by
  simp only [State.manage, State.respond]
  split
  · exact h
  · exact (State.borrowersOk_congr (by simp)).mpr hr

theorem withBody_borrowersOk {α : Type} {p : Body α} {body : List Byte} {f : α → State → State × Answer}
    (h : s.borrowersOk) (hf : ∀ a, parseBody p body = .ok a → (f a s).1.borrowersOk) :
    (withBody p body f s).1.borrowersOk := by
  simp only [withBody]
  split
  · exact h
  · exact hf _ ‹_›

/-- R72: a load writes the shadow bank only. -/
theorem withLoad_borrowers {α : Type} (p : Body α) (body : List Byte) (f : α → Bank → Bank) :
    (withLoad p body f s).1.borrowers = s.borrowers := by
  simp only [withLoad, State.setShadow]
  repeat' split
  all_goals rfl

theorem State.loadCalendar_borrowers (body : List Byte) : (State.loadCalendar body s).1.borrowers = s.borrowers := by
  simp only [State.loadCalendar, State.setShadow]
  repeat' split
  all_goals rfl

/-- R64: an entry put in the place of one that stands, or created. -/
theorem State.putBorrowerEntry_borrowersOk (h : s.borrowersOk) {e : Borrower} (he : e.inRange = true) :
    (State.putBorrowerEntry e s).1.borrowersOk := by
  simp only [State.putBorrowerEntry]
  split
  · rename_i x hx
    exact h.put he (.inl (by simp [hx]))
  · split
    · rename_i t ht
      exact State.createBorrower_borrowersOk h he ht
    · exact h

theorem State.deleteBorrower_borrowersOk (h : s.borrowersOk) (b : Nat) : (State.deleteBorrower b s).1.borrowersOk := by
  simp only [State.deleteBorrower]
  split
  · exact h.drop b
  · exact h

theorem State.setClock_borrowersOk (h : s.borrowersOk) (v : Nat × Nat × Nat) : (State.setClock v s).1.borrowersOk := by
  simp only [State.setClock]
  split
  · exact State.borrowersOk.after ((State.borrowersOk_congr (by simp)).mpr h) State.minuteToUpload_confined
  · exact (State.borrowersOk_congr (by simp)).mpr h

theorem State.swapBanks_borrowers : s.swapBanks.1.borrowers = s.borrowers := by
  simp only [State.swapBanks]
  split <;> simp

theorem State.commandLock_confined {o : State} (h : o.Confined s) (on : Bool) (ns : List StationNo) :
    o.Confined (State.commandLock on ns s).1 :=
  foldl_confined (fun _ _ h => by simpa using h) ns h

theorem State.clearStation_confined {o : State} (h : o.Confined s) (n : StationNo) :
    o.Confined (State.clearStation n s).1 := by
  simp only [State.clearStation]
  split <;> simp [h]

theorem State.deskConfigured_confined {o : State} (h : o.Confined s) (v : List StationNo × Nat × Nat × Nat) :
    o.Confined (State.deskConfigured v s).1 :=
  foldl_confined (fun _ _ h => by simp [State.configureDesk, h]) v.1 h

theorem State.alertsConfigured_confined {o : State} (h : o.Confined s) (v : List StationNo × AlertFields) :
    o.Confined (State.alertsConfigured v s).1 := by
  refine foldl_confined (fun t n h => ?_) v.1 h
  simp only [State.configureAlerts]
  split <;> simp [h]

theorem State.clearAlert_confined {o : State} (h : o.Confined s) (v : StationNo × Level) :
    o.Confined (State.clearAlert v s).1 := by
  simp only [State.clearAlert]
  split <;> simp [h]

theorem State.serviceConfigured_confined {o : State} (h : o.Confined s) (f : ServiceFields) :
    o.Confined (State.serviceConfigured f s).1 := by
  simp only [State.serviceConfigured, State.reviewTrip]
  split <;> simp [h]

theorem State.triggered_confined {o : State} (h : o.Confined s) : o.Confined s.triggered.1 := by
  simp only [State.triggered]
  split <;> simp [h]

theorem State.stopped_confined {o : State} (h : o.Confined s) : o.Confined s.stopped.1 := by
  simp only [State.stopped, State.stopRun]
  repeat' split
  all_goals simp [h]

/-- R198: a management command taken, or held, keeps the table within its bounds. -/
theorem State.takeCommand_borrowersOk (h : s.borrowersOk) (i : Instr) : (s.takeCommand i).borrowersOk := by
  have unchanged {t : State} (ht : t.borrowers = s.borrowers) : t.borrowersOk := (State.borrowersOk_congr ht).mpr h
  have body {α : Type} (i : Instr) (tok : Token) (code : Byte) {p : Body α} {b : List Byte}
      {f : α → State → State × Answer} (hf : ∀ a, (f a s).1.borrowersOk) :
      (s.manage i tok code (withBody p b f)).borrowersOk :=
    State.manage_borrowersOk h _ _ _ (withBody_borrowersOk h fun a _ => hf a)
  have load {α : Type} (i : Instr) (tok : Token) (code : Byte) (p : Body α) (b : List Byte) (f : α → Bank → Bank) :
      (s.manage i tok code (withLoad p b f)).borrowersOk :=
    State.manage_borrowersOk h _ _ _ (unchanged (withLoad_borrowers _ _ _))
  cases i with
  | unknownCommand tok code body =>
    simp only [State.takeCommand]
    split
    · exact h
    · exact State.manage_borrowersOk h _ _ _ h
  | borrowerPut =>
    refine State.manage_borrowersOk h _ _ _ (withBody_borrowersOk h fun e he => ?_)
    obtain ⟨-, -, -, hr⟩ := parse_borrowerPut he
    exact State.putBorrowerEntry_borrowersOk h hr
  | borrowerDelete => exact body _ _ _ fun b => State.deleteBorrower_borrowersOk h b
  | borrowerRead =>
    refine body _ _ _ fun b => ?_
    simp only [State.readBorrower]
    split <;> exact h
  | itemPut =>
    refine body _ _ _ fun e => ?_
    simp only [State.putItem]
    split <;> exact h
  | itemDelete =>
    refine body _ _ _ fun k => ?_
    simp only [State.deleteItem]
    split <;> exact h
  | badgeSet => exact body _ _ _ fun _ => h
  | shadowClear => exact load _ _ _ _ _ _
  | ruleLoad => exact load _ _ _ _ _ _
  | matrixLoad => exact load _ _ _ _ _ _
  | categoryLoad => exact load _ _ _ _ _ _
  | bankSettingsLoad => exact load _ _ _ _ _ _
  | calendarLoad => exact State.manage_borrowersOk h _ _ _ (unchanged (State.loadCalendar_borrowers _))
  | closedDatesLoad => exact load _ _ _ _ _ _
  | openDatesLoad => exact load _ _ _ _ _ _
  | bankSwap => exact body _ _ _ fun _ => unchanged State.swapBanks_borrowers
  | clockSet => exact body _ _ _ fun v => State.setClock_borrowersOk h v
  | stationLock => exact body _ _ _ fun ns => h.after fun hs => State.commandLock_confined hs _ ns
  | stationUnlock => exact body _ _ _ fun ns => h.after fun hs => State.commandLock_confined hs _ ns
  | stationClear => exact body _ _ _ fun n => h.after fun hs => State.clearStation_confined hs n
  | deskConfig => exact body _ _ _ fun v => h.after fun hs => State.deskConfigured_confined hs v
  | alertConfig => exact body _ _ _ fun v => h.after fun hs => State.alertsConfigured_confined hs v
  | alertPoll => exact body _ _ _ fun _ => h
  | alertClear => exact body _ _ _ fun v => h.after fun hs => State.clearAlert_confined hs v
  | serviceConfig => exact body _ _ _ fun f => h.after fun hs => State.serviceConfigured_confined hs f
  | uploadProgram =>
    refine body _ _ _ fun p => ?_
    simp only [State.programLoaded]
    split <;> exact h
  | uploadConfig =>
    refine body _ _ _ fun f => ?_
    simp only [State.uploadConfigured]
    split <;> exact h
  | uploadTrigger => exact body _ _ _ fun _ => h.after State.triggered_confined
  | uploadStop => exact body _ _ _ fun _ => h.after State.stopped_confined
  | journalConfig => exact body _ _ _ fun v => unchanged (by simp [State.journalConfigured])
  | journalClear =>
    refine body _ _ _ fun _ => unchanged ?_
    simp only [State.clearJournal]
    split <;> simp
  | alarmConfig => exact body _ _ _ fun v => unchanged (by simp [State.alarmsConfigured])
  | latch =>
    refine body _ _ _ fun g => ?_
    simp only [State.latchGroup]
    split <;> exact h
  | snapshotRead =>
    refine body _ _ _ fun g => ?_
    cases g <;> simp only [State.readGroup] <;> split <;> exact h
  | flagsReadClear => exact body _ _ _ fun _ => h
  | statusRead => exact body _ _ _ fun _ => h
  | restart => exact body _ _ _ fun _ => h
  | _ => exact h

/-! ### Resets -/

/-- R206, R207: a reset that retains the table clears its in-flight marks. -/
theorem State.retained_borrowersOk (h : s.borrowersOk) (kind : ResetKind) (clock : Clock) (straps : Byte) :
    (s.retained kind clock straps).borrowersOk :=
  h.map (f := fun e => { e with inFlight := false }) (fun _ => ⟨rfl, rfl⟩) rfl

theorem State.powerOn_borrowersOk (h : s.borrowersOk) (retain : Bool) (straps : Byte) :
    (s.powerOn retain straps).borrowersOk := by
  cases retain with
  | true => exact State.retained_borrowersOk h _ _ _
  | false => exact ⟨Nat.zero_le _, List.Pairwise.nil, nofun⟩

/-! ### Commands -/

theorem ite_borrowersOk {t u : State} (b : Prop) [Decidable b] (ht : t.borrowersOk) (hu : u.borrowersOk) :
    (if b then t else u).borrowersOk := by
  split <;> assumption

/-- Every command keeps the borrower table within its bounds. -/
theorem exec_borrowersOk (h : s.borrowersOk) (c : Instr) : ∃ t, exec c s = .next t ∧ t.borrowersOk := by
  have hf : s.fresh.borrowersOk := h
  by_cases hc : deskOrService c = true
  · obtain ⟨t, ht, hs⟩ := exec_confined c s hc
    exact ⟨t, ht, hs.table h⟩
  · cases c with
    | secondTick => exact ⟨_, rfl, State.tick_borrowersOk hf⟩
    | minuteArrival => exact ⟨_, rfl, ite_borrowersOk _ hf (State.tick_borrowersOk hf)⟩
    | sendCompletion => exact ⟨_, rfl, hf.after State.sendCompleted_confined⟩
    | receipt m => exact ⟨_, rfl, hf.after fun hs => State.takeReceipt_confined hs m⟩
    | receiptPatienceExpiry => exact ⟨_, rfl, hf.after State.receiptExpired_confined⟩
    | windowEnd => exact ⟨_, rfl, hf.after State.windowEnded_confined⟩
    | powerOn retain straps => exact ⟨_, rfl, State.powerOn_borrowersOk h retain straps⟩
    | restartTakesEffect straps =>
      exact ⟨_, rfl, ite_borrowersOk _ (foldl_preserves (P := State.borrowersOk)
        (fun _ i h => State.takeCommand_borrowersOk h i) _ (State.retained_borrowersOk h _ _ _)) hf⟩
    | scan | key | headStatus | attach | deskFrameDiscarded | silenceTimeout | transactionTimerExpiry | reply
    | queryPatienceExpiry | lingerEnd | probeTimerExpiry | probeAnswer | trunkLinkDown | trunkLinkUp
    | trunkMessageDiscarded | slipHoldExpiry => exact absurd rfl hc
    | _ => exact ⟨_, rfl, State.takeCommand_borrowersOk hf _⟩

end
end Sys2Proof.Machine

namespace Sys2Proof.Proofs
open Sys2Proof Sys2Proof.Machine

/-- Settles O54: the postings, the creation of an entry and the marks of an upload keep the table within its bounds,
and no other operation reaches it. -/
theorem borrowerTableInvariant : Obligations.BorrowerTableInvariant := by
  intro s t h ht
  unfold step at ht
  split at ht
  · cases ht
    exact h
  · rename_i c rest _
    obtain ⟨u, hu, hok⟩ := exec_borrowersOk (s := { s with pending := rest }) h c
    rw [hu] at ht
    cases ht
    exact hok

end Sys2Proof.Proofs
end

section
/-! SUPPORT. What a table command answers, and what the creation and the removal of a borrower entry make of the table
and of the stations (R51, R52, R59, R64 to R66). -/

namespace Sys2Proof.Machine

variable {s u : State} {e : Borrower} {b : Nat}

/-! ### Answers -/

/-- R198: a command whose effect sends nothing and leaves the trunk link: its response is all that is sent. -/
theorem State.manage_effect {α : Type} {p : Body α} {body : List Byte} {a : α} (i : Instr) (tok : Token) (code : Byte)
    {f : α → State → State × Answer} {x : Answer} (hr : s.mgmt.restarting = false) (hb : parseBody p body = .ok a)
    (hf : f a s.fresh = (u, x)) (hsent : u.sent = []) (hlink : u.service.linkUp = s.service.linkUp) :
    s.fresh.manage i tok code (withBody p body f) = u.sending (s.onTrunk [.response tok code x.result x.body]) := by
  rw [State.manage_withBody i tok code f hr hb, hf, State.sendTrunk_eq, hsent]
  simp [State.onTrunk, hlink]

/-- R199: one that changes nothing. -/
theorem State.manage_unchanged {α : Type} {p : Body α} {body : List Byte} {a : α} (i : Instr) (tok : Token)
    (code : Byte) {f : α → State → State × Answer} {x : Answer} (hr : s.mgmt.restarting = false)
    (hb : parseBody p body = .ok a) (hf : f a s.fresh = (s.fresh, x)) :
    s.fresh.manage i tok code (withBody p body f) = s.answered tok code x.result x.body :=
  State.manage_effect (u := s.fresh) i tok code hr hb hf rfl rfl

/-! ### The stations at a creation and a removal -/

theorem Ctx.track_eq (c : Ctx) (b : Nat) : c.track b =
    if c.chargesFor b = true ∧ c.tracked = false then { c with tracked := true, view := none } else c := by
  simp [Ctx.track]

theorem Ctx.untrack_eq (c : Ctx) (e : Borrower) : c.untrack e =
    if c.chargesFor e.number = true ∧ c.tracked = true then
      { c with tracked := false, view := some ⟨e.category, e.onLoan⟩ } else c := by
  simp [Ctx.untrack]

/-! ### Eviction -/

/-- R51: an entry may be evicted exactly where it stands unchanged and no station charges for its borrower. -/
theorem State.evictable_iff : s.evictable b = true ↔
    (∃ e, s.borrower? b = some e ∧ e.changed = false) ∧ ∀ n, (s.st n).ctx.chargesFor b = false := by
  have hany : (s.stations.any fun t => t.ctx.chargesFor b) = false ↔ ∀ n, (s.st n).ctx.chargesFor b = false := by
    simp only [State.st, Vector.any_eq_false, Bool.not_eq_true]
    exact ⟨fun h n => h n.val n.isLt, fun h k hk => h ⟨k, hk⟩⟩
  simp only [State.evictable]
  split
  · rename_i e he
    simp [he, hany]
  · rename_i he
    simp [he]

/-- R51: the evictee is the least recent entry that may be evicted. -/
theorem State.evictee_eq {xs ys : List Nat} {v : Nat} (hs : s.recency = xs ++ v :: ys) (hv : s.evictable v = true)
    (hys : ∀ w ∈ ys, s.evictable w = false) : s.evictee = some v := by
  have hnone : ys.reverse.find? s.evictable = none := List.find?_eq_none.mpr fun w hw => by
    simp [hys w (List.mem_reverse.mp hw)]
  simp [State.evictee, hs, List.find?_append, hnone, hv]

/-! ### Creation -/

/-- R51, R64: a LOADED entry is created, once there is room, beside the recency list. -/
theorem State.createBorrower_loaded (ho : e.origin = .loaded) (hu : s.makeRoom = some u) :
    s.createBorrower e = some ((u.setBorrower e).mapCtx fun c => c.track e.number) := by
  simp [State.createBorrower, hu, ho]

theorem State.makeRoom_roomy (h : s.borrowers.length < 4096) : s.makeRoom = some s := if_pos h

/-- R51: a full table evicts. -/
theorem State.makeRoom_full (h : 4096 ≤ s.borrowers.length) : s.makeRoom = s.evictee.map s.dropBorrower := by
  rw [State.makeRoom, if_neg (by simpa [Config.maxBorrowers] using h)]
  cases s.evictee <;> rfl

/-- R64: BORROWER_PUT of a number without an entry, once there is room. -/
theorem State.putBorrowerEntry_created (ho : e.origin = .loaded) (hnone : s.borrower? e.number = none)
    (hu : s.makeRoom = some u) :
    State.putBorrowerEntry e s = ((u.setBorrower e).mapCtx fun c => c.track e.number, .done) := by
  simp [State.putBorrowerEntry, hnone, State.createBorrower_loaded ho hu]

end Sys2Proof.Machine

namespace Sys2Proof.Proofs
open Sys2Proof Sys2Proof.Machine

/-- Settles O34: the entry is put over the one that stands, or created once there is room. -/
theorem borrowerPutGivesEntry : Obligations.BorrowerPutGivesEntry := by
  intro tok body e s hr hb tracks
  obtain ⟨ho, hchanged, hflight, -⟩ := parse_borrowerPut hb
  have put {u : State} {x : Answer} (hf : State.putBorrowerEntry e s.fresh = (u, x)) (hsent : u.sent = [])
      (hlink : u.service.linkUp = s.service.linkUp) :
      exec (.borrowerPut tok body) s = .next (u.sending (s.onTrunk [.response tok 0x10 x.result x.body])) :=
    congrArg Host.Outcome.next (State.manage_effect (.borrowerPut tok body) tok 0x10 hr hb hf hsent hlink)
  have htracks (u : State) (hu : u.stations = s.stations) :
      tracks (((u.setBorrower e).mapCtx fun c => c.track e.number).sending
        (s.onTrunk [.response tok 0x10 .done []])) := by
    intro n
    rw [State.sending_st, State.mapCtx_st, Ctx.track_eq, State.setBorrower_st, State.st, hu]
    rfl
  refine ⟨ho, hchanged, hflight, fun hstands => ?_, fun hnone hroom => ?_, fun hnone hfull xs v ys hrec hv hfree hys => ?_,
    fun hnone hfull hev => ?_⟩
  · obtain ⟨x, hx⟩ := Option.isSome_iff_exists.mp hstands
    have hf : State.putBorrowerEntry e s.fresh =
        ({ s.fresh.setBorrower e with recency := s.recency.filter (· != e.number) }, .done) := by
      simp only [State.putBorrowerEntry, show s.fresh.borrower? e.number = some x from hx]
      rfl
    exact ⟨_, put hf rfl rfl, State.borrower?_setBorrower_same s e,
      fun b hb => State.borrower?_setBorrower_other s e hb, rfl⟩
  · have hf := State.putBorrowerEntry_created (s := s.fresh) ho hnone (State.makeRoom_roomy hroom)
    exact ⟨_, put hf rfl rfl, State.borrower?_setBorrower_same s e,
      fun b hb => State.borrower?_setBorrower_other s e hb, length_putBorrower_new hnone, htracks _ rfl, rfl⟩
  · obtain ⟨ev, hev, hsame⟩ := hv
    have hkept : ∀ w ∈ ys, s.evictable w = false := fun w hw => by
      rw [← Bool.not_eq_true, State.evictable_iff]
      rintro ⟨⟨ew, hew, hunchanged⟩, hidle⟩
      rcases hys w hw ew hew with h | ⟨n, h⟩
      · simp [h] at hunchanged
      · simp [hidle n] at h
    have hevictee : s.evictee = some v := State.evictee_eq hrec (State.evictable_iff.mpr ⟨⟨ev, hev, hsame⟩, hfree⟩) hkept
    have hmade : s.fresh.makeRoom = some (s.fresh.dropBorrower v) := by
      rw [State.makeRoom_full (by exact hfull), show s.fresh.evictee = some v from hevictee]
      rfl
    have hne : v ≠ e.number := by
      rintro rfl
      rw [hnone] at hev
      cases hev
    exact ⟨_, put (State.putBorrowerEntry_created (s := s.fresh) ho hnone hmade) rfl rfl,
      State.borrower?_setBorrower_same _ e,
      (State.borrower?_setBorrower_other _ e hne).trans (State.borrower?_dropBorrower_same s v),
      fun b hb hbv => (State.borrower?_setBorrower_other _ e hb).trans (State.borrower?_dropBorrower_other s hbv),
      htracks _ rfl, rfl⟩
  · have hcreate : s.fresh.createBorrower e = none := by
      rw [State.createBorrower, State.makeRoom_full (by exact hfull), show s.fresh.evictee = none from hev]
      rfl
    have hf : State.putBorrowerEntry e s.fresh = (s.fresh, ⟨.tableFull, []⟩) := by
      simp only [State.putBorrowerEntry, show s.fresh.borrower? e.number = none from hnone, hcreate]
    exact put hf rfl rfl

/-- R66: the fields of BORROWER_READ one by one. -/
theorem borrowerBytes_eq (s : State) (e : Borrower) : s.borrowerBytes e =
    digits 10 e.number ++ be 1 e.category ++
      ((match e.manual with | some v => 1 :: be 1 v | none => [0, 0]) : List Byte) ++
      ((match e.expiry with | some v => 1 :: be 2 v | none => [0, 0, 0]) : List Byte) ++
      be 3 e.balance ++ be 1 e.onLoan ++ be 1 e.overdue ++
      ([match e.origin with | .loaded => 0 | .learned => 1 | .provisional => 2] : List Byte) ++
      ([if e.changed then 1 else 0, if e.inFlight then 1 else 0] : List Byte) ++
      ((if e.origin = .learned then 1 :: be 2 (s.recency.idxOf e.number + 1) else [0, 0, 0]) : List Byte) := by
  have hbyte (k : Nat) : be 1 k = [byte k] := by simp [be, byte]
  have horigin : byte e.origin.ctorIdx = match e.origin with | .loaded => (0 : Byte) | .learned => 1 | .provisional => 2 := by
    cases e.origin <;> rfl
  have hmanual : optionalField 1 (e.manual.map (be 1)) =
      (match e.manual with | some v => 1 :: be 1 v | none => [0, 0] : List Byte) := by cases e.manual <;> rfl
  have hexpiry : optionalField 2 (e.expiry.map (be 2)) =
      (match e.expiry with | some v => 1 :: be 2 v | none => [0, 0, 0] : List Byte) := by cases e.expiry <;> rfl
  have hmark (x : Bool) : yesNo x = [if x then 1 else 0] := by cases x <;> rfl
  have hplace : optionalField 2 (if e.origin = .learned then some (be 2 (s.recency.idxOf e.number + 1)) else none) =
      if e.origin = .learned then 1 :: be 2 (s.recency.idxOf e.number + 1) else [0, 0, 0] := by split <;> rfl
  simp only [State.borrowerBytes, horigin, hmanual, hexpiry, hmark, hplace]
  simp [hbyte]

/-- Settles O35: a read answers the entry's fields, and a removal leaves its stations UNTRACKED. -/
theorem borrowerReadAndDelete : Obligations.BorrowerReadAndDelete := by
  intro tok body b s hr hb
  refine ⟨fun hnone => ⟨?_, ?_⟩, fun e he => ⟨?_, ?_⟩⟩
  · have hf : State.readBorrower b s.fresh = (s.fresh, ⟨.notFound, []⟩) := by
      simp only [State.readBorrower, show s.fresh.borrower? b = none from hnone]
    exact congrArg Host.Outcome.next (State.manage_unchanged (.borrowerRead tok body) tok 0x12 hr hb hf)
  · have hf : State.deleteBorrower b s.fresh = (s.fresh, ⟨.notFound, []⟩) := by
      simp only [State.deleteBorrower, show s.fresh.borrower? b = none from hnone]
    exact congrArg Host.Outcome.next (State.manage_unchanged (.borrowerDelete tok body) tok 0x11 hr hb hf)
  · have hf : State.readBorrower b s.fresh = (s.fresh, ⟨.done, s.borrowerBytes e⟩) := by
      simp only [State.readBorrower, show s.fresh.borrower? b = some e from he]
      rfl
    exact congrArg Host.Outcome.next ((State.manage_unchanged (.borrowerRead tok body) tok 0x12 hr hb hf).trans
      (congrArg (s.answered tok 0x12 .done) (borrowerBytes_eq s e)))
  · have hf : State.deleteBorrower b s.fresh = ((s.fresh.dropBorrower b).mapCtx fun c => c.untrack e, .done) := by
      simp only [State.deleteBorrower, show s.fresh.borrower? b = some e from he]
    refine ⟨_, congrArg Host.Outcome.next
      (State.manage_effect (.borrowerDelete tok body) tok 0x11 hr hb hf rfl rfl),
      State.borrower?_dropBorrower_same s b, fun c hc => State.borrower?_dropBorrower_other s hc, rfl, fun n => ?_, rfl⟩
    rw [State.sending_st, State.mapCtx_st, Ctx.untrack_eq, (State.borrower?_mem he).2]
    rfl

/-- Settles O36: an entry is put or removed beside the others, and the badge list is made of the numbers carried. -/
theorem itemAndBadgeCommands : Obligations.ItemAndBadgeCommands := by
  refine ⟨fun tok body s hr => ⟨fun e hb => ⟨fun hroom => ?_, fun hnone hfull => ?_⟩, fun item hb =>
    ⟨fun hstands => ?_, fun hnone => ?_⟩⟩, fun tok body ks s hr hb => ?_⟩
  · have hf : State.putItem e s.fresh = ({ s.fresh with exceptions := putException e s.exceptions }, .done) :=
      if_pos hroom
    refine ⟨_, congrArg Host.Outcome.next (State.manage_effect (.itemPut tok body) tok 0x14 hr hb hf rfl rfl), ?_,
      fun k hk => ?_, rfl⟩
    · simp [State.exception?, find_putException]
    · simp [State.exception?, find_putException, Ne.symm hk]
  · have hf : State.putItem e s.fresh = (s.fresh, ⟨.tableFull, []⟩) :=
      if_neg (by simpa [show s.fresh.exception? e.item = none from hnone, Config.maxExceptions] using hfull)
    exact congrArg Host.Outcome.next (State.manage_unchanged (.itemPut tok body) tok 0x14 hr hb hf)
  · have hf : State.deleteItem item s.fresh = (s.fresh.dropException item, .done) := if_pos hstands
    exact ⟨_, congrArg Host.Outcome.next (State.manage_effect (.itemDelete tok body) tok 0x15 hr hb hf rfl rfl),
      State.exception?_dropException_same s item, fun k hk => State.exception?_dropException_other s hk, rfl⟩
  · have hf : State.deleteItem item s.fresh = (s.fresh, ⟨.notFound, []⟩) :=
      if_neg (by simp [show s.fresh.exception? item = none from hnone])
    exact congrArg Host.Outcome.next (State.manage_unchanged (.itemDelete tok body) tok 0x15 hr hb hf)
  · have hf : State.setBadges ks s.fresh = ({ s.fresh with badges := numberSet ks }, .done) := rfl
    exact ⟨_, congrArg Host.Outcome.next (State.manage_effect (.badgeSet tok body) tok 0x18 hr hb hf rfl rfl),
      fun k => mem_numberSet k ks, (sorted_numberSet ks).imp Nat.ne_of_lt, rfl⟩

end Sys2Proof.Proofs
end

section
/-! SUPPORT. A reply that comes too late (R117 to R119), and the settling of O23. -/

namespace Sys2Proof.Machine

variable {s : State} {g : Tag} {q : Question} {k : Nat} {d : LapseDecision} {m : ReplyMsg} {o : ReplyOutcome}

/-! ### Conflicts -/

/-- R119: the record of a conflict, as it is written on behalf of the station of the query. -/
def Record.conflicting (r : Record) (q : Question) : Record :=
  { r with kind := .conflict, station := some q.station, decidedBy := .fallback }

theorem State.conflict_ready {p : Fin 128} (h : s.ready p) (q : Question) (r : Record) :
    s.conflict q r = s.conflicted.recorded p (r.conflicting q) := by
  have hc : s.conflicted.ready p := State.ready_of h rfl rfl rfl
  exact congrArg Prod.snd (State.write_ready hc (r.conflicting q))

/-- R171: without a FILLING page the record is lost. -/
theorem State.conflict_lost (h : s.journal.filling? = none) (ha : s.alarmsSettled) (q : Question) (r : Record) :
    s.conflict q r = s.conflicted.lost :=
  congrArg Prod.snd (State.write_lost s.conflicted (r.conflicting q) h ha)

@[simp] theorem State.conflict_serviceState (q : Question) (r : Record) :
    (s.conflict q r).service.state = s.service.state := by
  simp [State.conflict, State.countService]

/-! ### The comparison -/

/-- R118: the comparison leaves the service state. -/
theorem State.compareLate_serviceState (q : Question) (d : LapseDecision) (o : ReplyOutcome) :
    (s.compareLate q d o).service.state = s.service.state := by
  simp only [State.compareLate, State.compareFine]
  repeat' split
  all_goals simp

/-- R118: with no fine to be computed an ON_LOAN reply conflicts with FINE_PENDING. -/
theorem State.compareFine_unknown (h : s.canFine = false) (q : Question) (r : Record) (x : OnLoan) (at_ : Time) :
    s.compareFine q r x at_ = s.conflict q { r with borrower := some x.borrower, detail := some .fineUnknown } := by
  simp [State.compareFine, h]

/-- R91: the category of the borrower of a fine. -/
theorem State.fineCategory_eq (s : State) (b : Nat) :
    s.fineCategory (some b) = ((s.borrower? b).map (·.category)).getD 15 := by
  simp only [State.fineCategory, Option.bind_some]
  cases s.borrower? b <;> rfl

/-- R118: a fine that the active bank gives agrees where it is 0 and conflicts above it; its flags are raised. -/
theorem State.compareFine_computed {x : OnLoan} {at_ : Time} {i : Nat} {f : FineResult} (h : s.canFine = true)
    (hi : s.ruleIndex? (min x.cls 63) (((s.borrower? x.borrower).map (·.category)).getD 15) = some i)
    (hf : s.fineFrom i (((s.borrower? x.borrower).map (·.category)).getD 15) ⟨x.day, min x.minute 1439⟩ at_ = some f)
    (q : Question) (r : Record) :
    let flags := f.flags.union { classClamped := decide (63 < x.cls) }
    s.compareFine q r x at_ = if f.fine = 0 then s.stick flags.sticky else (s.stick flags.sticky).conflict q { r with
      borrower := some x.borrower, detail := some .fineDiffers, due := some ⟨x.day, min x.minute 1439⟩
      fine := some f.fine, ruleIndex := some i, bankGen := some s.generation, flags := flags } := by
  rw [← State.fineCategory_eq] at hi hf
  have hi' : s.ruleIndex? (clampClass x.cls) (s.fineCategory (some x.borrower)) = some i := hi
  have hf' : s.fineFrom i (s.fineCategory (some x.borrower)) ⟨x.day, min x.minute Config.lastMinute⟩ at_ = some f := hf
  simp only [State.compareFine, h, hi', Option.bind_some, if_true, hf']
  rfl

/-! ### The reply -/

/-- R117: the end of a too-late reply, the service being ONLINE. -/
theorem State.late_answered (h : s.service.state = .online) :
    ((s.freeQuery g).countService fun c => { c with tooLate := sat32 c.tooLate 1 }).matchedReply = s.answeredLate g := by
  have hon : ((((s.freeQuery g).countService fun c => { c with tooLate := sat32 c.tooLate 1 }).countService
      fun c => { c with matched := sat32 c.matched 1 }).updService fun v => { v with count := 0 }).service.state = .online := h
  rw [State.matchedReply, State.setServiceState, if_pos hon]
  rfl

/-- R112, R117: a reply that answers a LAPSED query is compared with its decision, and a FOUND one acts on the table. -/
theorem exec_lateReply (hup : s.service.linkUp = true) (htag : m.tag = g.val) (hgen : m.gen = s.queries[g].gen)
    (hl : s.queries[g].state = .lapsed q k d) (hkind : replyKind? m = some q.kind)
    (htarget : replyTarget? m = some q.target) (ho : replyOutcome? m = some o) :
    exec (.reply m) s = .next (s.fresh.takeLate g q d o) := by
  refine congrArg Host.Outcome.next ?_
  have htagOf : tagOf m.tag = some g := by simp [tagOf, htag]
  have hanswers : replyAnswers m s.fresh.queries[g] q = true := by
    simp only [replyAnswers, hkind, htarget, decide_true, Bool.and_true, decide_eq_true_eq]
    exact hgen
  have hstate : s.fresh.queries[g].state = .lapsed q k d := hl
  simp only [State.takeReply, htagOf, ho, hstate, hanswers, if_true]
  exact State.whileLinkUp_up _ hup

/-- R117: what a too-late reply gives that is not FOUND. -/
theorem State.takeLate_compared (h : s.service.state = .online) (hf : ∀ f, o ≠ .found f) :
    s.takeLate g q d o = (s.compareLate q d o).answeredLate g := by
  have hon := (State.compareLate_serviceState q d o).trans h
  cases o with
  | found f => exact absurd rfl (hf f)
  | _ => exact State.late_answered hon

theorem State.createBorrower_service {e : Borrower} {t : State} (h : s.createBorrower e = some t) :
    t.service = s.service := by
  simp only [State.createBorrower] at h
  obtain ⟨hr, -⟩ | ⟨b, -, hr, -⟩ | ⟨-, hr, -⟩ := s.makeRoom_cases <;> rw [hr] at h <;> cases h <;> split <;> rfl

/-- R117, R118: a FOUND reply agrees with every decision and acts on the borrower table. -/
theorem State.takeLate_found (h : s.service.state = .online) (f : Found) :
    s.takeLate g q d (.found f) = (s.takeFound q.target f).answeredLate g := by
  have hc : s.compareLate q d (.found f) = s := by cases d <;> rfl
  have hon : (s.takeFound q.target f).service.state = .online := by
    simp only [State.takeFound]
    repeat' split
    · exact h
    · exact h
    · cases hcr : s.createBorrower (s.learned q.target f) with
      | none => exact h
      | some t => exact (congrArg Service.state (State.createBorrower_service hcr)).trans h
  simp only [State.takeLate, hc]
  exact State.late_answered hon

end Sys2Proof.Machine

namespace Sys2Proof.Proofs
open Sys2Proof Sys2Proof.Machine

variable {s z : State} {g : Tag} {q : Question} {m : ReplyMsg}

/-- R117, R119: a reply that conflicts, with a journal that is ready and with one without a FILLING page. -/
theorem lateConflict {r : Record} (h : exec (.reply m) s = .next ((z.fresh.conflict q r).answeredLate g)) :
    (∀ p, z.ready p →
      exec (.reply m) s = .next (((z.conflicted.recorded p (r.conflicting q)).answeredLate g).sending [])) ∧
    (z.journal.filling? = none → z.alarmsSettled →
      exec (.reply m) s = .next ((z.conflicted.lost.answeredLate g).sending [])) := by
  refine ⟨fun p hp => h.trans (congrArg Host.Outcome.next ?_), fun hfull ha => h.trans (congrArg Host.Outcome.next ?_)⟩
  · rw [State.conflict_ready (State.ready_of (u := z.fresh) hp rfl rfl rfl)]
    rfl
  · rw [State.conflict_lost (s := z.fresh) hfull ha]
    rfl

/-- R54, R56, R118: what a FOUND reply that is taken too late leaves. -/
theorem lateFound {e : Borrower} (hexec : exec (.reply m) s = .next ((s.fresh.takeFound q.target (replyFound m)).answeredLate g))
    (hcase : s.borrower? q.target = some e ∧ e.origin ≠ .loaded ∨
      s.borrower? q.target = none ∧ s.borrowers.length < 4096 ∧ e.changed = false ∧ e.inFlight = false) :
    ∃ u, exec (.reply m) s = .next u ∧ u.borrower? q.target = some
        { s.learned q.target (replyFound m) with changed := e.changed, inFlight := e.inFlight } ∧
      (∀ c, c ≠ q.target → u.borrower? c = s.borrower? c) ∧
      u.recency = q.target :: s.recency.filter (· != q.target) ∧ u.queries = (s.answeredLate g).queries ∧
      u.service = (s.answeredLate g).service ∧ u.journal = s.journal ∧ u.loans = s.loans ∧ u.sent = [] ∧
      ∀ n, u.st n = { s.st n with ctx := { (s.st n).ctx with
        tracked := (u.st n).ctx.tracked, view := (u.st n).ctx.view } } := by
  obtain ⟨z, hz, hzb, hzo, hzr, hzst, hzrest⟩ := State.takeFound_learns (s := s.fresh) (b := q.target) (f := replyFound m)
    e.changed e.inFlight (hcase.imp (fun ⟨he, hload⟩ => ⟨e, he, hload, rfl, rfl⟩) fun h => h)
  rw [hz] at hexec
  refine ⟨_, hexec, hzb, hzo, hzr, ?_, ?_, ?_, ?_, ?_, fun n => ?_⟩
  · rw [hzrest]; rfl
  · rw [hzrest]; rfl
  · rw [hzrest]; rfl
  · rw [hzrest]; rfl
  · rw [hzrest]; rfl
  · obtain ⟨tr, v, hn⟩ := hzst n
    have hst : (z.answeredLate g).st n = z.st n := rfl
    rw [hst, hn]
    rfl

/-- Settles O23: the outcome of each kind of reply is compared with the decision kept, case by case. -/
theorem lateRepliesAreCompared : Obligations.LateRepliesAreCompared := by
  intro m t q k d s htag hgen hl hon hup hmatch
  have hkind : replyKind? m = some q.kind := by
    rcases hmatch with ⟨hm, hq, -⟩ | ⟨hm, hq, -⟩ | ⟨hm, hq, -⟩ <;> simp [replyKind?, hm, hq]
  have htarget : replyTarget? m = some q.target := by
    rcases hmatch with ⟨hm, -, ht⟩ | ⟨hm, -, ht⟩ | ⟨hm, -, ht⟩ <;> simp [replyTarget?, replyKind?, hm, ht]
  have late {o : ReplyOutcome} (ho : replyOutcome? m = some o) : exec (.reply m) s = .next (s.fresh.takeLate t q d o) :=
    exec_lateReply hup htag hgen hl hkind htarget ho
  have compared {o : ReplyOutcome} (ho : replyOutcome? m = some o) (hf : ∀ f, o ≠ .found f) :
      exec (.reply m) s = .next ((s.fresh.compareLate q d o).answeredLate t) :=
    (late ho).trans (congrArg Host.Outcome.next (State.takeLate_compared (s := s.fresh) hon hf))
  have onLoan {b : Nat} (hm : m.kind = 2) (ho : m.outcome = 4) (hb : plainNumber 10 2 m.borrower = some b) :
      replyOutcome? m = some (.onLoan ⟨b, m.day, m.minute, m.cls, decide (m.hold ≠ 0)⟩) := by
    simp [replyOutcome?, replyKind?, hm, ho, hb]
  refine ⟨fun hagree => ?_, ?_, fun hm ho => ⟨fun e he hload => ?_, ?_⟩, fun r hr => ?_⟩
  · rcases hagree with ⟨hm, ⟨ho, hd⟩ | ⟨ho, hd⟩⟩ | ⟨hm, ho, hd⟩ | ⟨hm, ho, hd⟩
    · subst hd
      exact compared (o := .grant (replyOpt m 2 m.cls)) (by simp [replyOutcome?, replyKind?, hm, ho]) nofun
    · subst hd
      exact compared (o := .refuse m.reason) (by simp [replyOutcome?, replyKind?, hm, ho]) nofun
    · have h := compared (o := .notOnLoan) (by simp [replyOutcome?, replyKind?, hm, ho]) nofun
      rcases hd with rfl | ⟨at_, rfl⟩ <;> exact h
    · have h := compared (o := .unknown) (by simp [replyOutcome?, replyKind?, hm, ho]) nofun
      rcases hd with rfl | rfl <;> exact h
  · intro b i f at_ hm ho hd hb hcan cat due hi hf flags raised r
    subst hd
    have h := compared (onLoan hm ho hb) nofun
    have hfine := State.compareFine_computed (s := s.fresh) (x := ⟨b, m.day, m.minute, m.cls, decide (m.hold ≠ 0)⟩) hcan hi hf q
      { s.record .conflict (some q.station) with item := some q.target }
    refine ⟨fun hzero => ?_, fun hpos => ?_⟩
    · exact h.trans (congrArg (fun u : State => Host.Outcome.next (u.answeredLate t)) (hfine.trans (if_pos hzero)))
    · obtain ⟨hready, hlost⟩ := lateConflict (z := raised) (h.trans
        (congrArg (fun u : State => Host.Outcome.next (u.answeredLate t)) (hfine.trans (if_neg (Nat.ne_of_gt hpos)))))
      exact ⟨fun p hp => hready p (State.ready_of hp rfl rfl rfl), hlost⟩
  · have hexec := (late (o := .found (replyFound m)) (by simp [replyOutcome?, replyKind?, hm, ho])).trans
      (congrArg Host.Outcome.next (State.takeLate_found (s := s.fresh) hon _))
    have hkeeps : s.fresh.takeFound q.target (replyFound m) = s.fresh := by
      simp only [State.takeFound, show s.fresh.borrower? q.target = some e from he, if_pos hload]
    rw [hkeeps] at hexec
    exact hexec
  · intro e hcase new
    have hnew : ({ s.learned q.target (replyFound m) with changed := e.changed, inFlight := e.inFlight } : Borrower) = new := by
      have hcount : s.pendingCount q.target = s.loans.countP fun l => l.borrower == q.target := by
        rw [State.pendingCount, List.countP_eq_length_filter]
      simp only [State.learned, hcount]
      rfl
    rw [← hnew]
    exact lateFound ((late (o := .found (replyFound m)) (by simp [replyOutcome?, replyKind?, hm, ho])).trans
      (congrArg Host.Outcome.next (State.takeLate_found (s := s.fresh) hon _))) hcase
  · have hconflict : ∃ r', exec (.reply m) s = .next ((s.fresh.conflict q r').answeredLate t) ∧ r = r'.conflicting q := by
      rcases hr with ⟨hm, ho, hd, hr⟩ | ⟨hm, ho, hd, hr⟩ | ⟨hm, ho, hd, hr⟩ | ⟨hm, ho, hcan, ⟨at_, hd⟩, b, hb, hr⟩ <;> subst hd
      · exact ⟨_, compared (o := .refuse m.reason) (by simp [replyOutcome?, replyKind?, hm, ho]) nofun, hr⟩
      · exact ⟨_, compared (o := .grant (replyOpt m 2 m.cls)) (by simp [replyOutcome?, replyKind?, hm, ho]) nofun, hr⟩
      · exact ⟨_, compared (o := .unknown) (by simp [replyOutcome?, replyKind?, hm, ho]) nofun, hr⟩
      · exact ⟨_, (compared (onLoan hm ho hb) nofun).trans (congrArg (fun u : State => Host.Outcome.next (u.answeredLate t))
          (State.compareFine_unknown (s := s.fresh) hcan q _ _ _)), hr⟩
    obtain ⟨r', hexec, rfl⟩ := hconflict
    exact lateConflict (z := s) hexec

end Sys2Proof.Proofs
end

section
/-! SUPPORT. The blocks of an upload run: what a receipt matches, how a block is resent or given up, and what follows an
ACCEPT (R183 to R195). -/

namespace Sys2Proof.Machine

variable {s : State} {b : Block}

/-! ### The receipt -/

/-- R190: a receipt that names the block in hand matches it. -/
theorem Upload.matched_hand {u : Upload} (hr : u.run = .awaitReceipt) (hb : u.hand = some b) (v : Verdict) :
    u.matched ⟨b.run, b.slot, b.number, v⟩ = some b := by
  simp [Upload.matched, hr, hb]

/-- R190: in another run state, and for another run, slot or block number, a receipt matches nothing. -/
theorem Upload.matched_none {u : Upload} {m : ReceiptMsg} (h : u.run ≠ .awaitReceipt ∨
    ∃ b, u.hand = some b ∧ (m.run ≠ b.run ∨ m.slot ≠ b.slot ∨ m.block ≠ b.number)) : u.matched m = none := by
  simp only [Upload.matched]
  split
  next c hc =>
    refine if_neg fun ⟨hrun, hr, hs, hn⟩ => ?_
    rcases h with h | ⟨b, hb, h⟩
    · exact h hrun
    · cases hc.symm.trans hb
      rcases h with h | h | h
      · exact h hr
      · exact h hs
      · exact h hn
  next => rfl

theorem exec_receipt_accept (hr : s.upload.run = .awaitReceipt) (hb : s.upload.hand = some b) :
    exec (.receipt ⟨b.run, b.slot, b.number, .accept⟩) s = .next (s.fresh.acceptBlock b) := by
  refine congrArg Host.Outcome.next ?_
  simp only [State.takeReceipt, show s.fresh.upload.matched _ = some b from Upload.matched_hand hr hb _]

theorem exec_receipt_reject (hr : s.upload.run = .awaitReceipt) (hb : s.upload.hand = some b) :
    exec (.receipt ⟨b.run, b.slot, b.number, .reject⟩) s =
      .next ((s.fresh.countUpload fun c => { c with rejects := c.rejects + 1 }).retryBlock b) := by
  refine congrArg Host.Outcome.next ?_
  simp only [State.takeReceipt, show s.fresh.upload.matched _ = some b from Upload.matched_hand hr hb _]

theorem exec_receiptPatienceExpiry (hr : s.upload.run = .awaitReceipt) (hb : s.upload.hand = some b)
    (hw : s.upload.wait = some 0) : exec .receiptPatienceExpiry s =
      .next ((s.fresh.countUpload fun c => { c with timeouts := c.timeouts + 1 }).retryBlock b) := by
  refine congrArg Host.Outcome.next ?_
  simp only [State.receiptExpired, show s.fresh.upload.run = _ from hr, show s.fresh.upload.wait = _ from hw,
    show s.fresh.upload.hand = _ from hb]

/-! ### A block resent or given up -/

theorem State.markPage_pageless (h : b.pageless) (p : PageState) : s.markPage b p = s := by
  simp only [State.markPage]
  split
  next i rs hc => exact absurd hc (h i rs)
  next => rfl

/-- R195: a run that ends before anything has been sent leaves its notice only. -/
theorem State.endRun_fresh (h : s.sent = []) (o : RunOutcome) :
    s.endRun o = { s with upload := s.upload.ended }.sending
      (s.onTrunk [s.stamped (.uploadEnd o s.upload.runNumber s.upload.counts)]) := by
  rw [State.endRun_eq, State.notice, State.sendTrunk_eq, h]
  rfl

/-- R191: with attempts left, the block is sent again. -/
theorem State.retryBlock_resends (h : s.upload.attempts < s.upload.config.attempts) (f : RunCounts → RunCounts) :
    (s.fresh.countUpload f).retryBlock b = ({ s with upload := { s.upload with
      run := .sending, hand := some b, wait := none, attempts := s.upload.attempts + 1
      counts := { f s.upload.counts with sent := (f s.upload.counts).sent + 1 } } }.markPage b .sent).sending
        [.trunk (.block b b.check)] := by
  simp only [State.retryBlock]
  rw [if_pos (by exact h)]
  simp only [State.sendBlock, State.markPage]
  split <;> rfl

/-- R191: with the attempts used, a block without a journal page is given up and the run ends. -/
theorem State.retryBlock_givesUp (h : s.upload.config.attempts ≤ s.upload.attempts) (hb : b.pageless)
    (f : RunCounts → RunCounts) : (s.fresh.countUpload f).retryBlock b =
      { s with upload := { s.upload.ended with counts := f s.upload.counts } }.sending (s.onTrunk
        [s.stamped (.uploadEnd (if s.upload.stop then .abortedStop else .abortedTimeout) s.upload.runNumber
          (f s.upload.counts))]) := by
  simp only [State.retryBlock]
  rw [if_neg (by exact Nat.not_lt.mpr h), State.markPage_pageless hb, State.endRun_fresh rfl]
  rfl

/-! ### The next block -/

/-- R183, R188: from `s` to `t` the first sending of block `k` of the current slot has begun. -/
def State.SendsBlock (s t : State) (k : Nat) : Prop :=
  t.upload.runNumber = s.upload.runNumber ∧
    t.upload.counts = { s.upload.counts with sent := s.upload.counts.sent + 1 } ∧
    t.upload.run = .sending ∧ t.upload.attempts = 1 ∧
    ∃ c, t.upload.hand = some c ∧ c.run = s.upload.runNumber ∧ c.slot = s.upload.slot ∧ c.number = k ∧
      t.sent.getLast? = some (.trunk (.block c c.check))

/-- R188: a block composed is one of the current pass position. -/
theorem State.compose_block (s : State) : ∃ final seq c, s.compose.1 = s.upload.block final seq c := by
  simp only [State.compose]
  repeat' split
  all_goals exact ⟨_, _, _, rfl⟩

/-- R184 to R187: of the upload controller, composing a block changes the section copy only. -/
theorem State.compose_upload (s : State) : ∃ x, s.compose.2.upload = { s.upload with sect := x } := by
  simp only [State.compose]
  repeat' split
  all_goals exact ⟨_, rfl⟩

theorem State.nextBlock_sends (s : State) : s.SendsBlock s.nextBlock s.upload.blockNo := by
  obtain ⟨final, seq, c, hblock⟩ := s.compose_block
  obtain ⟨x, hupload⟩ := s.compose_upload
  simp only [State.SendsBlock, State.nextBlock, State.sendBlock, State.emit, State.updUpload, State.markPage_keeps, hupload,
    hblock, true_and]
  exact ⟨_, rfl, rfl, rfl, rfl, List.getLast?_concat⟩

/-- R183: of the upload controller, the start of a section changes the block number, the hand and the section copy. -/
theorem State.beginSection_upload (s : State) :
    ∃ x, s.beginSection.upload = { s.upload with blockNo := 0, hand := none, sect := x } := by
  simp only [State.beginSection]
  split
  · exact ⟨_, by simp [State.updUpload]; rfl⟩
  all_goals exact ⟨_, rfl⟩

theorem State.runSection_sends (s : State) : s.SendsBlock s.runSection 0 := by
  obtain ⟨x, hupload⟩ := s.beginSection_upload
  have h := s.beginSection.nextBlock_sends
  simp only [State.SendsBlock, hupload] at h
  exact h

/-- R178: a pass runs upwards from the lower of its two slots. -/
theorem Program.first_eq_min (p : Program) : p.first = min p.start p.stop := by
  simp only [Program.first]
  split <;> omega

/-! ### An ACCEPT -/

/-- R190: the ACCEPT of a block of contents c counted and its effects applied. -/
def State.accepted (s : State) (c : Contents) : State :=
  (s.updUpload fun u => { u with
    wait := none, hand := none, counts := { u.counts with accepted := u.counts.accepted + 1 } }).acceptEffects c

@[simp] theorem State.acceptEffects_upload (c : Contents) : (s.acceptEffects c).upload = s.upload := by
  simp only [State.acceptEffects]
  split <;> simp

theorem State.accepted_keeps (s : State) (c : Contents) :
    (s.accepted c).clock = s.clock ∧ (s.accepted c).service = s.service := by
  simp only [State.accepted, State.acceptEffects]
  split <;> simp

theorem State.accepted_upload (s : State) (c : Contents) : (s.accepted c).upload = { s.upload with
    wait := none, hand := none, counts := { s.upload.counts with accepted := s.upload.counts.accepted + 1 } } := by
  simp [State.accepted, State.updUpload]

/-- R183, R190: with the run not stopped, a block that does not end the pass is followed by the next one of its section,
or, after a final one, by block 0 of the next slot. -/
theorem State.acceptBlock_sends (hstop : s.upload.stop = false)
    (hlast : b.final = true → s.upload.slot ≠ s.upload.program.stop) :
    ∃ z : State, z.SendsBlock (s.acceptBlock b) (if b.final then 0 else s.upload.blockNo + 1) ∧
      z.upload.runNumber = s.upload.runNumber ∧ z.upload.slot = (if b.final then s.upload.slot + 1 else s.upload.slot) ∧
      z.upload.counts = { s.upload.counts with accepted := s.upload.counts.accepted + 1 } := by
  have hupload := s.accepted_upload b.contents
  cases hf : b.final with
  | true =>
    have hblock : s.acceptBlock b = ((s.accepted b.contents).updUpload fun u => { u with slot := u.slot + 1 }).runSection := by
      rw [State.accepted]
      simp [State.acceptBlock, hf, hstop, hlast hf]
    refine ⟨_, hblock ▸ State.runSection_sends _, ?_, ?_, ?_⟩ <;> simp [State.updUpload, hupload]
  | false =>
    have hblock : s.acceptBlock b =
        ((s.accepted b.contents).updUpload fun u => { u with blockNo := u.blockNo + 1 }).nextBlock := by
      rw [State.accepted]
      simp [State.acceptBlock, hf, hstop]
    have hsends := State.nextBlock_sends ((s.accepted b.contents).updUpload fun u => { u with blockNo := u.blockNo + 1 })
    rw [← hblock, State.updUpload, hupload] at hsends
    exact ⟨_, hsends, rfl, rfl, rfl⟩

/-- R194: a stopped run ends at the receipt. -/
theorem State.acceptBlock_stopped (hstop : s.upload.stop = true)
    (hlast : b.final = true → s.upload.slot ≠ s.upload.program.stop) :
    s.acceptBlock b = (s.accepted b.contents).endRun .abortedStop := by
  have hupload := s.accepted_upload b.contents
  rw [State.accepted] at hupload ⊢
  simp only [State.acceptBlock, hupload, hstop]
  cases hf : b.final
  · rfl
  · simp [hlast hf]

theorem State.acceptBlock_last (hf : b.final = true) (hslot : s.upload.slot = s.upload.program.stop) :
    s.acceptBlock b = (s.accepted b.contents).endPass := by
  rw [State.accepted]
  simp [State.acceptBlock, hf, hslot]

/-- R183: in NIGHTLY mode a pass ends the run. -/
theorem State.endPass_nightly (h : s.upload.config.mode = .nightly) : s.endPass = State.endRun (s.updUpload fun u => { u with
    counts := { u.counts with passes := u.counts.passes + 1 }, trigger := false }) .complete := by
  simp [State.endPass, State.updUpload, h]

/-- R183: in CONTINUOUS mode with the trigger mark set, another pass begins. -/
theorem State.endPass_continuous (h : s.upload.config.mode = .continuous) (ht : s.upload.trigger = true) :
    s.endPass = (State.newPass (s.updUpload fun u => { u with
      counts := { u.counts with passes := u.counts.passes + 1 } })).runSection := by
  simp [State.endPass, State.updUpload, h, ht]

/-- R183: in CONTINUOUS mode with the trigger mark set, the ACCEPT of the last block of a pass is followed by block 0 of
the first slot under the next run number. -/
theorem State.acceptBlock_newPass (hf : b.final = true) (hslot : s.upload.slot = s.upload.program.stop)
    (hmode : s.upload.config.mode = .continuous) (htrig : s.upload.trigger = true) :
    ∃ z : State, z.SendsBlock (s.acceptBlock b) 0 ∧ z.upload.runNumber = (s.upload.runNumber + 1) % 65536 ∧
      z.upload.slot = min s.upload.program.start s.upload.program.stop ∧
      z.upload.counts = { s.upload.counts with
        accepted := s.upload.counts.accepted + 1, passes := s.upload.counts.passes + 1 } := by
  have hupload := s.accepted_upload b.contents
  have hblock := State.acceptBlock_last hf hslot
  rw [State.endPass_continuous (by rw [hupload]; exact hmode) (by rw [hupload]; exact htrig)] at hblock
  have hsends := hblock ▸ State.runSection_sends _
  refine ⟨_, hsends, ?_, ?_, ?_⟩ <;> simp only [State.newPass, State.updUpload, hupload, Program.first_eq_min]

/-! ### The effects of an ACCEPT -/

/-- R166: freeing a page leaves no fewer FREE pages. -/
theorem Journal.free_setPage_ge (j : Journal) (i : Fin 128) : j.free ≤ (j.setPage i ⟨.free, []⟩).free := by
  rw [Journal.free_eq_countP, Journal.free_eq_countP]
  simp only [Journal.setPage, Vector.toList_set]
  rw [List.countP_set (by simp)]
  simp only [decide_true, if_true]
  split <;> omega

/-- R170: with another page FILLING, a page that is freed leaves JOURNAL_FULL and an inactive JOURNAL_LOW as they stand. -/
theorem Journal.freePage_alarms {j : Journal} {i p : Fin 128} (hp : j.filling? = some p) (hne : p ≠ i)
    (hlow : j.isLow = false) : (j.freePage i).isFull = j.isFull ∧ (j.freePage i).isLow = j.isLow := by
  have hpage : j.freePage i = j.setPage i ⟨.free, []⟩ := by simp [Journal.freePage, hp]
  have hstill : (j.setPage i ⟨.free, []⟩).pages[p].state = .filling := by
    have hi : i.val ≠ p.val := fun h => hne (Fin.ext h.symm)
    simpa [Journal.setPage, Vector.getElem_set, hi] using Journal.filling?_state hp
  rw [hpage]
  constructor
  · have hsome : (j.setPage i ⟨.free, []⟩).filling?.isSome = true := by
      rw [Journal.filling?, List.find?_isSome]
      exact ⟨p, List.mem_finRange p, decide_eq_true hstill⟩
    simp [Journal.isFull, hp, ← Option.not_isSome, hsome]
  · have hfree := j.free_setPage_ge i
    have hmark : (j.setPage i ⟨.free, []⟩).lowMark = j.lowMark := rfl
    rw [hlow]
    simp only [Journal.isLow, hmark, Bool.and_eq_false_iff, decide_eq_false_iff_not] at hlow ⊢
    omega

/-- R190: a block of pending loans, an empty one and one of a journal without a record have no effect of their own. -/
theorem State.acceptEffects_none {c : Contents} (h : (∃ ls, c = .loans ls) ∨ c = .empty ∨ ∃ rs, c = .journal none rs)
    (s : State) : s.acceptEffects c = s := by
  rcases h with ⟨ls, rfl⟩ | rfl | ⟨rs, rfl⟩ <;> rfl

/-- R129, R170: the ACCEPT of a journal page frees it and drops the pending loans of its records. -/
theorem State.acceptEffects_page {i p : Fin 128} (hp : s.journal.filling? = some p) (hne : p ≠ i)
    (hseen : s.journalSeen) (hlow : s.journal.isLow = false) (ha : s.alarmsSettled) (rs : List Record) :
    s.acceptEffects (.journal (some i) rs) = { s with
      journal := { s.journal with pages := s.journal.pages.set i ⟨.free, []⟩ }
      loans := s.loans.filter fun l => !(s.journal.pages[i].records.any fun r => r.seq == l.chargeSeq) } := by
  obtain ⟨hfull, hl⟩ := hseen
  obtain ⟨hfull', hl'⟩ := Journal.freePage_alarms hp hne hlow
  simp only [State.acceptEffects]
  rw [State.evalJournal_settled (by exact hfull'.trans hfull) (by exact hl'.trans hl), State.settle_settled _ (by exact ha)]
  simp [State.dropLoansOf, Journal.freePage, hp, Journal.setPage]

/-- R187: each tally less what the block carried. -/
theorem Tallies.values_reduce (t c : Tallies) :
    (t.reduce c).values = List.zipWith (fun a c => a - c) t.values c.values := rfl

end Sys2Proof.Machine

namespace Sys2Proof.Proofs
open Sys2Proof Sys2Proof.Machine

variable {s : State} {b : Block}

/-- R183, R195: in NIGHTLY mode the ACCEPT of the last block of a pass ends the run COMPLETE, after the effects of the
block. -/
theorem exec_accept_complete (hr : s.upload.run = .awaitReceipt) (hb : s.upload.hand = some b) (hf : b.final = true)
    (hslot : s.upload.slot = s.upload.program.stop) (hmode : s.upload.config.mode = .nightly) {c : Contents}
    (hc : b.contents = c) (hsent : (s.fresh.accepted c).sent = []) (done : RunCounts) (hdone : done =
      { s.upload.counts with accepted := s.upload.counts.accepted + 1, passes := s.upload.counts.passes + 1 }) :
    exec (.receipt ⟨b.run, b.slot, b.number, .accept⟩) s = .next { s.fresh.accepted c with
      upload := { s.upload.ended with counts := done }
      sent := s.onTrunk [s.stamped (.uploadEnd .complete s.upload.runNumber done)] } := by
  obtain ⟨hclock, hservice⟩ := s.fresh.accepted_keeps c
  have hupload := s.fresh.accepted_upload c
  rw [exec_receipt_accept hr hb, State.acceptBlock_last (s := s.fresh) hf hslot, hc,
    State.endPass_nightly (by rw [hupload]; exact hmode), State.endRun_fresh (by exact hsent)]
  simp only [State.updUpload, State.onTrunk, State.stamped, hclock, hservice, hupload, hdone]
  rfl

/-- Settles O29: the receipt and the countdown case by case, each by what the run does next. -/
theorem uploadBlockHandling : Obligations.UploadBlockHandling := by
  intro s
  refine ⟨fun hr => ?_, fun m hm => ?_, ?_⟩
  · refine congrArg Host.Outcome.next ?_
    rw [State.sendCompleted, if_pos (by exact hr)]
    rfl
  · refine congrArg Host.Outcome.next ?_
    simp only [State.takeReceipt, show s.fresh.upload.matched m = none from Upload.matched_none hm]
    rfl
  intro b hr hb page given
  have hpage (x : State) : page x = x.markPage b .sent := by
    simp only [page, State.markPage]
    cases b.contents with
    | journal i rs => cases i <;> rfl
    | _ => rfl
  refine ⟨fun hused hpageless => ⟨?_, fun hw => ?_⟩, fun hleft => ⟨?_, fun hw => ?_⟩, ?_⟩
  · rw [exec_receipt_reject hr hb, State.retryBlock_givesUp hused hpageless]
  · rw [exec_receiptPatienceExpiry hr hb hw, State.retryBlock_givesUp hused hpageless]
  · rw [exec_receipt_reject hr hb, State.retryBlock_resends hleft, hpage]
    simp only [hb]
  · rw [exec_receiptPatienceExpiry hr hb hw, State.retryBlock_resends hleft, hpage]
    simp only [hb]
  intro accept counts
  refine ⟨fun hstop hlast => ?_, fun hf hslot hmode htrig => ?_, fun hstop hlast hc => ?_, fun hf hslot hmode => ?_⟩
  · obtain ⟨z, ⟨-, hcounts, hrun, hatt, c, hhand, hcrun, hcslot, hnum, hsent⟩, hz, hzslot, hzcounts⟩ :=
      State.acceptBlock_sends (s := s.fresh) hstop hlast
    rw [hzcounts] at hcounts
    exact ⟨_, c, exec_receipt_accept hr hb, hrun, hhand, hatt, hcrun.trans hz, hcslot.trans hzslot, hnum, hcounts, hsent⟩
  · obtain ⟨z, ⟨hrunNo, hcounts, hrun, hatt, c, hhand, hcrun, hcslot, hnum, hsent⟩, hz, hzslot, hzcounts⟩ :=
      State.acceptBlock_newPass (s := s.fresh) hf hslot hmode htrig
    rw [hzcounts] at hcounts
    exact ⟨_, c, exec_receipt_accept hr hb, hrun, hhand, hatt, hrunNo.trans hz, hcrun.trans hrunNo.symm, hcslot.trans hzslot,
      hnum, hcounts, hsent⟩
  · have hkeeps := State.acceptEffects_none hc
    refine (exec_receipt_accept hr hb).trans (congrArg Host.Outcome.next ?_)
    rw [State.acceptBlock_stopped (s := s.fresh) hstop hlast, State.accepted, hkeeps, State.endRun_fresh rfl]
    rfl
  intro done ended
  have completes {c : Contents} (hc : b.contents = c) (hsent : (s.fresh.accepted c).sent = []) :=
    exec_accept_complete hr hb hf hslot hmode hc hsent done rfl
  refine ⟨fun es hc => ⟨_, ⟨completes hc rfl, rfl, rfl⟩, ?_, rfl⟩, fun ts hc => ⟨_, ⟨completes hc rfl, rfl, rfl⟩, fun n => ?_, rfl⟩,
    fun hc => ?_, fun i rs p hc hp hne heval hlow ha => ?_⟩
  · simp [State.accepted, State.acceptEffects, State.clearMarks]
  · have hst : (s.fresh.accepted (.tallies ts)).st n = { s.st n with tallies := (s.st n).tallies.reduce (ts.getD n .zero) } := by
      simp [State.accepted, State.acceptEffects, State.st, State.updUpload]
    have htallies := congrArg Station.tallies hst
    exact ⟨hst.trans (congrArg (fun x => ({ s.st n with tallies := x } : Station)) htallies.symm),
      (congrArg Tallies.values htallies).trans (Tallies.values_reduce _ _)⟩
  · have hkeeps := State.acceptEffects_none hc
    refine ⟨_, ⟨completes rfl ?_, rfl, rfl⟩, ?_⟩ <;> rw [State.accepted, hkeeps] <;> rfl
  · have hpage := State.acceptEffects_page (s := s.fresh.updUpload fun u => { u with
      wait := none, hand := none, counts := { u.counts with accepted := u.counts.accepted + 1 } }) hp hne
      (show s.journalSeen from State.evalJournal_eq_self_iff.mp heval) hlow ha rs
    refine ⟨_, ⟨completes hc ?_, rfl, rfl⟩, ?_, ?_, ?_⟩ <;> rw [State.accepted, hpage] <;> rfl

end Sys2Proof.Proofs
end

section
/-! SUPPORT. What the loads of the shadow bank write and answer (R72 to R79), and the settling of O37, O38 and O39. -/

namespace Sys2Proof.Machine

variable {s : State}

/-! ### Fields -/

/-- R209: a number taken from a body lies within its range. -/
theorem Body.nat_bounds {w lo hi k : Nat} {x y : Nat × List Byte} (h : Body.nat w lo hi x = .ok (k, y)) :
    lo ≤ k ∧ k ≤ hi := by
  obtain ⟨off, bs⟩ := x
  simp only [Body.nat, Body.field_run] at h
  split at h
  · cases h
  · split at h <;> cases h
    rename_i hk
    split at hk <;> cases hk
    assumption

/-- R209: `k` fields in a row give `k` values. -/
theorem Body.many_length {α : Type} {p : Body α} {k : Nat} {as : List α} {x y : Nat × List Byte}
    (h : Body.many p k x = .ok (as, y)) : as.length = k := by
  induction k generalizing as x y with
  | zero =>
    obtain ⟨rfl, -⟩ := Body.pure_ok.mp h
    rfl
  | succ k ih =>
    simp only [Body.many, Body.bind_ok, Body.pure_ok] at h
    obtain ⟨a, _, -, rest, _, hrest, rfl, -⟩ := h
    simp [ih hrest]

theorem parse_rule {body : List Byte} {i : Nat} {r : Rule} (h : parseBody ruleBody body = .ok (i, r)) : i < 32 := by
  obtain ⟨y, h⟩ := parseBody_ok h
  simp only [ruleBody, Body.bind_ok, Body.pure_ok, Prod.mk.injEq] at h
  obtain ⟨index, _, hi, _, _, -, _, _, -, _, _, -, _, _, -, _, _, -, _, _, -, ⟨rfl, -⟩, -⟩ := h
  have := Body.nat_bounds hi
  omega

theorem parse_matrix {body : List Byte} {i : Nat} {cells : List Nat} (h : parseBody matrixBody body = .ok (i, cells)) :
    i < 64 ∧ cells.length = 16 := by
  obtain ⟨y, h⟩ := parseBody_ok h
  simp only [matrixBody, Body.list, Body.bind_ok, Body.pure_ok, Prod.mk.injEq] at h
  obtain ⟨cls, _, hi, row, _, ⟨k, _, hk, hrow⟩, ⟨rfl, rfl⟩, -⟩ := h
  have := Body.nat_bounds hi
  have := Body.nat_bounds hk
  have := Body.many_length hrow
  omega

theorem parse_category {body : List Byte} {i : Nat} {k : Category} (h : parseBody categoryBody body = .ok (i, k)) :
    i < 16 := by
  obtain ⟨y, h⟩ := parseBody_ok h
  simp only [categoryBody, Body.bind_ok, Body.pure_ok, Prod.mk.injEq] at h
  obtain ⟨index, _, hi, _, _, -, _, _, -, _, _, -, _, _, -, ⟨rfl, -⟩, -⟩ := h
  have := Body.nat_bounds hi
  omega

/-! ### The shadow bank -/

/-- R72: the completeness that an answer carries counts the marks that are set. -/
theorem Bank.completeness_eq_marks (b : Bank) : b.completeness = b.marks := by
  simp [Bank.completeness, Bank.marks, loadedCount, yesNo, List.countP_eq_length_filter]

/-- R72, R198: a command whose effect is to write the shadow bank changes that bank and nothing else, and its response is
all that is sent. -/
theorem State.manage_shadow {run : State → State × Answer} {b : Bank} {bytes : List Byte} (i : Instr) (tok : Token)
    (code : Byte) (hr : s.mgmt.restarting = false) (hrun : run s.fresh = (s.fresh.setShadow b, ⟨.done, bytes⟩)) :
    ∃ t, s.fresh.manage i tok code run = t ∧ t.shadowBank = b ∧ t.activeBank = s.activeBank ∧
      t = { s with bankA := t.bankA, bankB := t.bankB, sent := s.onTrunk [.response tok code .done bytes] } := by
  have hbanks := s.setShadow_banks b
  refine ⟨(s.setShadow b).sending (s.onTrunk [.response tok code .done bytes]), ?_, hbanks.1, hbanks.2.1, ?_⟩
  · rw [State.manage_taken s.fresh i tok code run hr, hrun, State.sendTrunk_eq]
    cases ha : s.active <;> simp [State.setShadow, State.fresh, State.sending, State.onTrunk, ha]
  · cases ha : s.active <;> simp [State.setShadow, State.sending, ha]

/-- R72: a load with a body that parses. -/
theorem State.manage_load {α : Type} {p : Body α} {body : List Byte} {a : α} (i : Instr) (tok : Token) (code : Byte)
    (f : α → Bank → Bank) (hr : s.mgmt.restarting = false) (hb : parseBody p body = .ok a) :
    ∃ t, s.fresh.manage i tok code (withLoad p body f) = t ∧ t.shadowBank = f a s.shadowBank ∧
      t.activeBank = s.activeBank ∧ t = { s with
        bankA := t.bankA, bankB := t.bankB, sent := s.onTrunk [.response tok code .done t.shadowBank.marks] } := by
  obtain ⟨t, ht, hshadow, hactive, hframe⟩ := State.manage_shadow i tok code hr (withLoad_ok f s.fresh hb)
  rw [Bank.completeness_eq_marks, ← show t.shadowBank = f a s.fresh.shadowBank from hshadow] at hframe
  exact ⟨t, ht, hshadow, hactive, hframe⟩

/-- R73 to R75: one part of a bank replaced at its index. -/
theorem getElem_setIfInBounds_fin {α : Type} {n : Nat} (v : Vector α n) (i : Nat) (x : α) (j : Fin n) :
    (v.setIfInBounds i x)[j] = if j.val = i then x else v[j] := by
  simp [Vector.getElem_setIfInBounds, eq_comm]

/-- R77: a date stays unless a header was loaded before, the base day changed and it lies outside the new window. -/
theorem keptDates_eq (old : Option Header) (h : Header) (ds : List Nat) : keptDates old h ds =
    ds.filter fun d => decide ((old.map (·.base)).getD h.base = h.base ∨ (h.base ≤ d ∧ d < h.base + 512)) := by
  cases old with
  | none => simp [keptDates]
  | some o =>
    by_cases hbase : o.base = h.base
    · simp [keptDates, hbase]
    · have hwindow : h.inWindow = fun d => decide (h.base ≤ d ∧ d < h.base + 512) := by
        funext d
        rw [Bool.decide_and]
        rfl
      simp [keptDates, hbase, hwindow]

end Sys2Proof.Machine

namespace Sys2Proof.Proofs
open Sys2Proof Sys2Proof.Machine

/-- Settles O37: SHADOW_CLEAR is the load of the empty bank. -/
theorem shadowClearEmptiesShadow : Obligations.ShadowClearEmptiesShadow := by
  intro tok s hr
  obtain ⟨t, ht, hshadow, hactive, hframe⟩ := State.manage_load (p := noFields) (body := []) (.shadowClear tok []) tok
    0x20 (fun _ _ => Bank.empty) hr rfl
  have hmarks : Bank.empty.marks = [0, 0, 0, 0, 0] := by decide
  rw [hshadow, hmarks] at hframe
  refine ⟨t, congrArg Host.Outcome.next ht, ?_, ?_, ?_, ?_, ?_, ?_, ?_, hactive, congrArg (·.active) hframe,
    congrArg (·.generation) hframe, hframe⟩ <;> rw [hshadow] <;> simp [Bank.empty]

/-- Settles O38: each load replaces one part of the shadow bank at the index that its body carries. -/
theorem recordLoadsWriteShadow : Obligations.RecordLoadsWriteShadow := by
  intro tok body s hr
  refine ⟨fun i r hb => ?_, fun i cells hb => ?_, fun i k hb => ?_, fun x hb => ?_⟩
  · obtain ⟨t, ht, hshadow, hframe⟩ := State.manage_load (.ruleLoad tok body) tok 0x21 Bank.loadRule hr hb
    refine ⟨t, congrArg Host.Outcome.next ht, parse_rule hb, fun j => ?_, ?_, hframe⟩
    · rw [hshadow]
      exact getElem_setIfInBounds_fin _ i _ j
    · rw [hshadow, Bank.loadRule]
  · obtain ⟨t, ht, hshadow, hframe⟩ := State.manage_load (.matrixLoad tok body) tok 0x22 Bank.loadRow hr hb
    obtain ⟨hi, hlength⟩ := parse_matrix hb
    refine ⟨t, congrArg Host.Outcome.next ht, hi, hlength, fun j => ?_, ?_, hframe⟩
    · rw [hshadow]
      exact getElem_setIfInBounds_fin _ i _ j
    · rw [hshadow, Bank.loadRow]
  · obtain ⟨t, ht, hshadow, hframe⟩ := State.manage_load (.categoryLoad tok body) tok 0x23 Bank.loadCategory hr hb
    refine ⟨t, congrArg Host.Outcome.next ht, parse_category hb, fun j => ?_, ?_, hframe⟩
    · rw [hshadow]
      exact getElem_setIfInBounds_fin _ i _ j
    · rw [hshadow, Bank.loadCategory]
  · obtain ⟨t, ht, hload⟩ := State.manage_load (.bankSettingsLoad tok body) tok 0x24 Bank.loadSettings hr hb
    exact ⟨t, congrArg Host.Outcome.next ht, hload⟩

/-- Settles O39: a header drops the dates that leave its window, and a date list is made of the numbers carried. -/
theorem calendarLoadsWriteShadow : Obligations.CalendarLoadsWriteShadow := by
  intro tok body s hr
  refine ⟨fun h hb => ?_, fun ds hb => ?_, fun ds hb => ?_⟩
  · have hrun : State.loadCalendar body s.fresh = (s.fresh.setShadow (s.shadowBank.loadCalendar h), ⟨.done,
        (s.shadowBank.loadCalendar h).completeness ++
          [byte (s.shadowBank.closedDates.length - (s.shadowBank.loadCalendar h).closedDates.length),
            byte (s.shadowBank.openDates.length - (s.shadowBank.loadCalendar h).openDates.length)]⟩) := by
      simp only [State.loadCalendar, hb]
      rfl
    obtain ⟨t, ht, hshadow, hactive, hframe⟩ := State.manage_shadow (.calendarLoad tok body) tok 0x25 hr hrun
    rw [Bank.completeness_eq_marks, ← hshadow] at hframe
    have hlists := hshadow
    simp only [Bank.loadCalendar, keptDates_eq] at hlists
    rw [show t.shadowBank.closedDates = _ from congrArg Bank.closedDates hlists,
      show t.shadowBank.openDates = _ from congrArg Bank.openDates hlists] at hframe
    exact ⟨t, congrArg Host.Outcome.next ht, hlists, hactive, hframe⟩
  · obtain ⟨t, ht, hshadow, hframe⟩ := State.manage_load (.closedDatesLoad tok body) tok 0x26 Bank.loadClosed hr hb
    have hlist : t.shadowBank.closedDates = numberSet ds := congrArg Bank.closedDates hshadow
    exact ⟨t, congrArg Host.Outcome.next ht, fun d => by rw [hlist, mem_numberSet], hlist ▸ sorted_numberSet ds,
      by rw [hshadow, Bank.loadClosed], hframe⟩
  · obtain ⟨t, ht, hshadow, hframe⟩ := State.manage_load (.openDatesLoad tok body) tok 0x27 Bank.loadOpen hr hb
    have hlist : t.shadowBank.openDates = numberSet ds := congrArg Bank.openDates hshadow
    exact ⟨t, congrArg Host.Outcome.next ht, fun d => by rw [hlist, mem_numberSet], hlist ▸ sorted_numberSet ds,
      by rw [hshadow, Bank.loadOpen], hframe⟩

end Sys2Proof.Proofs
end

section
/-! SUPPORT. A DEVICE_EVENT record with which an alarm ends (R80, R87, R164, R171), and the settling of O40 and O41. -/

namespace Sys2Proof.Machine

variable {s : State}

/-! ### The record and the end of an alarm -/

/-- R80, R87: the DEVICE_EVENT record of station DEVICE. -/
def State.deviceRecord (s : State) (d : Detail) (gen : Option Nat) : Record :=
  { s.record .deviceEvent none with detail := some d, bankGen := gen }

/-- R165: with the journal ready, the record joins the page, and nothing is left to settle. -/
theorem State.deviceEvent_ready {p : Fin 128} (h : s.ready p) (d : Detail) (gen : Option Nat) :
    s.deviceEvent d gen = s.recorded p (s.deviceRecord d gen) := by
  obtain ⟨hfill, hroom, heval, -⟩ := h
  simp only [State.deviceEvent, State.offer_room hfill hroom heval]
  rfl

/-- R171: with no FILLING page, it is lost. -/
theorem State.deviceEvent_lost (h : s.journal.filling? = none) (d : Detail) (gen : Option Nat) :
    s.deviceEvent d gen = s.lost := by
  simp [State.deviceEvent, State.offer_full _ _ h, State.lost, State.stick, StickyFlags.union, sat32, satAdd,
    Config.maxCount32]

/-- A DEVICE_EVENT record leaves the two alarms that are no journal's. -/
theorem State.deviceEvent_alarms (s : State) (d : Detail) (gen : Option Nat) :
    (s.deviceEvent d gen).mgmt.alarms.rulesInvalid = s.mgmt.alarms.rulesInvalid ∧
      (s.deviceEvent d gen).mgmt.alarms.clockUnset = s.mgmt.alarms.clockUnset :=
  ⟨(State.offer_rises s _).rules, (State.offer_rises s _).clock⟩

/-- R80, R87: the record, then the alarms as `f` has them and the ALARM condition (log entry 9). -/
def State.eventThen (s : State) (d : Detail) (gen : Option Nat) (f : Alarms → Alarms) : State :=
  ((s.deviceEvent d gen).setAlarms f).settle

@[simp] theorem State.eventThen_keeps (s : State) (d : Detail) (gen : Option Nat) (f : Alarms → Alarms) :
    (s.eventThen d gen f).borrowers = s.borrowers ∧ (s.eventThen d gen f).exceptions = s.exceptions ∧
    (s.eventThen d gen f).badges = s.badges ∧ (s.eventThen d gen f).bankA = s.bankA ∧
    (s.eventThen d gen f).bankB = s.bankB ∧ (s.eventThen d gen f).active = s.active ∧
    (s.eventThen d gen f).generation = s.generation ∧ (s.eventThen d gen f).clock = s.clock ∧
    (s.eventThen d gen f).queries = s.queries ∧ (s.eventThen d gen f).loans = s.loans ∧
    (s.eventThen d gen f).upload = s.upload := by
  simp [State.eventThen]

/-- R80, R87, R171: where the end of the alarm finds it inactive already, the journal takes the record if it is ready, and
counts it lost if no page is FILLING. -/
theorem State.eventThen_journal {u : State} {d : Detail} {gen : Option Nat} {f : Alarms → Alarms} {r : Record}
    (hj : u.journal = s.journal) (hm : u.mgmt = s.mgmt) (hr : u.deviceRecord d gen = r)
    (hf : f (u.deviceEvent d gen).mgmt.alarms = (u.deviceEvent d gen).mgmt.alarms) :
    (∀ p, s.ready p → (u.eventThen d gen f).journal = (s.recorded p r).journal) ∧
      (s.journal.filling? = none → s.alarmsSettled → (u.eventThen d gen f).journal = s.lost.journal) := by
  have hset : (u.deviceEvent d gen).setAlarms f = u.deviceEvent d gen := by
    simp only [State.setAlarms, hf]
  rw [State.eventThen, hset]
  refine ⟨fun p hp => ?_, fun hnone ha => ?_⟩
  · have hready : u.ready p := (State.ready_congr hj (by rw [hm]) (by rw [hm])).mpr hp
    obtain ⟨-, -, -, ha⟩ := id hready
    rw [State.deviceEvent_ready hready, State.settle_settled (u.recorded p _) ha, hr, State.recorded_journal hj]
  · have ha' : u.alarmsSettled := by rwa [State.alarmsSettled, hm]
    rw [State.deviceEvent_lost (by rwa [hj]), State.settle_settled u.lost ha', State.lost_journal hj]

/-! ### BANK_SWAP -/

/-- R80: the selector names the other bank under the next generation. -/
def State.swapped (s : State) : State := { s with active := s.active.other, generation := (s.generation + 1) % 256 }

/-- R72: the banks are what the selector names. -/
theorem State.banks_congr {t : State} (ha : t.active = s.active) (hA : t.bankA = s.bankA) (hB : t.bankB = s.bankB) :
    t.activeBank = s.activeBank ∧ t.shadowBank = s.shadowBank := by
  simp only [State.activeBank, State.shadowBank, ha, hA, hB, and_self]

theorem State.swapped_banks (s : State) :
    s.swapped.activeBank = s.shadowBank ∧ s.swapped.shadowBank = s.activeBank := by
  cases h : s.active <;> simp [State.swapped, State.activeBank, State.shadowBank, BankName.other, h]

/-- R82: RULES_INVALID ended. -/
def Alarms.rulesEnded (a : Alarms) : Alarms := { a with rulesInvalid := { a.rulesInvalid with active := false } }

theorem Alarms.rulesEnded_same {a : Alarms} (h : a.rulesInvalid.active = false) : a.rulesEnded = a := by
  simp [Alarms.rulesEnded, ← h]

/-- R80, R82: a swap ends RULES_INVALID, since the bank that becomes active is complete. -/
theorem State.swapBanks_complete (h : s.shadowBank.complete = true) : s.swapBanks =
    (s.swapped.eventThen .bankSwapped (some s.swapped.generation) Alarms.rulesEnded, .done) := by
  have hactive : (s.swapped.deviceEvent .bankSwapped (some s.swapped.generation)).activeBank = s.shadowBank :=
    (State.banks_congr (by simp) (by simp) (by simp)).1.trans s.swapped_banks.1
  have hends : (fun a : Alarms => { a with rulesInvalid := { a.rulesInvalid with active :=
      !(s.swapped.deviceEvent .bankSwapped (some s.swapped.generation)).activeBank.complete } }) = Alarms.rulesEnded := by
    rw [hactive, h]
    rfl
  rw [State.swapBanks, if_pos h, State.eventThen, ← hends]
  rfl

/-! ### CLOCK_SET -/

/-- R87: the fields of a CLOCK_SET lie within their ranges. -/
theorem parse_clock {body : List Byte} {d m k : Nat} (h : parseBody clockBody body = .ok (d, m, k)) :
    d ≤ 65535 ∧ m ≤ 1439 ∧ k ≤ 59 := by
  obtain ⟨y, h⟩ := parseBody_ok h
  simp only [clockBody, Body.bind_ok, Body.pure_ok, Prod.mk.injEq] at h
  obtain ⟨day, _, hd, minute, _, hm, second, _, hk, ⟨rfl, rfl, rfl⟩, -⟩ := h
  have := Body.quantity_lt hd
  obtain ⟨-, hm⟩ := Body.nat_bounds hm
  obtain ⟨-, hk⟩ := Body.nat_bounds hk
  exact ⟨by omega, hm, hk⟩

/-- R88: CLOCK_UNSET ended. -/
def Alarms.clockEnded (a : Alarms) : Alarms := { a with clockUnset := { a.clockUnset with active := false } }

theorem Alarms.clockEnded_same {a : Alarms} (h : a.clockUnset.active = false) : a.clockEnded = a := by
  simp [Alarms.clockEnded, ← h]

/-- R184, R203: the early seal moves no alarm but the journal's. -/
theorem State.sealEarly_clockUnset (s : State) : s.sealEarly.mgmt.alarms.clockUnset = s.mgmt.alarms.clockUnset := by
  rw [State.sealEarly, (State.settle_alarms _).2.1, (State.evalJournal_alarms _).2]

theorem State.beginSection_clockUnset (s : State) :
    s.beginSection.mgmt.alarms.clockUnset = s.mgmt.alarms.clockUnset := by
  simp only [State.beginSection]
  split
  · simp only [State.updUpload_keeps, State.sealEarly_clockUnset]
  all_goals rfl

/-- R182: the arrival of a minute, and the run that it may start, leave CLOCK_UNSET. -/
theorem State.minuteToUpload_clockUnset (s : State) :
    s.minuteToUpload.mgmt.alarms.clockUnset = s.mgmt.alarms.clockUnset := by
  have hsection (s : State) : s.runSection.mgmt.alarms.clockUnset = s.mgmt.alarms.clockUnset := by
    have hmgmt : s.runSection.mgmt = s.beginSection.mgmt := by simp [State.runSection]
    rw [hmgmt, State.beginSection_clockUnset]
  have hrun (s : State) : s.startRun.mgmt.alarms.clockUnset = s.mgmt.alarms.clockUnset := by
    simp only [State.startRun]
    split
    · exact hsection _
    · rfl
  simp only [State.minuteToUpload]
  repeat' split
  · exact hrun s
  · rfl
  · rfl

/-- R87: the clock as a CLOCK_SET sets it. -/
def State.clockAt (s : State) (d m k : Nat) : State :=
  { s with clock := { day := d, minute := m, second := k, isSet := true, held := false } }

@[simp] theorem State.clockAt_keeps (s : State) (d m k : Nat) : (s.clockAt d m k).clock = ⟨d, m, k, true, false⟩ ∧
    (s.clockAt d m k).exceptions = s.exceptions ∧ (s.clockAt d m k).badges = s.badges ∧
    (s.clockAt d m k).bankA = s.bankA ∧ (s.clockAt d m k).bankB = s.bankB ∧ (s.clockAt d m k).queries = s.queries :=
  ⟨rfl, rfl, rfl, rfl, rfl, rfl⟩

theorem State.setClock_eq (s : State) (d m k : Nat) : State.setClock (d, m, k) s =
    (if k = 0 then ((s.clockAt d m k).eventThen .clockSet none Alarms.clockEnded).minuteToUpload
      else (s.clockAt d m k).eventThen .clockSet none Alarms.clockEnded, .done) := rfl

/-- R87: what a CLOCK_SET leaves, whether a minute arrives with it or not. -/
theorem State.setClock_keeps (s : State) (d m k : Nat) {z : State} (hz : (State.setClock (d, m, k) s).1 = z) :
    z.clock = ⟨d, m, k, true, false⟩ ∧ z.mgmt.alarms.clockUnset.active = false ∧ z.exceptions = s.exceptions ∧
      z.badges = s.badges ∧ z.bankA = s.bankA ∧ z.bankB = s.bankB ∧ z.queries = s.queries := by
  have hunset : ((s.clockAt d m k).eventThen .clockSet none Alarms.clockEnded).mgmt.alarms.clockUnset.active = false :=
    congrArg Alarm.active (State.settle_alarms _).2.1
  rw [State.setClock_eq] at hz
  subst hz
  dsimp only
  split
  · rw [State.minuteToUpload_clockUnset]
    simp [hunset]
  · simp [hunset]

end Sys2Proof.Machine

namespace Sys2Proof.Proofs
open Sys2Proof Sys2Proof.Machine

/-- Settles O40: the swap, its record and the end of RULES_INVALID reach none of the fields named. -/
theorem bankSwapExchangesBanks : Obligations.BankSwapExchangesBanks := by
  intro tok s hr
  have hexec := State.manage_withBody (s := s) (p := noFields) (body := []) (.bankSwap tok []) tok 0x28
    (fun _ => State.swapBanks) hr rfl
  refine ⟨fun hc => ?_, fun hc => ?_⟩
  · rw [State.swapBanks_complete (s := s.fresh) hc] at hexec
    refine ⟨_, congrArg Host.Outcome.next hexec, ?_⟩
    simp only [State.sendTrunk_keeps, State.eventThen_keeps]
    obtain ⟨hactive, hshadow⟩ := s.fresh.swapped_banks
    refine ⟨(State.banks_congr (by simp) (by simp) (by simp)).1.trans hactive,
      (State.banks_congr (by simp) (by simp) (by simp)).2.trans hshadow, rfl, rfl, rfl, ?_, rfl, rfl, rfl, rfl,
      State.sendTrunk_answers _ _ _ _ _, fun hinactive => State.eventThen_journal rfl rfl rfl ?_⟩
    · exact congrArg Alarm.active (State.settle_alarms _).1
    · exact Alarms.rulesEnded_same (by rw [(State.deviceEvent_alarms _ _ _).1]; exact hinactive)
  · refine congrArg Host.Outcome.next (hexec.trans ?_)
    rw [State.swapBanks, if_neg (by simpa using (show s.fresh.shadowBank.complete = false from hc)), State.fresh_answered]

/-- Settles O41: the clock, its record and the end of CLOCK_UNSET, and with a second of 0 the arrival of a minute. -/
theorem clockSetSetsClock : Obligations.ClockSetSetsClock := by
  intro tok body d m k s hr hb
  have hexec := State.manage_withBody (s := s) (.clockSet tok body) tok 0x29 State.setClock hr hb
  obtain ⟨hd, hm, hk⟩ := parse_clock hb
  obtain ⟨hclock, hunset, hexceptions, hbadges, hA, hB, hqueries⟩ := State.setClock_keeps s.fresh d m k rfl
  refine ⟨_, congrArg Host.Outcome.next hexec, ?_⟩
  simp only [State.sendTrunk_keeps]
  refine ⟨hd, hm, hk, hclock, hunset, hexceptions, hbadges, hA, hB, hqueries, fun hne => ?_,
    State.sendTrunk_answers _ _ _ _ _, fun hne hinactive => ?_⟩ <;> rw [State.setClock_eq, if_neg hne]
  · simp [State.clockAt, State.fresh]
  · refine State.eventThen_journal rfl rfl rfl (Alarms.clockEnded_same ?_)
    rw [(State.deviceEvent_alarms _ _ _).2]
    exact hinactive

end Sys2Proof.Proofs
end

section
/-! SUPPORT. The second that rolls the minute, and the run that a minute arrival starts (R86, R182, R193), and the settling
of O27. -/

namespace Sys2Proof.Machine

variable {s : State}

/-! ### The start of a run -/

/-- R183: what the start of a section and its first block make of the upload controller. -/
theorem State.runSection_upload (s : State) : ∃ sect hand counts, s.runSection.upload = { s.upload with
    run := .sending, blockNo := 0, hand := hand, sect := sect, attempts := 1, wait := none, counts := counts } := by
  obtain ⟨x, hbegin⟩ := s.beginSection_upload
  obtain ⟨y, hcompose⟩ := s.beginSection.compose_upload
  rw [hbegin] at hcompose
  refine ⟨y, some s.beginSection.compose.1, { s.upload.counts with sent := s.upload.counts.sent + 1 }, ?_⟩
  simp only [State.runSection, State.nextBlock, State.sendBlock, State.emit, State.updUpload, State.markPage_keeps, hcompose]

/-- R182: a run starts under the next run number, SENDING or PAUSED as the service is ONLINE or not. -/
theorem State.startRun_upload (s : State) :
    s.startRun.upload.run = (if s.service.state = .online then .sending else .paused) ∧
      s.startRun.upload.runNumber = (s.upload.runNumber + 1) % 65536 ∧ s.startRun.upload.trigger = true ∧
      s.startRun.upload.stop = false ∧
      (s.upload.config.mode = .nightly → s.startRun.upload.window = some s.upload.config.windowLength) := by
  by_cases h : s.service.state = .online
  · simp only [State.startRun]
    rw [if_pos (by exact h), if_pos h]
    obtain ⟨sect, hand, counts, hsection⟩ := State.runSection_upload _
    rw [hsection]
    exact ⟨rfl, rfl, rfl, rfl, fun hm => by simp [State.newPass, State.updUpload, hm]⟩
  · simp only [State.startRun]
    rw [if_neg (by exact h), if_neg h]
    exact ⟨rfl, rfl, rfl, rfl, fun hm => by simp [State.newPass, State.updUpload, hm]⟩

/-! ### The arrival of a minute -/

theorem State.minuteToUpload_idle (h : s.upload.run = .idle) : s.minuteToUpload =
    if s.upload.config.mode = .nightly ∧ s.clock.minute = s.upload.config.windowStart then s.startRun else s :=
  if_pos h

theorem State.minuteToUpload_running (h : s.upload.run ≠ .idle) :
    s.minuteToUpload = s.updUpload fun u => { u with window := u.window.map (· - 1) } :=
  if_neg h

/-! ### The clock -/

/-- R86: the second after second 59. -/
theorem State.tick_rolls (h : s.clock.second = 59) : s.tick = s.countSecond.rollMinute :=
  if_neg (by simp [State.countSecond, h])

/-- R86: at every minute but the last of the last day a minute arrives. -/
theorem State.rollMinute_arrives (hs : s.clock.second = 59) (hm : s.clock.minute ≤ 1439) (hd : s.clock.day ≤ 65535)
    (h : ¬ (s.clock.day = 65535 ∧ s.clock.minute = 1439)) :
    s.rollMinute = State.minuteToUpload { s with clock := s.clock.after } := by
  simp only [State.rollMinute, Clock.after, hs, Config.lastMinute, Config.lastDay]
  by_cases hminute : s.clock.minute < 1439
  · simp [hminute]
  · have hday : s.clock.day < 65535 := by omega
    simp [hminute, hday]

/-- R86: at the last minute of the last day the clock is held, and no minute arrives. -/
theorem State.rollMinute_held (hs : s.clock.second = 59) (hm : s.clock.minute = 1439) (hd : s.clock.day = 65535) :
    s.rollMinute = State.stick { s with clock := s.clock.after } { clockClamped := true } := by
  simp [State.rollMinute, Clock.after, hs, hm, hd, Config.lastMinute, Config.lastDay]

theorem State.tick_clock (hm : s.clock.minute ≤ 1439) (hd : s.clock.day ≤ 65535) (hs : s.clock.second ≤ 59) :
    s.tick.clock = s.clock.after := by
  rcases Nat.lt_or_eq_of_le hs with hlt | hs
  · rw [State.tick_within s hlt, Clock.after, if_pos hlt]
  · rw [State.tick_rolls hs]
    by_cases hlast : s.clock.day = 65535 ∧ s.clock.minute = 1439
    · rw [State.rollMinute_held (s := s.countSecond) hs hlast.2 hlast.1]
      rfl
    · have hclock (z : State) : z.minuteToUpload.clock = z.clock := by simp
      rw [State.rollMinute_arrives (s := s.countSecond) hs hm hd hlast, hclock]
      rfl

end Sys2Proof.Machine

namespace Sys2Proof.Proofs
open Sys2Proof Sys2Proof.Machine

/-- Settles O27: within the minute, at the arrival of a minute, and at the last minute of the last day. -/
theorem secondMovesClock : Obligations.SecondMovesClock := by
  intro s hs hm hd
  refine ⟨⟨_, rfl, State.tick_clock (s := s.fresh) hm hd hs, fun hday hminute hsec => ?_, fun hsec hlast => ?_⟩,
    fun hsec => ?_, fun hsec => ?_⟩
  · rw [State.tick_rolls (s := s.fresh) hsec, State.rollMinute_held (s := s.fresh.countSecond) hsec hminute hday]
    exact ⟨Bool.or_true _, rfl, rfl⟩
  · rw [State.tick_rolls (s := s.fresh) hsec, State.rollMinute_arrives (s := s.fresh.countSecond) hsec hm hd hlast]
    refine ⟨fun hrun => ?_, fun hidle => ⟨fun hstart => ?_, fun hother => ?_⟩⟩
    · rw [State.minuteToUpload_running (by exact hrun)]
      exact ⟨rfl, rfl⟩
    · rw [State.minuteToUpload_idle (by exact hidle), if_pos (by exact hstart)]
      obtain ⟨hrun, hnumber, htrigger, hstop, hwindow⟩ :=
        State.startRun_upload { s.fresh.countSecond with clock := s.clock.after }
      exact ⟨hrun, hnumber, htrigger, hstop, hwindow hstart.1⟩
    · have hnot : ¬ (s.upload.config.mode = .nightly ∧ s.clock.after.minute = s.upload.config.windowStart) := by
        rintro ⟨hnightly, hminute⟩
        rcases hother with hcontinuous | hne
        · simp [hnightly] at hcontinuous
        · exact hne hminute
      rw [State.minuteToUpload_idle (by exact hidle), if_neg (by exact hnot)]
      exact ⟨hidle, rfl⟩
  · exact congrArg Host.Outcome.next (if_neg (by simp [hsec]))
  · exact congrArg Host.Outcome.next (if_pos hsec)

end Sys2Proof.Proofs
end

section
/-! SUPPORT. The taking effect of a RESTART beside a power-on (R206, R207), and the settling of O32. -/

namespace Sys2Proof.Machine

variable {s : State}

/-- R198, R207: a management command from the queue is taken as one from the messages held is. -/
theorem exec_takeCommand (i : Instr) (s : State) (h : (commandOf i).isSome = true) :
    exec i s = .next (s.fresh.takeCommand i) := by
  cases i with
  | scan | key | headStatus | attach | deskFrameDiscarded | silenceTimeout | transactionTimerExpiry | reply
  | queryPatienceExpiry | lingerEnd | probeTimerExpiry | probeAnswer | trunkLinkDown | trunkLinkUp
  | trunkMessageDiscarded | secondTick | minuteArrival | slipHoldExpiry | sendCompletion | receipt
  | receiptPatienceExpiry | windowEnd | powerOn | restartTakesEffect => cases h
  | _ => rfl

/-- R207: the restart in progress takes effect, and the messages held are taken on the state it leaves. -/
theorem exec_restartTakesEffect (h : s.mgmt.restarting = true) (straps : Byte) : exec (.restartTakesEffect straps) s =
    .next (s.mgmt.held.foldl State.takeCommand (s.retained .restart s.clock straps)) :=
  congrArg Host.Outcome.next (if_pos h)

/-- R206, R207: a RESTART leaves what a power-on with RETAIN valid leaves, but for the clock and what follows it. -/
theorem State.retained_restart (s : State) (straps : Byte) :
    let t := s.retained .powerOnRetained .powerOn straps
    let al := { t.mgmt.alarms with clockUnset := ⟨!s.clock.isSet, s.mgmt.alarms.clockUnset.enable⟩ }
    s.retained .restart s.clock straps = { t with
      clock := s.clock
      stations := t.stations.map fun x => { x with ctx := { x.ctx with lockAlarm := al.holds } }
      mgmt := { t.mgmt with alarms := al, alarmCond := al.holds, startUp := some .restart, lastReset := .restart } } := by
  intro t al
  have hstations : t.stations.map (fun x => { x with ctx := { x.ctx with lockAlarm := al.holds } }) =
      s.stations.map fun x => x.restart al.holds := Vector.map_map ..
  rw [hstations]
  rfl

end Sys2Proof.Machine

namespace Sys2Proof.Proofs
open Sys2Proof Sys2Proof.Machine

/-- Settles O32: `State.retained` is what both resets leave, and no message held reaches it. -/
theorem restartKeepsClock : Obligations.RestartKeepsClock := by
  intro straps s hr
  have hexec := exec_restartTakesEffect hr straps
  refine ⟨fun hheld => ⟨_, _, rfl, ?_, s.retained_restart straps⟩, _, exec_restartTakesEffect (by exact hr) straps,
    hexec, fun i hheld hi => ?_⟩
  · rw [hexec, hheld]
    rfl
  · rw [hexec, hheld, exec_takeCommand i _ hi]
    rfl

end Sys2Proof.Proofs
end

section
/-! SUPPORT. Messages held, and bodies refused (R198, R199, R207, R209), and the settling of O33. -/

namespace Sys2Proof.Machine

variable {s : State}

/-! ### Messages held -/

theorem State.manage_held (i : Instr) (tok : Token) (code : Byte) (run : State → State × Answer)
    (h : s.mgmt.restarting = true) :
    s.manage i tok code run = { s with mgmt := { s.mgmt with held := s.mgmt.held ++ [i] } } :=
  if_pos h

/-- R207: a management command taken while a restart is in progress joins the messages held. -/
theorem State.takeCommand_held (h : s.mgmt.restarting = true) (i : Instr) (hi : (commandOf i).isSome = true)
    (hwf : i.wf = true) : s.takeCommand i = { s with mgmt := { s.mgmt with held := s.mgmt.held ++ [i] } } := by
  cases i with
  | scan | key | headStatus | attach | deskFrameDiscarded | silenceTimeout | transactionTimerExpiry | reply
  | queryPatienceExpiry | lingerEnd | probeTimerExpiry | probeAnswer | trunkLinkDown | trunkLinkUp
  | trunkMessageDiscarded | secondTick | minuteArrival | slipHoldExpiry | sendCompletion | receipt
  | receiptPatienceExpiry | windowEnd | powerOn | restartTakesEffect => cases hi
  | unknownCommand tok code body =>
    have hcode : (!commandCodes.contains code && decide (body.length < 65531)) = true := hwf
    rw [Bool.and_eq_true, Bool.not_eq_true'] at hcode
    exact (if_neg (Bool.eq_false_iff.mp hcode.1)).trans (State.manage_held _ tok code _ h)
  | _ => exact State.manage_held _ _ _ _ h

/-! ### Bodies refused -/

section
variable {α : Type} {message : Token → List Byte → Instr} {code : Byte}

/-- R199, R209: a command that takes the fields of its body and gives no other answer to a field refused. -/
theorem refusesBody_withBody {p : Body α} {f : α → State → State × Answer}
    (hexec : ∀ tok body s, exec (message tok body) s =
      .next (s.fresh.manage (message tok body) tok code (withBody p body f))) :
    refusesBody message code (fun _ => p) fun _ => [] := by
  intro tok body off s hr hbody
  rw [hexec, State.manage_taken s.fresh _ _ _ _ hr, withBody_refused f s.fresh hbody, State.fresh_answered,
    List.append_nil]

/-- R72, R199, R209: a load, whose answer carries the completeness of the shadow bank too (log entry 16). -/
theorem refusesBody_withLoad {p : State → Body α} {f : α → Bank → Bank}
    (hexec : ∀ tok body s, exec (message tok body) s =
      .next (s.fresh.manage (message tok body) tok code (withLoad (p s) body f))) :
    refusesBody message code p fun s => s.shadowBank.marks := by
  intro tok body off s hr hbody
  rw [hexec, State.manage_taken s.fresh _ _ _ _ hr, withLoad_refused f s.fresh hbody, State.fresh_answered,
    Bank.completeness_eq_marks]
  rfl

end

theorem refusesBody_calendarLoad :
    refusesBody .calendarLoad 0x25 (fun _ => calendarBody) fun s => s.shadowBank.marks := by
  intro tok body off s hr hbody
  have hrun : State.loadCalendar body s.fresh = (s.fresh, ⟨.badField, be 2 off ++ s.shadowBank.marks⟩) := by
    simp only [State.loadCalendar, hbody, ← Bank.completeness_eq_marks]
    rfl
  refine congrArg Host.Outcome.next ((State.manage_taken s.fresh (.calendarLoad tok body) tok 0x25 _ hr).trans ?_)
  rw [hrun, State.fresh_answered]

/-- R209: a command without fields refuses the first byte of any body. -/
theorem parse_noFields (v : Byte) (rest : List Byte) : parseBody noFields (v :: rest) = .error 0 := rfl

/-- R198: a station field refuses a value above 7. -/
theorem parse_station_refused {v : Byte} (rest : List Byte) (h : 7 < v.toNat) :
    parseBody Body.station (v :: rest) = .error 0 := by
  have : ¬ v.toNat < 8 := by omega
  simp [parseBody, Body.station, Body.field_run, beNat, this]

/-- R198, R208: where all stations may be named, it refuses one above 7 other than 255. -/
theorem parse_stations_refused {v : Byte} (rest : List Byte) (h : 7 < v.toNat) (hall : v.toNat ≠ 255) :
    parseBody Body.stations (v :: rest) = .error 0 := by
  have : ¬ v.toNat < 8 := by omega
  simp [parseBody, Body.stations, Body.field_run, beNat, this, hall]

end Sys2Proof.Machine

namespace Sys2Proof.Proofs
open Sys2Proof Sys2Proof.Machine

/-- Settles O33: each command is `withBody` or `withLoad` of its fields, which answer a refused body alike. -/
theorem messagesHeldUnknownOrRefused : Obligations.MessagesHeldUnknownOrRefused := by
  refine ⟨⟨fun i s hi hwf hr => ?_, fun tok code body s hr => ⟨fun hcode => ?_, ?_⟩⟩, ?_, ?_, fun v rest =>
    ⟨parse_noFields v rest, fun h => ⟨parse_station_refused rest h, parse_stations_refused rest h⟩⟩⟩
  · rw [exec_takeCommand i s hi, State.takeCommand_held (s := s.fresh) hr i hi hwf]
    rfl
  · have htake : s.fresh.takeCommand (.unknownCommand tok code body) =
        s.fresh.manage (.unknownCommand tok code body) tok code State.unknown := if_neg (Bool.eq_false_iff.mp hcode)
    refine congrArg Host.Outcome.next (htake.trans ?_)
    rw [State.manage_taken s.fresh _ _ _ _ hr, State.unknown, State.fresh_answered]
  · exact congrArg Host.Outcome.next (State.manage_effect (p := noFields) (body := []) (.restart tok []) tok 0x6F
      (f := fun _ => State.beginRestart) hr rfl rfl rfl rfl)
  · refine ⟨?_, ?_, ?_, ?_, ?_, ?_, ?_, ?_, ?_, ?_, ?_, refusesBody_calendarLoad, ?_, ?_, ?_, ?_, ?_, ?_⟩
    case refine_7 | refine_8 | refine_9 | refine_10 | refine_11 | refine_12 | refine_13 =>
      exact refusesBody_withLoad fun _ _ _ => rfl
    all_goals exact refusesBody_withBody fun _ _ _ => rfl
  · and_intros
    all_goals exact refusesBody_withBody fun _ _ _ => rfl

end Sys2Proof.Proofs
end

section
/-! SUPPORT. What the searches of the calendar can find, due times and fines (R83, R94 to R104), and the settling of O52. -/

namespace Sys2Proof.Machine

variable {c : Calendar} {r : Rule} {at_ : Time}

/-! ### Searches -/

/-- R94, R97: the search forward finds a day of its range. -/
theorem Calendar.firstOpen_range {d : Nat} : ∀ {k a : Nat}, (c.firstOpen k a).1 = some d → a ≤ d ∧ d < a + k
  | 0, a, h => by cases h
  | k + 1, a, h => by
    simp only [Calendar.firstOpen] at h
    split at h
    · cases h
      omega
    · have := Calendar.firstOpen_range h
      omega

/-- R98: the search backward finds a day of its range. -/
theorem Calendar.lastOpen_range {a d : Nat} : ∀ {k : Nat}, (c.lastOpen a k).1 = some d → a ≤ d ∧ d < a + k
  | 0, h => by cases h
  | k + 1, h => by
    simp only [Calendar.lastOpen] at h
    split at h
    · cases h
      omega
    · have := Calendar.lastOpen_range h
      omega

/-- R100: the count of OPEN days. -/
theorem Calendar.countOpen_eq : ∀ k a : Nat,
    (c.countOpen k a).1 = (List.range k).countP fun i => c.opens (a + i)
  | 0, _ => rfl
  | k + 1, a => by
    have hshift : (List.range k).countP ((fun i => c.opens (a + i)) ∘ Nat.succ) =
        (List.range k).countP fun i => c.opens (a + 1 + i) := by
      congr 1
      funext i
      exact congrArg c.opens (by simp; omega)
    rw [Calendar.countOpen, Calendar.countOpen_eq k (a + 1), Calendar.classify_isOpen, List.range_succ_eq_map,
      List.countP_cons, List.countP_map, hshift]
    cases c.opens a <;> simp [Nat.add_comm]

/-! ### Due times -/

/-- R99: a due time held at the last minute of the last day. -/
def heldTime (d m : Nat) : Time := if 65535 < d then ⟨65535, 1439⟩ else ⟨d, m⟩

theorem holdDue_eq (u : DueResult) : (holdDue u).due = heldTime u.due.day u.due.minute ∧
    (holdDue u).flags.calendarGap = (u.flags.calendarGap || decide (65535 < u.due.day)) ∧
      (holdDue u).flags.expiryCapped = u.flags.expiryCapped := by
  by_cases h : 65535 < u.due.day <;>
    simp [holdDue, heldTime, Config.lastDay, Config.lastMinute, ResultFlags.union, gapFlag, h]

/-- R94: a day loan falls due at the close of the first OPEN day. -/
theorem dueOfDays_found {a p d : Nat} (h : c.opensFirst (a + p) 15 d) :
    (dueOfDays c a p).due = ⟨d, c.closeMinute d⟩ ∧ (dueOfDays c a p).flags.calendarGap = false := by
  have hd : (c.firstOpen (Config.searchDays + 1) (a + p)).1 = some d := Calendar.firstOpen_found h
  simp only [dueOfDays]
  split <;> simp_all [beyondFlag]

/-- R95: with no OPEN day it falls due at the last of the days looked at. -/
theorem dueOfDays_shut {a p : Nat} (h : c.shut (a + p) 15) :
    (dueOfDays c a p).due = ⟨a + p + 14, 1439⟩ ∧ (dueOfDays c a p).flags.calendarGap = true := by
  have hd : (c.firstOpen (Config.searchDays + 1) (a + p)).1 = none := Calendar.firstOpen_shut h
  simp only [dueOfDays]
  split <;> simp_all [Config.searchDays, Config.lastMinute, ResultFlags.union, gapFlag]

/-- R96: an hour loan charged in the opening hours that ends within them. -/
theorem dueOfHours_fits {p : Nat} (hopen : c.opens at_.day = true) (hlt : at_.minute < c.closeMinute at_.day)
    (hfits : 60 * p ≤ c.closeMinute at_.day - at_.minute) :
    (dueOfHours c at_ p).due = ⟨at_.day, at_.minute + 60 * p⟩ := by
  have hle : at_.minute + 60 * p ≤ c.closeMinute at_.day := by omega
  simp [dueOfHours, Calendar.classify_isOpen, hopen, hlt, hle]

/-- R97: the minutes that an hour loan runs on from the next OPEN day. -/
def minutesOn (c : Calendar) (at_ : Time) (p : Nat) : Nat :=
  if c.opens at_.day && decide (at_.minute < c.closeMinute at_.day) then 60 * p - (c.closeMinute at_.day - at_.minute)
  else 60 * p

/-- R97: an hour loan that does not fit runs on from the first OPEN day of the next 14. -/
theorem dueOfHours_runsOn {p : Nat} (h : c.opens at_.day = true ∧ at_.minute < c.closeMinute at_.day →
    c.closeMinute at_.day - at_.minute < 60 * p) :
    (∀ d, (c.firstOpen 14 (at_.day + 1)).1 = some d → (dueOfHours c at_ p).due =
      ⟨d, min (c.openMinute d + minutesOn c at_ p) (c.closeMinute d)⟩) ∧
    ((c.firstOpen 14 (at_.day + 1)).1 = none → (dueOfHours c at_ p).due = ⟨at_.day + 14, 1439⟩ ∧
      (dueOfHours c at_ p).flags.calendarGap = true) := by
  have hnot : ¬ ((c.classify at_.day).isOpen = true ∧ at_.minute < c.closeMinute at_.day ∧
      at_.minute + 60 * p ≤ c.closeMinute at_.day) := by
    rw [Calendar.classify_isOpen]
    rintro ⟨hopen, hlt, hle⟩
    have := h ⟨hopen, hlt⟩
    omega
  simp only [dueOfHours, if_neg hnot]
  rw [show Config.searchDays = 14 from rfl]
  split <;> simp_all [minutesOn, Calendar.classify_isOpen, Config.lastMinute, ResultFlags.union, gapFlag]

theorem computeDue_days (h : r.unit = .days) :
    computeDue c r at_ none = holdDue (dueOfDays c at_.day r.period) := by
  simp [computeDue, capDue, h]

theorem computeDue_hours (h : r.unit = .hours) : computeDue c r at_ none = holdDue (dueOfHours c at_ r.period) := by
  simp [computeDue, capDue, h]

/-! ### The expiry cap -/

theorem capDue_within {a e : Nat} {u : DueResult} (h : u.due.day ≤ e) : capDue c a (some e) u = u := if_pos h

/-- R98: a due day after the expiry day moves back to the last OPEN day up to it, or to the charge day. -/
theorem capDue_after {a e : Nat} {u : DueResult} (h : e < u.due.day) :
    (capDue c a (some e) u).flags.expiryCapped = true ∧
    (capDue c a (some e) u).flags.calendarGap = u.flags.calendarGap ∧
    (∀ d, (c.lastOpen a (e + 1 - a)).1 = some d → (capDue c a (some e) u).due = ⟨d, c.closeMinute d⟩) ∧
    ((c.lastOpen a (e + 1 - a)).1 = none →
      (capDue c a (some e) u).due = ⟨a, if c.opens a then c.closeMinute a else 1439⟩) := by
  have hnot : ¬ u.due.day ≤ e := by omega
  simp only [capDue, if_neg hnot]
  split <;> simp_all [ResultFlags.union, beyondFlag, Calendar.classify_isOpen, Config.lastMinute]

/-! ### Bounds -/

/-- R83, R94 to R99: a due time from one day to another. -/
def withinDays (lo hi : Nat) (t : Time) : Prop := lo ≤ t.day ∧ t.day ≤ hi ∧ t.minute ≤ 1439

section
variable (hclose : ∀ d, c.closeMinute d ≤ 1439)
include hclose

theorem dueOfDays_within (a p : Nat) : withinDays a (a + p + 14) (dueOfDays c a p).due := by
  simp only [dueOfDays]
  split
  · rename_i d b hd
    have hrange := Calendar.firstOpen_range (congrArg Prod.fst hd)
    simp only [Config.searchDays] at hrange
    exact ⟨by dsimp only; omega, by dsimp only; omega, hclose d⟩
  · exact ⟨by dsimp only; omega, le_refl _, le_refl _⟩

theorem dueOfHours_within (p : Nat) : withinDays at_.day (at_.day + 14) (dueOfHours c at_ p).due := by
  simp only [dueOfHours]
  split
  · rename_i h
    have := hclose at_.day
    exact ⟨le_refl _, by dsimp only; omega, by dsimp only; omega⟩
  · split
    · rename_i d b hd
      have hrange := Calendar.firstOpen_range (congrArg Prod.fst hd)
      simp only [Config.searchDays] at hrange
      exact ⟨by dsimp only; omega, by dsimp only; omega, (Nat.min_le_right _ _).trans (hclose d)⟩
    · exact ⟨by dsimp only; omega, le_refl _, le_refl _⟩

omit hclose in
theorem holdDue_within {u : DueResult} {lo hi : Nat} (hlo : lo ≤ 65535) (h : withinDays lo hi u.due) :
    withinDays lo hi (holdDue u).due := by
  obtain ⟨h1, h2, h3⟩ := h
  rw [(holdDue_eq u).1, heldTime]
  split
  · exact ⟨hlo, by dsimp only; omega, le_refl _⟩
  · exact ⟨h1, h2, h3⟩

theorem capDue_keepsWithin {u : DueResult} {a hi : Nat} (expiry : Option Nat) (h : withinDays a hi u.due) :
    withinDays a hi (capDue c a expiry u).due := by
  cases expiry with
  | none => exact h
  | some e =>
    obtain ⟨h1, h2, h3⟩ := h
    by_cases he : u.due.day ≤ e
    · rw [capDue_within he]
      exact ⟨h1, h2, h3⟩
    · obtain ⟨-, -, hfound, hshut⟩ := capDue_after (c := c) (a := a) (Nat.lt_of_not_le he)
      cases hd : (c.lastOpen a (e + 1 - a)).1 with
      | some d =>
        have hrange := Calendar.lastOpen_range hd
        rw [hfound d hd]
        exact ⟨hrange.1, by dsimp only; omega, hclose d⟩
      | none =>
        rw [hshut hd]
        refine ⟨le_refl _, by dsimp only; omega, ?_⟩
        dsimp only
        split
        · exact hclose a
        · exact le_refl _

/-- R94 to R99: every due day lies from the charge day to the period and 14 days after it. -/
theorem computeDue_within (r : Rule) (expiry : Option Nat) (hday : at_.day ≤ 65535) :
    withinDays at_.day (at_.day + (if r.unit = .days then r.period else 0) + 14) (computeDue c r at_ expiry).due := by
  refine capDue_keepsWithin hclose expiry (holdDue_within hday ?_)
  cases hu : r.unit with
  | days => exact dueOfDays_within hclose _ _
  | hours => exact dueOfHours_within hclose _

end

/-- R98: only the expiry cap raises EXPIRY_CAPPED. -/
theorem computeDue_uncapped (r : Rule) : (computeDue c r at_ none).flags.expiryCapped = false := by
  cases hu : r.unit with
  | days =>
    rw [computeDue_days hu, (holdDue_eq _).2.2]
    simp only [dueOfDays]
    split <;> rfl
  | hours =>
    rw [computeDue_hours hu, (holdDue_eq _).2.2]
    simp only [dueOfHours]
    repeat' split
    all_goals rfl

/-! ### Fines -/

/-- R101: the hours late are held at 65535, with N_SATURATED where they pass it. -/
theorem lateHours_eq (due ret : Time) : (lateHours due ret).1 = min 65535 (((minutesLate due ret).toNat + 59) / 60) ∧
    (lateHours due ret).2.fineCapped = false ∧
      ((lateHours due ret).2.nSaturated = true ↔ 65535 * 60 < minutesLate due ret) := by
  by_cases h : 65535 < ((minutesLate due ret).toNat + 59) / 60
  · have hlate : lateHours due ret = (65535, { nSaturated := true }) := if_pos h
    rw [hlate]
    exact ⟨(Nat.min_eq_left h.le).symm, rfl, iff_of_true rfl (by omega)⟩
  · have hlate : lateHours due ret = (((minutesLate due ret).toNat + 59) / 60, {}) := if_neg h
    rw [hlate]
    exact ⟨(Nat.min_eq_right (Nat.le_of_not_lt h)).symm, rfl, iff_of_false Bool.false_ne_true (by omega)⟩

/-- R100, R101: the units late; of the flags of a fine they raise N_SATURATED alone. -/
theorem unitsLate_eq (c : Calendar) (r : Rule) (due ret : Time) : (unitsLate c r due ret).1 = c.late r due ret ∧
    (unitsLate c r due ret).2.fineCapped = false ∧
      ((unitsLate c r due ret).2.nSaturated = true ↔ r.unit = .hours ∧ 65535 * 60 < minutesLate due ret) := by
  cases hu : r.unit with
  | days =>
    cases hc : r.count <;> simp [unitsLate, lateDays, Calendar.late, hu, hc, Calendar.countOpen_eq, beyondFlag]
  | hours => simpa [unitsLate, Calendar.late, minutesLate, hu] using lateHours_eq due ret

/-- R103, R104: the fine before the item cap. -/
theorem roundFine_eq (n : Nat) (r : Rule) (k : Category) (st : Settings) :
    roundFine st.unit st.mode (scaledFine n r.rate k.multiplier) = fineOf n r k st := by
  change roundFine st.unit st.mode (n * r.rate * k.multiplier / 256) = _
  simp only [roundFine, fineOf]
  generalize n * r.rate * k.multiplier / 256 = scaled
  cases st.mode with
  | truncate => rfl
  | nearestEven =>
    dsimp only
    rcases Nat.lt_trichotomy (2 * (scaled % st.unit)) st.unit with hlt | heq | hgt
    · rw [if_pos hlt, if_pos (.inl hlt)]
    · simp [heq]
    · rw [if_neg (by omega), if_pos hgt, if_neg (by omega)]

theorem fineOf_multiple (n : Nat) (r : Rule) (k : Category) (st : Settings) : ∃ m, fineOf n r k st = m * st.unit := by
  simp only [fineOf]
  repeat' split
  all_goals exact ⟨_, rfl⟩

/-- R102 to R105: the fine by its three cases. -/
theorem computeFine_cases (c : Calendar) (r : Rule) (k : Category) (st : Settings) (due ret : Time) :
    let n := c.late r due ret
    let x := (unitsLate c r due ret).2
    computeFine c r k st due ret =
      if n ≤ r.grace then ⟨0, decide (1 ≤ n), x⟩
      else if r.cap < fineOf n r k st then ⟨r.cap, decide (1 ≤ n), x.union { fineCapped := true }⟩
      else ⟨fineOf n r k st, decide (1 ≤ n), x⟩ := by
  simp only [computeFine, roundFine_eq, (unitsLate_eq c r due ret).1]

end Sys2Proof.Machine

namespace Sys2Proof.Proofs
open Sys2Proof Sys2Proof.Machine

section
variable (c : Calendar) (r : Rule) (at_ : Time)

/-- R94, R95, R99: the due time of a day loan. -/
theorem dueTime_days (h : r.unit = .days) :
    (∀ d, c.opensFirst (at_.day + r.period) 15 d →
      (computeDue c r at_ none).due = heldTime d (c.closeMinute d) ∧
        (computeDue c r at_ none).flags.calendarGap = decide (65535 < d)) ∧
    (c.shut (at_.day + r.period) 15 → (computeDue c r at_ none).due = heldTime (at_.day + r.period + 14) 1439 ∧
      (computeDue c r at_ none).flags.calendarGap = true) := by
  obtain ⟨hdue, hgap, -⟩ := holdDue_eq (dueOfDays c at_.day r.period)
  rw [computeDue_days h, hdue, hgap]
  refine ⟨fun d hd => ?_, fun hshut => ?_⟩
  · obtain ⟨hday, hflag⟩ := dueOfDays_found hd
    rw [hday, hflag]
    exact ⟨rfl, Bool.false_or _⟩
  · obtain ⟨hday, hflag⟩ := dueOfDays_shut hshut
    rw [hday, hflag]
    exact ⟨rfl, Bool.true_or _⟩

/-- R96, R97, R99: the due time of an hour loan. -/
theorem dueTime_hours (h : r.unit = .hours) :
    let left := c.closeMinute at_.day - at_.minute
    let now := c.opens at_.day && decide (at_.minute < c.closeMinute at_.day)
    (now = true → 60 * r.period ≤ left →
      (computeDue c r at_ none).due = heldTime at_.day (at_.minute + 60 * r.period)) ∧
    ((now = true → left < 60 * r.period) →
      (∀ d, c.opensFirst (at_.day + 1) 14 d → (computeDue c r at_ none).due =
        heldTime d (min (c.openMinute d + minutesOn c at_ r.period) (c.closeMinute d))) ∧
      (c.shut (at_.day + 1) 14 → (computeDue c r at_ none).due = heldTime (at_.day + 14) 1439 ∧
        (computeDue c r at_ none).flags.calendarGap = true)) := by
  intro left now
  obtain ⟨hdue, hgap, -⟩ := holdDue_eq (dueOfHours c at_ r.period)
  have hnow : now = true ↔ c.opens at_.day = true ∧ at_.minute < c.closeMinute at_.day := by simp [now]
  rw [computeDue_hours h, hdue, hgap, hnow]
  refine ⟨fun ⟨hopen, hlt⟩ hfits => ?_, fun hover => ?_⟩
  · rw [dueOfHours_fits hopen hlt hfits]
  · obtain ⟨hfound, hnone⟩ := dueOfHours_runsOn hover
    refine ⟨fun d hd => ?_, fun hshut => ?_⟩
    · rw [hfound d (Calendar.firstOpen_found hd)]
    · obtain ⟨hday, hflag⟩ := hnone (Calendar.firstOpen_shut hshut)
      rw [hday, hflag]
      exact ⟨rfl, Bool.true_or _⟩

/-- R98: the expiry cap. -/
theorem dueTime_expiry (e : Nat) :
    let u := computeDue c r at_ none
    let v := computeDue c r at_ (some e)
    (u.due.day ≤ e → v = u) ∧
    (e < u.due.day → v.flags.expiryCapped = true ∧ v.flags.calendarGap = u.flags.calendarGap ∧
      (∀ d, at_.day ≤ d → d ≤ e → c.opens d = true → (∀ x, d < x → x ≤ e → c.opens x = false) →
        v.due = ⟨d, c.closeMinute d⟩) ∧
      (c.shut at_.day (e + 1 - at_.day) →
        v.due = ⟨at_.day, if c.opens at_.day then c.closeMinute at_.day else 1439⟩)) := by
  refine ⟨capDue_within, fun hlate => ?_⟩
  obtain ⟨hcapped, hgap, hfound, hnone⟩ := capDue_after (c := c) (a := at_.day) hlate
  exact ⟨hcapped, hgap,
    fun d h1 h2 hopen hlast => hfound d (Calendar.lastOpen_found h1 hopen (by omega) fun x h3 h4 => hlast x h3 (by omega)),
    fun hshut => hnone (Calendar.lastOpen_shut hshut)⟩

/-- R98: for an expiry day at or after the charge day the due day is at most it. -/
theorem dueTime_capped (e : Nat) (h : at_.day ≤ e) : (computeDue c r at_ (some e)).due.day ≤ e ∧
    ((computeDue c r at_ (some e)).flags.expiryCapped = true ↔ e < (computeDue c r at_ none).due.day) := by
  by_cases hlate : e < (computeDue c r at_ none).due.day
  · obtain ⟨hcapped, -, hfound, hnone⟩ := capDue_after (c := c) (a := at_.day) hlate
    refine ⟨?_, iff_of_true hcapped hlate⟩
    change (capDue c at_.day (some e) (computeDue c r at_ none)).due.day ≤ e
    cases hd : (c.lastOpen at_.day (e + 1 - at_.day)).1 with
    | some d =>
      have := Calendar.lastOpen_range hd
      rw [hfound d hd]
      dsimp only
      omega
    | none =>
      rw [hnone hd]
      exact h
  · have hsame := (dueTime_expiry c r at_ e).1 (Nat.le_of_not_lt hlate)
    rw [hsame, computeDue_uncapped]
    exact ⟨Nat.le_of_not_lt hlate, iff_of_false Bool.false_ne_true hlate⟩

/-- R100 to R105: the fine, its late mark and its flags. -/
theorem fineParts (k : Category) (st : Settings) (due ret : Time) :
    let f := computeFine c r k st due ret
    let n := c.late r due ret
    f.fine = (if n ≤ r.grace then 0 else min r.cap (fineOf n r k st)) ∧ f.late = decide (1 ≤ n) ∧
      f.flags.fineCapped = (decide (r.grace < n) && decide (r.cap < fineOf n r k st)) ∧
      (f.flags.nSaturated = true ↔ r.unit = .hours ∧ 65535 * 60 < minutesLate due ret) ∧
      (f.fine = 0 ∨ f.fine = r.cap ∨ (f.fine < r.cap ∧ ∃ m, f.fine = m * st.unit)) ∧
      (f.flags.fineCapped = true → f.fine = r.cap) := by
  intro f n
  obtain ⟨-, hcapped, hsaturated⟩ := unitsLate_eq c r due ret
  have hf : f = _ := computeFine_cases c r k st due ret
  by_cases hgrace : n ≤ r.grace
  · have hnot : ¬ r.grace < n := by omega
    rw [if_pos hgrace] at hf
    rw [hf, if_pos hgrace, hcapped]
    exact ⟨rfl, rfl, by simp [hnot], hsaturated, .inl rfl, fun h => absurd h Bool.false_ne_true⟩
  · have hlate : r.grace < n := by omega
    rw [if_neg hgrace] at hf
    rw [if_neg hgrace]
    by_cases hcap : r.cap < fineOf n r k st
    · rw [if_pos hcap] at hf
      rw [hf]
      refine ⟨(Nat.min_eq_left hcap.le).symm, rfl, by simp [ResultFlags.union, hlate, hcap], ?_, .inr (.inl rfl),
        fun _ => rfl⟩
      simpa [ResultFlags.union] using hsaturated
    · have hle : fineOf n r k st ≤ r.cap := Nat.le_of_not_lt hcap
      rw [if_neg hcap] at hf
      rw [hf, hcapped]
      refine ⟨(Nat.min_eq_right hle).symm, rfl, by simp [hcap], hsaturated, .inr ?_,
        fun h => absurd h Bool.false_ne_true⟩
      rcases Nat.lt_or_eq_of_le hle with hlt | heq
      · exact .inr ⟨hlt, fineOf_multiple n r k st⟩
      · exact .inl heq

end

/-- Settles O52: the due time by the rule's unit and the expiry day, its bounds, and the fine. -/
theorem dueDatesAndFines : Obligations.DueDatesAndFines :=
  ⟨fun c r at_ => ⟨dueTime_days c r at_, dueTime_hours c r at_, dueTime_expiry c r at_⟩,
    fun _ r _ expiry hday hclose => computeDue_within (fun _ => hclose _) r expiry hday, fineParts, dueTime_capped⟩

end Sys2Proof.Proofs
end
